-- ==== Sys2Proof/Word.lean ====
section
/-! DEFINITION. Word.lean: the indices, bytes and frame numbers of the A48 (00_scope.md, sections 3.1 to 3.6). -/

namespace Sys2Proof

/-- One byte of a port frame or a ring record (R176, R180). -/
abbrev Byte := BitVec 8

/-- A frame number: a 32-bit count of ring frames, 2^32 - 1 followed by 0 (R19). -/
abbrev Frame := BitVec 32

/-- Dish positions 0 to 47 of the array (section 3.5). -/
abbrev DishId := Fin 48

/-- Group slots 0 to 3, also called A to D (section 3.4). -/
abbrev SlotId := Fin 4

/-- Weather masts 0 to 5 (R91). -/
abbrev MastId := Fin 6

/-- Maintenance stations 0 to 3 (R160). -/
abbrev StationId := Fin 4

/-- Every dish index, in ascending order. -/
def allDishes : List DishId := List.finRange 48

/-- Every group slot, in ascending order. -/
def allSlots : List SlotId := List.finRange 4

/-- Every mast, in ascending order. -/
def allMasts : List MastId := List.finRange 6

end Sys2Proof
end

