-- ==== Sys2Proof/Syntax.lean ====
section
/-! DEFINITION. Syntax.lean: the steps of the A48, one constructor of Instr per row of spec/opcode_table.json, with the
operands of chapter 12 (R177, R178) and the named values that stand in commands, records and responses. -/

namespace Sys2Proof

/-! ## Named values -/

/-- The two axes of a dish (section 1.1). -/
inductive Axis where
  | az | el
  deriving DecidableEq, Repr

/-- The three heater circuits of a dish, in the order RIM, INNER, SUBREF (R127, R129). -/
inductive ZoneKind where
  | rim | inner | subref
  deriving DecidableEq, Repr

/-- A heater zone: its dish and its kind, both fixed (R127). -/
structure ZoneId where
  dish : DishId
  kind : ZoneKind
  deriving DecidableEq, Repr

/-- The three ports (R163). -/
inductive Port where
  | scheduler | safety | maintenance
  deriving DecidableEq, Repr

/-- Who sends a transaction: the master of a four-wire port, or one maintenance station (R157, R161). -/
inductive Sender where
  | scheduler | safety
  | station (n : StationId)
  deriving DecidableEq, Repr

/-- The port that carries a sender's transactions. -/
def Sender.port : Sender → Port
  | .scheduler => .scheduler
  | .safety => .safety
  | .station _ => .maintenance

/-- The two four-wire ports, whose transactions time out by R159. -/
inductive FourWire where
  | scheduler | safety
  deriving DecidableEq, Repr

/-- The port of a four-wire link. -/
def FourWire.port : FourWire → Port
  | .scheduler => .scheduler
  | .safety => .safety

/-- The requests of the catalogue (R177). WRITE CONFIG is one request with six sections. -/
inductive Request where
  | fetchResponse
  | openOrder | addMembers | commitOrder | cancelOrder
  | holdGroup | resumeGroup | releaseGroup | abortGroup
  | pushTrack | flushTrack | clearTrackFault | readGroup | readQueue
  | windSample | stowArray | releaseStow | resetWeatherSnapshot | readWeather
  | setAllowance | setMeltGuard | readFeeder
  | meltOrder | cancelMelt | readMelt
  | writeConfig | readConfig | driveReset
  | placeLock | releaseLock | readLocks | censusComplete
  | readDish | takeAttention | endAttention | setAttentionMask | readViolation | portReset
  deriving DecidableEq, Repr

/-! ## Fields of requests

Unsigned fields are natural numbers as wide as R177 and R178 make them (WellFormed.lean), since the owning rule judges a
field on its whole value (R179). Masks and flags are bits. -/

/-- The body of a request whose code and permission have passed: its fields, or a length that R158 case 6 refuses. -/
inductive Body (α : Type) where
  | fields (f : α)
  | wrongLength
  deriving DecidableEq, Repr

/-- The empty body of a request that carries no fields. -/
structure NoFields where
  deriving DecidableEq, Repr

/-- OPEN ORDER (R35): tag, on-arrival action (POSITION 0, TRACK 1), start deadline. -/
structure OpenOrderFields where
  tag : Nat
  action : Nat
  deadline : Nat
  deriving DecidableEq, Repr

/-- One order member record of ADD MEMBERS (R36, R178). -/
structure MemberFields where
  dish : Nat
  skyAz : Nat
  el : Nat
  wrap : Nat
  deriving DecidableEq, Repr

/-- ADD MEMBERS: one to eight member records (R36). -/
structure AddMembersFields where
  records : List MemberFields
  deriving DecidableEq, Repr

/-- COMMIT ORDER: the member count expected (R37). -/
structure CountFields where
  count : Nat
  deriving DecidableEq, Repr

/-- CANCEL ORDER: a tag (R39). -/
structure TagFields where
  tag : Nat
  deriving DecidableEq, Repr

/-- The requests on one group slot carry its number. -/
structure SlotFields where
  slot : Nat
  deriving DecidableEq, Repr

/-- One track entry as carried: two signed increments and the entry flags, bit 0 LAST (R178). -/
structure EntryFields where
  az : Int
  el : Int
  flags : BitVec 8
  deriving DecidableEq, Repr

/-- PUSH TRACK: slot, entry count and the entries that the length carries (R77). -/
structure PushTrackFields where
  slot : Nat
  count : Nat
  entries : List EntryFields
  deriving DecidableEq, Repr

/-- WIND SAMPLE: mast, mean and gust (R92). -/
structure WindSampleFields where
  mast : Nat
  mean : Nat
  gust : Nat
  deriving DecidableEq, Repr

/-- SET ALLOWANCE and SET MELT GUARD: a power in pu (R122, R124). -/
structure ValueFields where
  value : Nat
  deriving DecidableEq, Repr

/-- MELT ORDER: dish or 255, zone mask, energy in kJ, melt flags (bit 0 ice, bit 1 shed) (R129, R178). -/
structure MeltOrderFields where
  dish : Nat
  mask : BitVec 8
  energy : Nat
  flags : BitVec 8
  deriving DecidableEq, Repr

/-- CANCEL MELT: dish or 255, and a zone mask (R131). -/
structure CancelMeltFields where
  dish : Nat
  mask : BitVec 8
  deriving DecidableEq, Repr

/-- The read requests that carry one dish value. -/
structure DishFields where
  dish : Nat
  deriving DecidableEq, Repr

/-- WRITE CONFIG, section DISH: an item is none when its presence bit is clear (R178, R179). -/
structure DishConfigFields where
  dish : Nat
  present : Option Nat
  azVmax : Option Nat
  azA : Option Nat
  azRamp : Option Nat
  azTrack : Option Nat
  elVmax : Option Nat
  elA : Option Nat
  elRamp : Option Nat
  elTrack : Option Nat
  mast : Option Nat
  stowRank : Option Nat
  shedEl : Option Nat
  deriving DecidableEq, Repr

/-- WRITE CONFIG, section MAST: the configured flag of each mast that the write carries (R178). -/
structure MastConfigFields where
  flags : Vector (Option Bool) 6
  deriving DecidableEq, Repr

/-- WRITE CONFIG, section WIND (R90, R178). -/
structure WindConfigFields where
  tripGust : Option Nat
  watchMean : Option Nat
  releaseGust : Option Nat
  staleness : Option Nat
  staleTrip : Option Nat
  holdOff : Option Nat
  deriving DecidableEq, Repr

/-- WRITE CONFIG, section TRACK (R75, R178). -/
structure TrackConfigFields where
  coastLimit : Option Nat
  lowMark : Option Nat
  deriving DecidableEq, Repr

/-- WRITE CONFIG, section MELT (R126, R178). -/
structure MeltConfigFields where
  rim : Option Nat
  inner : Option Nat
  subref : Option Nat
  slot : Option Nat
  deriving DecidableEq, Repr

/-- WRITE CONFIG, section STATION: addresses and enabled flags of the stations that the write carries (R160, R178). -/
structure StationConfigFields where
  addresses : Vector (Option Nat) 4
  enabled : Vector (Option Bool) 4
  deriving DecidableEq, Repr

/-- READ CONFIG: a section, and a dish index that only section DISH reads (R174, R177). -/
structure ReadConfigFields where
  section_ : Nat
  dish : Nat
  deriving DecidableEq, Repr

/-- PLACE LOCK: dish, scope (MOVE 0, HEAT 1, ALL 2), holder tag (R145). -/
structure PlaceLockFields where
  dish : Nat
  scope : Nat
  tag : Nat
  deriving DecidableEq, Repr

/-- RELEASE LOCK: dish and holder tag (R150). -/
structure ReleaseLockFields where
  dish : Nat
  tag : Nat
  deriving DecidableEq, Repr

/-- SET ATTENTION MASK: one mask bit a source, bit 0 for the port's highest source (R169, R178). -/
structure MaskFields where
  mask : BitVec 8
  deriving DecidableEq, Repr

/-- What a valid status report carries of a dish drive unit's state (R30, R180); index and frame have been judged by R31. -/
structure Report where
  az : Int
  el : Int
  moving : Bool
  brakesSet : Bool
  inPosition : Bool
  profileLoaded : Bool
  switchLock : Bool
  fault : Fin 16
  deriving DecidableEq, Repr

/-! ## The steps -/

/-- The steps of the A48: one constructor per row of spec/opcode_table.json. A request carries its sender. -/
inductive Instr where
  | powerOnReset
  | frameStart
  | commandSend (dish : DishId)
  | validReport (dish : DishId) (report : Report)
  | miss (dish : DishId)
  | lossOfDish (dish : DishId)
  | loadAckLimit (slot : SlotId)
  | arrivalGrace (slot : SlotId)
  | orderExpiry (tag : Nat)
  | stowMoveTimeout (dish : DishId)
  | shedMoveTimeout (dish : DishId)
  | admissionRound
  | poweringScan
  | mastStalenessExpiry (mast : MastId)
  | holdOffExpiry
  | meltSlotExpiry (zone : ZoneId)
  | meterTimerExpiry
  | secondsCountTick
  | linkTimeout (link : FourWire)
  | maintenanceLinkTimeout (station : StationId)
  | fetchResponse (src : Sender)
  | unknownRequest (src : Sender) (code : Byte)
  | openOrder (src : Sender) (body : Body OpenOrderFields)
  | addMembers (src : Sender) (body : Body AddMembersFields)
  | commitOrder (src : Sender) (body : Body CountFields)
  | cancelOrder (src : Sender) (body : Body TagFields)
  | holdGroup (src : Sender) (body : Body SlotFields)
  | resumeGroup (src : Sender) (body : Body SlotFields)
  | releaseGroup (src : Sender) (body : Body SlotFields)
  | abortGroup (src : Sender) (body : Body SlotFields)
  | pushTrack (src : Sender) (body : Body PushTrackFields)
  | flushTrack (src : Sender) (body : Body SlotFields)
  | clearTrackFault (src : Sender) (body : Body SlotFields)
  | readGroup (src : Sender) (body : Body SlotFields)
  | readQueue (src : Sender) (body : Body NoFields)
  | windSample (src : Sender) (body : Body WindSampleFields)
  | stowArray (src : Sender) (body : Body NoFields)
  | releaseStow (src : Sender) (body : Body NoFields)
  | resetWeatherSnapshot (src : Sender) (body : Body NoFields)
  | readWeather (src : Sender) (body : Body NoFields)
  | setAllowance (src : Sender) (body : Body ValueFields)
  | setMeltGuard (src : Sender) (body : Body ValueFields)
  | readFeeder (src : Sender) (body : Body NoFields)
  | meltOrder (src : Sender) (body : Body MeltOrderFields)
  | cancelMelt (src : Sender) (body : Body CancelMeltFields)
  | readMelt (src : Sender) (body : Body DishFields)
  | writeConfigDish (src : Sender) (body : Body DishConfigFields)
  | writeConfigMast (src : Sender) (body : Body MastConfigFields)
  | writeConfigWind (src : Sender) (body : Body WindConfigFields)
  | writeConfigTrack (src : Sender) (body : Body TrackConfigFields)
  | writeConfigMelt (src : Sender) (body : Body MeltConfigFields)
  | writeConfigStation (src : Sender) (body : Body StationConfigFields)
  | readConfig (src : Sender) (body : Body ReadConfigFields)
  | driveReset (src : Sender) (body : Body NoFields)
  | placeLock (src : Sender) (body : Body PlaceLockFields)
  | releaseLock (src : Sender) (body : Body ReleaseLockFields)
  | readLocks (src : Sender) (body : Body DishFields)
  | censusComplete (src : Sender) (body : Body NoFields)
  | readDish (src : Sender) (body : Body DishFields)
  | takeAttention (src : Sender) (body : Body NoFields)
  | endAttention (src : Sender) (body : Body NoFields)
  | setAttentionMask (src : Sender) (body : Body MaskFields)
  | readViolation (src : Sender) (body : Body NoFields)
  | portReset (src : Sender) (body : Body NoFields)
  | resetPinAsserted
  | badFrame (src : Sender) (first : Option Byte)
  deriving DecidableEq, Repr

end Sys2Proof
end

