-- ==== Sys2Proof/Decode.lean ====
section
/-! DEFINITION. Decode.lean: the reader of the opcode table's words, and the frames of chapter 12: CRCs, byte order, the
judgement of a collected request (R158), the records inside requests (R178) and status reports (R31, R180, R181). -/

namespace Sys2Proof

/-- The step that a word spells by the bits of spec/opcode_table.json: no row of the table gives bits, so none (log 1). -/
def decodeTableWord (_nbits _w : Nat) : Option Instr := none

/-! ## Bytes: most significant byte first (chapter 12) -/

/-- A field of one byte. -/
def u8 (n : Nat) : List Byte := [BitVec.ofNat 8 n]

/-- An unsigned field of two bytes. -/
def u16 (n : Nat) : List Byte := [BitVec.ofNat 8 (n / 256), BitVec.ofNat 8 n]

/-- An unsigned field of three bytes. -/
def u24 (n : Nat) : List Byte := BitVec.ofNat 8 (n / 65536) :: u16 n

/-- An unsigned field of four bytes. -/
def u32 (n : Nat) : List Byte := BitVec.ofNat 8 (n / 16777216) :: u24 n

/-- A signed field of two bytes, two's complement. -/
def s16 (x : Int) : List Byte := u16 (BitVec.ofInt 16 x).toNat

/-- A signed field of four bytes, two's complement. -/
def s32 (x : Int) : List Byte := u32 (BitVec.ofInt 32 x).toNat

/-- The whole value of an unsigned field. -/
def beNat (bs : List Byte) : Nat := bs.foldl (fun n b => n * 256 + b.toNat) 0

/-- The whole value of a signed field of two bytes. -/
def beInt16 (bs : List Byte) : Int := (BitVec.ofNat 16 (beNat bs)).toInt

/-- The whole value of a signed field of four bytes. -/
def beInt32 (bs : List Byte) : Int := (BitVec.ofNat 32 (beNat bs)).toInt

/-! ## CRCs -/

/-- One shift of the CRC-8 register, polynomial 0x07 (R177). -/
def crc8Shift (r : BitVec 8) : BitVec 8 := if r.msb then (r <<< 1) ^^^ 0x07#8 else r <<< 1

/-- One byte taken into the CRC-8 register: combined, then shifted eight times (R177). -/
def crc8Byte (r b : BitVec 8) : BitVec 8 :=
  crc8Shift (crc8Shift (crc8Shift (crc8Shift (crc8Shift (crc8Shift (crc8Shift (crc8Shift (r ^^^ b))))))))

/-- The CRC-8 of a port frame, initial value 0x00 (R177). -/
def crc8 (bs : List Byte) : Byte := bs.foldl crc8Byte 0

/-- One shift of the CRC-16 register, polynomial 0x1021 (R181). -/
def crc16Shift (r : BitVec 16) : BitVec 16 := if r.msb then (r <<< 1) ^^^ 0x1021#16 else r <<< 1

/-- One byte taken into the upper eight bits of the CRC-16 register, then shifted eight times (R181). -/
def crc16Byte (r : BitVec 16) (b : BitVec 8) : BitVec 16 :=
  crc16Shift (crc16Shift (crc16Shift (crc16Shift (crc16Shift (crc16Shift (crc16Shift (crc16Shift
    (r ^^^ (b.setWidth 16 <<< 8)))))))))

/-- The CRC-16 of a ring record, initial value 0xFFFF (R181). -/
def crc16 (bs : List Byte) : BitVec 16 := bs.foldl crc16Byte 0xFFFF#16

/-! ## The request catalogue (R177) -/

/-- The code of a request. -/
def Request.code : Request → Byte
  | .fetchResponse => 0x00
  | .openOrder => 0x10
  | .addMembers => 0x11
  | .commitOrder => 0x12
  | .cancelOrder => 0x13
  | .holdGroup => 0x14
  | .resumeGroup => 0x15
  | .releaseGroup => 0x16
  | .abortGroup => 0x17
  | .pushTrack => 0x18
  | .flushTrack => 0x19
  | .clearTrackFault => 0x1A
  | .readGroup => 0x1B
  | .readQueue => 0x1C
  | .windSample => 0x20
  | .stowArray => 0x21
  | .releaseStow => 0x22
  | .resetWeatherSnapshot => 0x23
  | .readWeather => 0x24
  | .setAllowance => 0x25
  | .setMeltGuard => 0x26
  | .readFeeder => 0x27
  | .meltOrder => 0x28
  | .cancelMelt => 0x29
  | .readMelt => 0x2A
  | .writeConfig => 0x2B
  | .readConfig => 0x2C
  | .driveReset => 0x2D
  | .placeLock => 0x30
  | .releaseLock => 0x31
  | .readLocks => 0x32
  | .censusComplete => 0x33
  | .readDish => 0x40
  | .takeAttention => 0x41
  | .endAttention => 0x42
  | .setAttentionMask => 0x43
  | .readViolation => 0x44
  | .portReset => 0x45

/-- Every request of the catalogue, in the order of R177's table. -/
def catalogue : List Request :=
  [.fetchResponse, .openOrder, .addMembers, .commitOrder, .cancelOrder, .holdGroup, .resumeGroup, .releaseGroup,
   .abortGroup, .pushTrack, .flushTrack, .clearTrackFault, .readGroup, .readQueue]
  ++ [.windSample, .stowArray, .releaseStow, .resetWeatherSnapshot, .readWeather, .setAllowance, .setMeltGuard,
   .readFeeder, .meltOrder, .cancelMelt, .readMelt, .writeConfig, .readConfig, .driveReset]
  ++ [.placeLock, .releaseLock, .readLocks, .censusComplete, .readDish, .takeAttention, .endAttention,
   .setAttentionMask, .readViolation, .portReset]

/-- The request of a code, if the catalogue has one. -/
def Request.ofCode (c : Byte) : Option Request := catalogue.find? fun r => decide (r.code = c)

/-! ## Fields of requests (R177, R178, R179) -/

/-- A request without fields: length 0. -/
def noFields : List Byte → Body NoFields
  | [] => .fields {}
  | _ :: _ => .wrongLength

/-- A group slot number. -/
def slotFields : List Byte → Body SlotFields
  | [a] => .fields ⟨a.toNat⟩
  | _ => .wrongLength

/-- One dish value. -/
def dishFields : List Byte → Body DishFields
  | [a] => .fields ⟨a.toNat⟩
  | _ => .wrongLength

/-- OPEN ORDER: tag 2, action 1, deadline 2. -/
def openOrderFields : List Byte → Body OpenOrderFields
  | [a, b, c, d, e] => .fields ⟨beNat [a, b], c.toNat, beNat [d, e]⟩
  | _ => .wrongLength

/-- Member records of eight bytes each. -/
def memberRecords : List Byte → Option (List MemberFields)
  | [] => some []
  | a :: b :: c :: d :: e :: f :: g :: h :: rest =>
    (memberRecords rest).map fun ms => ⟨a.toNat, beNat [b, c, d], beNat [e, f, g], h.toNat⟩ :: ms
  | _ => none

/-- ADD MEMBERS: one to eight member records. -/
def addMembersFields (bs : List Byte) : Body AddMembersFields :=
  match memberRecords bs with
  | some ms => if 1 ≤ ms.length ∧ ms.length ≤ 8 then .fields ⟨ms⟩ else .wrongLength
  | none => .wrongLength

/-- COMMIT ORDER: member count 1. -/
def countFields : List Byte → Body CountFields
  | [a] => .fields ⟨a.toNat⟩
  | _ => .wrongLength

/-- CANCEL ORDER: tag 2. -/
def tagFields : List Byte → Body TagFields
  | [a, b] => .fields ⟨beNat [a, b]⟩
  | _ => .wrongLength

/-- Track entries of five bytes each. -/
def trackEntries : List Byte → Option (List EntryFields)
  | [] => some []
  | a :: b :: c :: d :: e :: rest =>
    (trackEntries rest).map fun es => ⟨beInt16 [a, b], beInt16 [c, d], e⟩ :: es
  | _ => none

/-- PUSH TRACK: slot 1, entry count 1, at most 16 entries. -/
def pushTrackFields : List Byte → Body PushTrackFields
  | a :: b :: rest =>
    match trackEntries rest with
    | some es => if es.length ≤ 16 then .fields ⟨a.toNat, b.toNat, es⟩ else .wrongLength
    | none => .wrongLength
  | _ => .wrongLength

/-- WIND SAMPLE: mast 1, mean 2, gust 2. -/
def windSampleFields : List Byte → Body WindSampleFields
  | [a, b, c, d, e] => .fields ⟨a.toNat, beNat [b, c], beNat [d, e]⟩
  | _ => .wrongLength

/-- SET ALLOWANCE and SET MELT GUARD: value 2. -/
def valueFields : List Byte → Body ValueFields
  | [a, b] => .fields ⟨beNat [a, b]⟩
  | _ => .wrongLength

/-- MELT ORDER: dish 1, zone mask 1, energy 3, melt flags 1. -/
def meltOrderFields : List Byte → Body MeltOrderFields
  | [a, b, c, d, e, f] => .fields ⟨a.toNat, b, beNat [c, d, e], f⟩
  | _ => .wrongLength

/-- CANCEL MELT: dish 1, zone mask 1. -/
def cancelMeltFields : List Byte → Body CancelMeltFields
  | [a, b] => .fields ⟨a.toNat, b⟩
  | _ => .wrongLength

/-- An item of a WRITE CONFIG body: none when its presence bit is clear (R179). -/
def item {α : Type} (present : Bool) (x : α) : Option α := if present then some x else none

/-- Section DISH: dish index 1, presence 2, then the twelve items. -/
def dishConfigFields : List Byte → Body DishConfigFields
  | [i, p1, p0, q, a, b, c, d, e, f, g, h, j, k, l, m, n, o, t, r, x, y, z] =>
    let p := beNat [p1, p0]
    .fields
      { dish := i.toNat
        present := item (p.testBit 0) q.toNat
        azVmax := item (p.testBit 1) (beNat [a, b])
        azA := item (p.testBit 2) c.toNat
        azRamp := item (p.testBit 3) (beNat [d, e])
        azTrack := item (p.testBit 4) (beNat [f, g])
        elVmax := item (p.testBit 5) (beNat [h, j])
        elA := item (p.testBit 6) k.toNat
        elRamp := item (p.testBit 7) (beNat [l, m])
        elTrack := item (p.testBit 8) (beNat [n, o])
        mast := item (p.testBit 9) t.toNat
        stowRank := item (p.testBit 10) r.toNat
        shedEl := item (p.testBit 11) (beNat [x, y, z]) }
  | _ => .wrongLength

/-- Section MAST: presence 1, configured flags 1. -/
def mastConfigFields : List Byte → Body MastConfigFields
  | [p, f] => .fields ⟨Vector.ofFn fun i : MastId => item (p.getLsbD i.val) (f.getLsbD i.val)⟩
  | _ => .wrongLength

/-- Section WIND: presence 1, then the six items. -/
def windConfigFields : List Byte → Body WindConfigFields
  | [p, a, b, c, d, e, f, g, h, i, j] =>
    .fields
      { tripGust := item (p.getLsbD 0) (beNat [a, b])
        watchMean := item (p.getLsbD 1) (beNat [c, d])
        releaseGust := item (p.getLsbD 2) (beNat [e, f])
        staleness := item (p.getLsbD 3) g.toNat
        staleTrip := item (p.getLsbD 4) h.toNat
        holdOff := item (p.getLsbD 5) (beNat [i, j]) }
  | _ => .wrongLength

/-- Section TRACK: presence 1, coast limit 1, low mark 1. -/
def trackConfigFields : List Byte → Body TrackConfigFields
  | [p, a, b] => .fields ⟨item (p.getLsbD 0) a.toNat, item (p.getLsbD 1) b.toNat⟩
  | _ => .wrongLength

/-- Section MELT: presence 1, then the four items. -/
def meltConfigFields : List Byte → Body MeltConfigFields
  | [p, a, b, c, d, e, f, g, h] =>
    .fields
      { rim := item (p.getLsbD 0) (beNat [a, b])
        inner := item (p.getLsbD 1) (beNat [c, d])
        subref := item (p.getLsbD 2) (beNat [e, f])
        slot := item (p.getLsbD 3) (beNat [g, h]) }
  | _ => .wrongLength

/-- Section STATION: presence 1, four addresses, enabled flags 1. -/
def stationConfigFields : List Byte → Body StationConfigFields
  | [p, a, b, c, d, f] =>
    let adr : Vector Byte 4 := #v[a, b, c, d]
    .fields
      { addresses := Vector.ofFn fun i : StationId => item (p.getLsbD i.val) adr[i].toNat
        enabled := Vector.ofFn fun i : StationId => item (p.getLsbD (4 + i.val)) (f.getLsbD i.val) }
  | _ => .wrongLength

/-- READ CONFIG: section 1, dish index 1. -/
def readConfigFields : List Byte → Body ReadConfigFields
  | [a, b] => .fields ⟨a.toNat, b.toNat⟩
  | _ => .wrongLength

/-- PLACE LOCK: dish 1, scope 1, holder tag 3. -/
def placeLockFields : List Byte → Body PlaceLockFields
  | [a, b, c, d, e] => .fields ⟨a.toNat, b.toNat, beNat [c, d, e]⟩
  | _ => .wrongLength

/-- RELEASE LOCK: dish 1, holder tag 3. -/
def releaseLockFields : List Byte → Body ReleaseLockFields
  | [a, b, c, d] => .fields ⟨a.toNat, beNat [b, c, d]⟩
  | _ => .wrongLength

/-- SET ATTENTION MASK: mask 1. -/
def maskFields : List Byte → Body MaskFields
  | [a] => .fields ⟨a⟩
  | _ => .wrongLength

/-- WRITE CONFIG: the section byte chooses the row. A missing section byte or a section above 5 has no length that R177
allows; it is spelled as the DISH row with a wrong length (log 10). -/
def decodeWriteConfig (src : Sender) : List Byte → Instr
  | [] => .writeConfigDish src .wrongLength
  | sec :: body =>
    match sec.toNat with
    | 0 => .writeConfigDish src (dishConfigFields body)
    | 1 => .writeConfigMast src (mastConfigFields body)
    | 2 => .writeConfigWind src (windConfigFields body)
    | 3 => .writeConfigTrack src (trackConfigFields body)
    | 4 => .writeConfigMelt src (meltConfigFields body)
    | 5 => .writeConfigStation src (stationConfigFields body)
    | _ => .writeConfigDish src .wrongLength

/-- The step of a request of the catalogue with its field bytes (R177, R178). -/
def decodeRequest (src : Sender) (r : Request) (f : List Byte) : Instr :=
  match r with
  | .fetchResponse => .fetchResponse src
  | .openOrder => .openOrder src (openOrderFields f)
  | .addMembers => .addMembers src (addMembersFields f)
  | .commitOrder => .commitOrder src (countFields f)
  | .cancelOrder => .cancelOrder src (tagFields f)
  | .holdGroup => .holdGroup src (slotFields f)
  | .resumeGroup => .resumeGroup src (slotFields f)
  | .releaseGroup => .releaseGroup src (slotFields f)
  | .abortGroup => .abortGroup src (slotFields f)
  | .pushTrack => .pushTrack src (pushTrackFields f)
  | .flushTrack => .flushTrack src (slotFields f)
  | .clearTrackFault => .clearTrackFault src (slotFields f)
  | .readGroup => .readGroup src (slotFields f)
  | .readQueue => .readQueue src (noFields f)
  | .windSample => .windSample src (windSampleFields f)
  | .stowArray => .stowArray src (noFields f)
  | .releaseStow => .releaseStow src (noFields f)
  | .resetWeatherSnapshot => .resetWeatherSnapshot src (noFields f)
  | .readWeather => .readWeather src (noFields f)
  | .setAllowance => .setAllowance src (valueFields f)
  | .setMeltGuard => .setMeltGuard src (valueFields f)
  | .readFeeder => .readFeeder src (noFields f)
  | .meltOrder => .meltOrder src (meltOrderFields f)
  | .cancelMelt => .cancelMelt src (cancelMeltFields f)
  | .readMelt => .readMelt src (dishFields f)
  | .writeConfig => decodeWriteConfig src f
  | .readConfig => .readConfig src (readConfigFields f)
  | .driveReset => .driveReset src (noFields f)
  | .placeLock => .placeLock src (placeLockFields f)
  | .releaseLock => .releaseLock src (releaseLockFields f)
  | .readLocks => .readLocks src (dishFields f)
  | .censusComplete => .censusComplete src (noFields f)
  | .readDish => .readDish src (dishFields f)
  | .takeAttention => .takeAttention src (noFields f)
  | .endAttention => .endAttention src (noFields f)
  | .setAttentionMask => .setAttentionMask src (maskFields f)
  | .readViolation => .readViolation src (noFields f)
  | .portReset => .portReset src (noFields f)

/-- The frame of a request: code, length, fields, CRC-8 (R176). -/
def requestFrame (code : Byte) (fields : List Byte) : List Byte :=
  let body := code :: BitVec.ofNat 8 fields.length :: fields
  body ++ [crc8 body]

/-- A collected transaction judged by R157, R158 and R161. Its bytes are all those received, and incomplete tells that a last
byte was left incomplete. none: no clock was received, or a maintenance write carried no byte; nothing happens. -/
def decodeTransaction (src : Sender) (bytes : List Byte) (incomplete : Bool) : Option Instr :=
  match bytes with
  | [] => if incomplete then some (.badFrame src none) else none
  | code :: rest =>
    if code = 0 then some (.fetchResponse src)
    else
      match rest with
      | len :: body =>
        if incomplete || decide (bytes.length < 3) || decide (bytes.length ≠ 2 + len.toNat + 1)
            || decide (body.getLast? ≠ some (crc8 bytes.dropLast)) then
          some (.badFrame src (some code))
        else
          match Request.ofCode code with
          | none => some (.unknownRequest src code)
          | some r => some (decodeRequest src r body.dropLast)
      | [] => some (.badFrame src (some code))

/-! ## Status reports (R31, R180, R181) -/

/-- The bytes of a status report before its CRC-16, from the dish index on. -/
def reportBody (dish : DishId) (frame : Frame) (az el : Int) (flags fault : Byte) : List Byte :=
  u8 dish.val ++ u32 frame.toNat ++ s32 az ++ s32 el ++ [flags, fault]

/-- What arrives in a dish's report window, judged by R31 against the dish and the current frame number: a valid report, or a
miss. A window that closes with no report is the empty list. The fault code is the low four bits of its byte and the flags
are bits 0 to 4 (R180, R181). -/
def decodeReport (dish : DishId) (frame : Frame) (bytes : List Byte) : Instr :=
  match bytes with
  | [i, f3, f2, f1, f0, a3, a2, a1, a0, e3, e2, e1, e0, fl, fc, c1, c0] =>
    if beNat [c1, c0] = (crc16 (bytes.take 15)).toNat ∧ i.toNat = dish.val ∧ beNat [f3, f2, f1, f0] = frame.toNat then
      .validReport dish
        { az := beInt32 [a3, a2, a1, a0], el := beInt32 [e3, e2, e1, e0]
          moving := fl.getLsbD 0, brakesSet := fl.getLsbD 1, inPosition := fl.getLsbD 2
          profileLoaded := fl.getLsbD 3, switchLock := fl.getLsbD 4
          fault := ⟨fc.toNat % 16, Nat.mod_lt _ (by omega)⟩ }
    else .miss dish
  | _ => .miss dish

end Sys2Proof
end

