-- ==== Sys2Proof/Config.lean ====
section
/-! DEFINITION. Config.lean: the values that the spec leaves open. Each is a constant with no body, so no proof can see it;
the assumption log names each one. -/

namespace Sys2Proof.Config

/-- Named values that stand in a response or a detail record although no rule gives the list in which R179 would count
their place (DESIGN CHOICE, log 3). -/
inductive Unlisted where
  | exclLocked | exclIced | exclFault | exclOffline | exclLockRequest | exclLocalSwitch | exclDriveFault | exclNoAck
  | exclArrivalTimeout
  | orderExpired | orderAllExcluded
  | stowBlocked | stowUnreachable | stowFailed | stowStarved
  | weatherCapture | weatherTripChange | weatherStowState
  | powerOverCommit | powerRestored | powerCut
  | conflictStowing | conflictQueued
  deriving DecidableEq, Repr

/-- The byte sent for a named value whose list no rule gives (log 3). FREE VALUE. -/
opaque unlistedCode : Unlisted → Byte

/-- The code byte echoed by a BAD_FRAME response when no whole first byte was received (R158; log 4). FREE VALUE, applied
to State.fresh. -/
opaque echoOfNoByte : Nat → Byte

/-- Whether the pending locks of a dish apply before the dish rejoins the Stow Queue, where one report does both and R148
lets either be taken first (log 5). FREE VALUE, applied to State.fresh. -/
opaque lockAppliedFirst : Nat → Bool

/-- The byte that names the first item that failed in a refused WRITE CONFIG, where R172 does not say which item that is
(log 6). FREE VALUE, applied to State.fresh. -/
opaque failedItem : Nat → Byte

end Sys2Proof.Config
end

