-- ==== Sys2Proof/Machine/State.lean ====
section
/-! DEFINITION. State.lean: everything the A48 holds, as plain data, block by block (00_scope.md, section 1.1), the queue of
steps that wait, and the state right after power-on reset (R171). -/

namespace Sys2Proof.Machine

/-! ## Configuration (chapter 11) -/

/-- The drive parameters of one axis of a dish (R7). -/
structure AxisParams where
  vmax : Nat
  a : Nat
  rampDraw : Nat
  trackDraw : Nat
  deriving DecidableEq, Repr

/-- The configuration part of a dish record (section 1.2). -/
structure DishSettings where
  present : Bool
  az : AxisParams
  el : AxisParams
  mast : MastId
  stowRank : Nat
  shedEl : Int
  deriving DecidableEq, Repr

/-- The configured wind values (R90). -/
structure WindSettings where
  tripGust : Nat
  watchMean : Nat
  releaseGust : Nat
  staleness : Nat
  staleTrip : Nat
  holdOff : Nat
  deriving DecidableEq, Repr

/-- The configured track values (R75). -/
structure TrackSettings where
  coastLimit : Nat
  lowMark : Nat
  deriving DecidableEq, Repr

/-- The configured zone powers and melt slot (R126). -/
structure MeltSettings where
  rim : Nat
  inner : Nat
  subref : Nat
  slot : Nat
  deriving DecidableEq, Repr

/-- The configuration of one maintenance station (R160). -/
structure StationSettings where
  address : Nat
  enabled : Bool
  deriving DecidableEq, Repr

/-- The volatile configuration, in its six sections (section 11.2). -/
structure Settings where
  dish : Vector DishSettings 48
  mastConfigured : Vector Bool 6
  wind : WindSettings
  track : TrackSettings
  melt : MeltSettings
  station : Vector StationSettings 4
  deriving DecidableEq, Repr

/-! ## Dish Table (chapter 1) -/

/-- The motion states (section 1.4). -/
inductive Motion where
  | unknown | idle | engaged | stopping | stowing | stowed | shedding | fault | offline
  deriving DecidableEq, Repr

/-- The state part of a dish record (section 1.2). The view fields are read from their owners (R3). -/
structure Dish where
  motion : Motion
  group : Option SlotId
  repAz : Int
  repEl : Int
  moving : Bool
  brakesSet : Bool
  inPosition : Bool
  profileLoaded : Bool
  switchLock : Bool
  faultCode : Fin 16
  lastReport : Option Frame
  cmdAz : Int
  cmdEl : Int
  deriving DecidableEq, Repr

/-! ## Drive Ring Controller (chapter 2) -/

/-- One axis of a LOAD record: target, ramp length R and cruise speed vc (R71, R180). -/
structure AxisLoad where
  target : Int
  r : Nat
  vc : Nat
  deriving DecidableEq, Repr

/-- The command kinds, with their fields (section 2.4, R180). -/
inductive Command where
  | keep
  | load (az el : AxisLoad) (t : Nat)
  | go (start : Frame)
  | stop
  | trackStep (az el : Int)
  | holdBrake
  deriving DecidableEq, Repr

/-- A command record as sent on the ring, without its CRC-16 (R180). -/
structure SentRecord where
  dish : DishId
  frame : Frame
  command : Command
  deriving DecidableEq, Repr

/-- The Drive Ring Controller: frame number (R19), command slots (R21), miss counts (R32), the dishes framed since the last
frame start (R20), the place that the frame's exchanges have come to (R20): the dishes below place have had theirs, and window is
the dish whose send is made and whose report window is open; and the record last sent (the model's view of the ring's output). -/
structure Ring where
  frame : Frame
  slots : Vector Command 48
  miss : Vector Nat 48
  framed : Vector Bool 48
  place : Nat
  window : Option DishId
  out : Option SentRecord
  deriving DecidableEq, Repr

/-! ## Group Controller and Track Stream Unit (chapters 3 and 5) -/

/-- On-arrival action of an order (R35). -/
inductive Action where
  | position | track
  deriving DecidableEq, Repr

/-- Wrap preference of a member (R36, R63). -/
inductive Wrap where
  | auto | cw | ccw
  deriving DecidableEq, Repr

/-- A member record as committed (section 3.1). -/
structure MemberRecord where
  dish : DishId
  skyAz : Nat
  el : Nat
  wrap : Wrap
  deriving DecidableEq, Repr

/-- The content of the staging area when it is OPEN (section 3.1). -/
structure Staging where
  tag : Nat
  action : Action
  deadline : Nat
  members : List MemberRecord
  deriving DecidableEq, Repr

/-- A COMMIT ORDER that falls together with a DRIVE RESET (R175): none; one that is to be taken after the DRIVE RESET that comes next;
or one that the DRIVE RESET has been taken before, with the staged order that it commits. The environment alone sets falls (log 50). -/
inductive ResetCommit where
  | none | falls
  | holds (order : Staging)
  deriving DecidableEq, Repr

/-- An order in the Order Queue, with its commit frame (R37). -/
structure Order where
  tag : Nat
  action : Action
  deadline : Nat
  members : List MemberRecord
  commitFrame : Frame
  deriving DecidableEq, Repr

/-- States of a group slot: FREE or one of the eight group states (section 3.4). -/
inductive GroupState where
  | free | loading | slewing | tracking | trackHalted | positioned | holding | held | resumeWait
  deriving DecidableEq, Repr

/-- What a held group was held from (R45, R52). -/
inductive HeldFrom where
  | slewing | tracking
  deriving DecidableEq, Repr

/-- Last result of a group slot (R45). -/
inductive GroupResult where
  | none | done | aborted | allExcluded | stowAbort | reset
  deriving DecidableEq, Repr

/-- Reasons of exclusion (R42, R50). -/
inductive ExclReason where
  | locked | iced | fault | offline | lockRequest | localSwitch | driveFault | noAck | arrivalTimeout
  deriving DecidableEq, Repr

/-- Status of a member entry; an exclusion keeps its reason and frame (R45). -/
inductive MemberStatus where
  | active
  | arrived
  | excluded (reason : ExclReason) (frame : Frame)
  deriving DecidableEq, Repr

/-- The profile figures of one axis: distance, ramp length, cruise speed (R45, R62). -/
structure AxisPlan where
  d : Nat
  r : Nat
  vc : Nat
  deriving DecidableEq, Repr

/-- The resolved targets and the present profile of a taken member (R45). -/
structure MemberPlan where
  az : Int
  el : Int
  azPlan : AxisPlan
  elPlan : AxisPlan
  deriving DecidableEq, Repr

/-- A member entry of a group record (R45). -/
structure Member where
  order : MemberRecord
  status : MemberStatus
  plan : Option MemberPlan
  acked : Bool
  braked : Bool
  deriving DecidableEq, Repr

/-- A group record (R45). -/
structure Group where
  state : GroupState
  tag : Nat
  action : Action
  heldFrom : Option HeldFrom
  t : Nat
  loadFrame : Option Frame
  startFrame : Option Frame
  arrivalFrame : Option Frame
  lastResult : GroupResult
  members : List Member
  deriving DecidableEq, Repr

/-- A track buffer entry (R75). -/
structure TrackEntry where
  az : Int
  el : Int
  last : Bool
  deriving DecidableEq, Repr

/-- The kind of a failed limits check (R75, R81). -/
inductive FaultKind where
  | range | speed
  deriving DecidableEq, Repr

/-- Which member, axis and kind failed the limits check (R81). -/
structure LimitFailure where
  dish : DishId
  axis : Axis
  kind : FaultKind
  deriving DecidableEq, Repr

/-- A fault lock: the failure and the increments of the failed entry (R75, R83). -/
structure FaultLock where
  failure : LimitFailure
  az : Int
  el : Int
  deriving DecidableEq, Repr

/-- A track stream (R75). -/
structure Stream where
  buffer : List TrackEntry
  lock : Option FaultLock
  coast : Nat
  lastAz : Int
  lastEl : Int
  starved : Bool
  finish : Bool
  lowReported : Bool
  deriving DecidableEq, Repr

/-! ## Wind Monitor and Stow Controller (chapter 6) -/

/-- Mast states (R91). -/
inductive MastState where
  | notSeen | live | stale
  deriving DecidableEq, Repr

/-- Wind levels (R91, R94). -/
inductive Level where
  | calm | elevated | watch | trip
  deriving DecidableEq, Repr

/-- A mast record; its configured flag stands in Settings (R91). While the staleness timer runs it holds the clock value at
which it expires, so its remaining ms is that value less State.clock (log 9). -/
structure Mast where
  state : MastState
  mean : Nat
  gust : Nat
  level : Option Level
  timer : Option Nat
  deriving DecidableEq, Repr

/-- One entry of the weather snapshot (R95). -/
structure SnapEntry where
  configured : Bool
  state : MastState
  level : Option Level
  deriving DecidableEq, Repr

/-- The Wind Monitor: masts, weather snapshot and trip-seen flags (R91, R95, R96). -/
structure Wind where
  masts : Vector Mast 6
  snapshot : Vector SnapEntry 6
  captureFrame : Frame
  snapOpen : Bool
  tripSeen : Vector Bool 6
  deriving DecidableEq, Repr

/-- Stow states (R98). -/
inductive StowState where
  | clear | watch | active | stowedHold | calmWait
  deriving DecidableEq, Repr

/-- Stow marks (R98). -/
inductive StowMark where
  | none | blocked | unreachable
  deriving DecidableEq, Repr

/-- A stow move record (R98, R106). -/
structure StowMove where
  t : Nat
  start : Option Frame
  deadline : Frame
  deriving DecidableEq, Repr

/-- The Stow Controller (R98). While the hold-off timer runs it holds the clock value at which it expires (log 9). -/
structure Stow where
  state : StowState
  queue : List DishId
  tripOrder : List MastId
  marks : Vector StowMark 48
  moves : Vector (Option StowMove) 48
  holdOff : Option Nat
  deriving DecidableEq, Repr

/-! ## Feeder Share Unit (chapter 7) -/

/-- Purposes of a drive reservation (R115). -/
inductive Purpose where
  | group | stow | shed
  deriving DecidableEq, Repr

/-- An entry of the reservation list (R115). -/
structure Reservation where
  amount : Nat
  purpose : Purpose
  deriving DecidableEq, Repr

/-- A powered zone in the power order (R115). -/
structure PoweredZone where
  zone : ZoneId
  power : Nat
  deriving DecidableEq, Repr

/-- Cause of the over-commit mark (R115, R123). -/
inductive OverCause where
  | allowance | stowFloor
  deriving DecidableEq, Repr

/-- The Feeder Share Unit (R115). D and H are not stored: each is the sum of its list. The reservation list holds at most one
entry per dish, so it stands as one optional entry for each dish. -/
structure Feeder where
  allowance : Nat
  guard : Nat
  reservations : Vector (Option Reservation) 48
  powerOrder : List PoweredZone
  overCommit : Option OverCause
  deriving DecidableEq, Repr

/-! ## Melt Scheduler (chapter 8) -/

/-- Zone states (R127). -/
inductive ZoneState where
  | idle | waiting | powered | blocked
  deriving DecidableEq, Repr

/-- A zone record; its dish and kind are its place in the table (R127). While the slot timer runs it holds the clock value at
which it expires (log 9). -/
structure Zone where
  state : ZoneState
  remaining : Nat
  carry : Nat
  power : Option Nat
  timer : Option Nat
  lastCharge : Option Nat
  deriving DecidableEq, Repr

/-- The three zone records of one dish (section 1.2). -/
structure DishZones where
  rim : Zone
  inner : Zone
  subref : Zone
  deriving DecidableEq, Repr

/-- An entry of the Shed List with the frame at which it joined (R138). -/
structure ShedEntry where
  dish : DishId
  joined : Frame
  deriving DecidableEq, Repr

/-- Last shed result of a dish (R138). -/
inductive ShedResult where
  | none | done | skipped | aborted | failed | reset
  deriving DecidableEq, Repr

/-- A shed move record (R140). -/
structure ShedMove where
  t : Nat
  start : Option Frame
  settled : Bool
  deadline : Frame
  deriving DecidableEq, Repr

/-- The Melt Scheduler: 144 zone records, Melt Rotation List, ice flags, Shed List, last shed results, shed move records and
the clock value at which the meter timer next expires (R127, R128, R130, R136, R138, R140). -/
structure Melt where
  zones : Vector DishZones 48
  rotation : List ZoneId
  ice : Vector Bool 48
  shedList : List ShedEntry
  shedResult : Vector ShedResult 48
  shedMoves : Vector (Option ShedMove) 48
  meterTimer : Nat
  deriving DecidableEq, Repr

/-! ## Lockout Table (chapter 9) -/

/-- Scopes of a lock (section 9.1). -/
inductive Scope where
  | move | heat | all
  deriving DecidableEq, Repr

/-- States of a lock entry (R144). -/
inductive LockState where
  | pending | applied
  deriving DecidableEq, Repr

/-- A lock entry (R144). -/
structure LockEntry where
  dish : DishId
  scope : Scope
  tag : Nat
  station : StationId
  state : LockState
  placed : BitVec 32
  deriving DecidableEq, Repr

/-- The census state; COMPLETE keeps the station and the seconds count at completion (R155, R156). -/
inductive Census where
  | incomplete
  | complete (station : StationId) (seconds : BitVec 32)
  deriving DecidableEq, Repr

/-- The Lockout Table: 96 positions, the census, the seconds count (R144) and the clock value at which its next second
ends. -/
structure Locks where
  entries : Vector (Option LockEntry) 96
  census : Census
  seconds : BitVec 32
  secondTimer : Nat
  deriving DecidableEq, Repr

/-! ## Port Interfaces and Attention Unit (chapter 10) -/

/-- Status codes (section 10.4, R176). -/
inductive Status where
  | ok | badFrame | unknownRequest | notPermitted | badField | busy | notFound | full | duplicate | wrongState
  | conditionActive
  deriving DecidableEq, Repr

/-- A response as a holder keeps it: echoed code, status, fields (R176). Its length bytes and CRC-8 follow from these. -/
structure Response where
  code : Byte
  status : Status
  fields : List Byte
  deriving DecidableEq, Repr

/-- A violation record (R164). -/
structure Violation where
  firstCode : Option Byte
  firstStation : Option StationId
  refused : Nat
  linkTimeouts : Nat
  deriving DecidableEq, Repr

/-- Response holders and violation records (R157, R160, R164). An abandoned mark tells that the port's last transaction ended in
a link timeout, after which the port drives no response until the next one begins (R159, R162). addressable holds, for each
station, that it was enabled at some moment since the last transaction of the maintenance bus ended, so that the transaction that
ends next may have been addressed to it (R160; log 40). -/
structure Ports where
  schedulerHolder : Option Response
  safetyHolder : Option Response
  stationHolders : Vector (Option Response) 4
  schedulerAbandoned : Bool
  safetyAbandoned : Bool
  maintenanceAbandoned : Bool
  addressable : Vector Bool 4
  schedulerViolation : Violation
  safetyViolation : Violation
  maintenanceViolation : Violation
  deriving DecidableEq, Repr

/-- The attention sources of the three ports, each port's highest priority first (R165). -/
inductive Source where
  | groupAbort | orderRefused | trackFault | trackStarved | trackLow | groupArrived
  | stowProblem | weather | power | meltDone
  | lockConflict | censusRequired | lockApplied
  deriving DecidableEq, Repr

/-- Results that an order removed from the queue carries to ORDER_REFUSED (R40, R44). -/
inductive OrderResult where
  | expired | allExcluded
  deriving DecidableEq, Repr

/-- Causes of a starvation (R86). COAST_RANGE names the failure. -/
inductive StarveCause where
  | coastLimit
  | coastRange (failure : LimitFailure)
  deriving DecidableEq, Repr

/-- Kinds of LOCK_CONFLICT (R149). -/
inductive ConflictKind where
  | stowing | queued
  deriving DecidableEq, Repr

/-- The detail of the latest event to raise a source (R166), as the raising rule gives it. -/
inductive Detail where
  | groupAbort (slot : SlotId) (tag : Nat) (result : GroupResult)
  | orderRefused (tag : Nat) (result : OrderResult)
  | trackFault (slot : SlotId) (tag : Nat) (lock : FaultLock) (load : Nat)
  | trackStarved (slot : SlotId) (tag : Nat) (cause : StarveCause) (coast : Nat)
  | trackLow (slot : SlotId) (tag : Nat) (load : Nat)
  | groupArrived (slot : SlotId) (tag : Nat) (entered : GroupState) (active excluded : Nat)
  | stowBlocked (dish : DishId)
  | stowUnreachable (dish : DishId)
  | stowFailed (dish : DishId)
  | stowStarved (dish : DishId) (reservation allowance : Nat)
  | weatherCapture (mast : MastId) (formerState : MastState) (formerLevel : Option Level) (newState : MastState)
      (newLevel : Option Level)
  | weatherTripChange (mast : MastId) (newLevel : Option Level)
  | weatherStowState (former new : StowState)
  | overCommitAllowance (cause : OverCause) (allowance d zonesShed : Nat)
  | overCommitFloor (allowance d : Nat) (dish : DishId)
  | powerRestored (allowance d : Nat) (cause : OverCause)
  | powerCut (allowance d h zonesShed : Nat)
  | meltDone (dish : DishId) (frame : Frame)
  | lockConflict (dish : DishId) (tag : Nat) (kind : ConflictKind)
  | censusRequired (entries : Nat)
  | lockApplied (position : Fin 96) (dish : DishId) (tag : Nat) (scope : Scope) (station : StationId) (frame : Frame)
  deriving DecidableEq, Repr

/-- What an attention source holds (R166). An empty detail record is none with overrun 0. -/
structure SourceState where
  pending : Bool
  inService : Bool
  enabled : Bool
  detail : Option Detail
  overrun : Nat
  deriving DecidableEq, Repr

/-! ## The whole state -/

/-- The state of the A48, with the queue of steps that wait. clock counts the ms since power-on reset, by which the blocks'
timers run (section 3.3); resetHeld tells that the reset pin is held (R171). resetCommit is the model's own, for a COMMIT ORDER that
falls together with a DRIVE RESET (R175, log 50). judgeDue, roundDue and scanDue are the model's own:
within the step a release has been made that judges the over-commit mark (log 38), or an admission round or a powering scan has
been asked for (log 7); fresh is the model's own counter for free values (log 2). -/
structure State where
  settings : Settings
  dishes : Vector Dish 48
  ring : Ring
  staging : Option Staging
  resetCommit : ResetCommit
  orders : List Order
  groups : Vector Group 4
  streams : Vector Stream 4
  wind : Wind
  stow : Stow
  feeder : Feeder
  melt : Melt
  locks : Locks
  ports : Ports
  sources : Vector SourceState 13
  clock : Nat
  resetHeld : Bool
  judgeDue : Bool
  roundDue : Bool
  scanDue : Bool
  fresh : Nat
  pending : List Instr
  deriving DecidableEq, Repr

/-- The A48 has no fault: each step of the table has an effect in every state. The type is empty, so no meaning can stop in
one. Safe: nothing stops. -/
inductive Fault where
  deriving DecidableEq, Repr

/-- Why the model has no meaning for a step. -/
inductive Refusal where
  /-- Raised by the dispatcher alone, for a row not modelled; no arm raises it. Safe: the model stops. -/
  | notModelled (mnemonic : String)
  deriving DecidableEq, Repr

/-! ## Values after power-on reset (R171) -/

/-- AZ drive parameter defaults (R7). -/
def AxisParams.azDefault : AxisParams := ⟨150, 4, 90, 15⟩

/-- EL drive parameter defaults (R7). -/
def AxisParams.elDefault : AxisParams := ⟨75, 2, 70, 10⟩

/-- The configuration of a dish after power-on reset: mast index ÷ 8, rank 0, shed elevation 25000 (section 1.2). -/
def DishSettings.reset (i : DishId) : DishSettings :=
  { present := true, az := .azDefault, el := .elDefault, mast := ⟨i.val / 8, by omega⟩, stowRank := 0, shedEl := 25000 }

/-- The configuration after power-on reset (R90, R91, R75, R126, R160). -/
def Settings.reset : Settings :=
  { dish := Vector.ofFn DishSettings.reset
    mastConfigured := Vector.replicate 6 true
    wind := ⟨200, 120, 150, 10, 3, 600⟩
    track := ⟨10, 16⟩
    melt := ⟨120, 80, 15, 60⟩
    station := Vector.ofFn fun i : StationId => ⟨0x48 + i.val, true⟩ }

/-- The state part of a dish record after power-on reset (R6). -/
def Dish.reset : Dish :=
  { motion := .unknown, group := none, repAz := 0, repEl := 15000, moving := false, brakesSet := false
    inPosition := false, profileLoaded := false, switchLock := false, faultCode := 0, lastReport := none
    cmdAz := 0, cmdEl := 0 }

/-- The ring after power-on reset: frame 0 before its first exchange, KEEP in every slot, every present dish framed (R19, R20, R21,
R32, R171). -/
def Ring.reset : Ring :=
  { frame := 0, slots := Vector.replicate 48 .keep, miss := Vector.replicate 48 0
    framed := Vector.replicate 48 true, place := 0, window := none, out := none }

/-- A group slot after power-on reset (R45). -/
def Group.reset : Group :=
  { state := .free, tag := 0, action := .position, heldFrom := none, t := 0, loadFrame := none, startFrame := none
    arrivalFrame := none, lastResult := .none, members := [] }

/-- A track stream's power-on values (R75, R76). -/
def Stream.reset : Stream :=
  { buffer := [], lock := none, coast := 0, lastAz := 0, lastEl := 0, starved := false, finish := false
    lowReported := false }

/-- A mast after power-on reset: NOT_SEEN, its timer started with the default 10 s (R91, R171). -/
def Mast.reset : Mast := { state := .notSeen, mean := 0, gust := 0, level := none, timer := some 10000 }

/-- The Wind Monitor after power-on reset (R91, R95, R96). The capture frame has no reset value in the spec (log 8). -/
def Wind.reset : Wind :=
  { masts := Vector.replicate 6 .reset, snapshot := Vector.replicate 6 ⟨true, .notSeen, none⟩, captureFrame := 0
    snapOpen := true, tripSeen := Vector.replicate 6 false }

/-- The Stow Controller after power-on reset (R98). -/
def Stow.reset : Stow :=
  { state := .clear, queue := [], tripOrder := [], marks := Vector.replicate 48 .none
    moves := Vector.replicate 48 none, holdOff := none }

/-- The Feeder Share Unit after power-on reset (R115). -/
def Feeder.reset : Feeder :=
  { allowance := 1200, guard := 200, reservations := Vector.replicate 48 none, powerOrder := [], overCommit := none }

/-- A zone after power-on reset (R127). -/
def Zone.reset : Zone :=
  { state := .idle, remaining := 0, carry := 0, power := none, timer := none, lastCharge := none }

/-- The Melt Scheduler after power-on reset (R127, R128, R130, R136, R138). -/
def Melt.reset : Melt :=
  { zones := Vector.replicate 48 ⟨.reset, .reset, .reset⟩, rotation := [], ice := Vector.replicate 48 false
    shedList := [], shedResult := Vector.replicate 48 .none, shedMoves := Vector.replicate 48 none
    meterTimer := 1000 }

/-- The Lockout Table after power-on reset (R144). -/
def Locks.reset : Locks :=
  { entries := Vector.replicate 96 none, census := .incomplete, seconds := 0, secondTimer := 1000 }

/-- A violation record after power-on reset (R164). -/
def Violation.reset : Violation := { firstCode := none, firstStation := none, refused := 0, linkTimeouts := 0 }

/-- The ports after power-on reset: every holder empty, no transaction abandoned, every station enabled (R157, R160, R164, R171). -/
def Ports.reset : Ports :=
  { schedulerHolder := none, safetyHolder := none, stationHolders := Vector.replicate 4 none
    schedulerAbandoned := false, safetyAbandoned := false, maintenanceAbandoned := false
    addressable := Vector.replicate 4 true
    schedulerViolation := .reset, safetyViolation := .reset, maintenanceViolation := .reset }

/-- An attention source after power-on reset, before CENSUS_REQUIRED is raised (R166). -/
def SourceState.reset : SourceState :=
  { pending := false, inService := false, enabled := true, detail := none, overrun := 0 }

/-- Every source after power-on reset: CENSUS_REQUIRED, the twelfth of R165's table, is raised with 0 entries (R155, R166). -/
def sourcesReset : Vector SourceState 13 :=
  (Vector.replicate 13 SourceState.reset).set 11
    { pending := true, inService := false, enabled := true, detail := some (.censusRequired 0), overrun := 0 }

/-- The machine right after power-on reset (R171). -/
def State.reset : State :=
  { settings := .reset
    dishes := Vector.replicate 48 .reset
    ring := .reset
    staging := none
    resetCommit := .none
    orders := []
    groups := Vector.replicate 4 .reset
    streams := Vector.replicate 4 .reset
    wind := .reset
    stow := .reset
    feeder := .reset
    melt := .reset
    locks := .reset
    ports := .reset
    sources := sourcesReset
    clock := 0
    resetHeld := false
    judgeDue := false
    roundDue := false
    scanDue := false
    fresh := 0
    pending := [] }

end Sys2Proof.Machine
end

