-- ==== Sys2Proof/Machine/Flags.lean ====
section
/-! DEFINITION. Flags.lean: the tests on a dish's last stored report (R2), the order of frame numbers, and the clamps of R1. -/

namespace Sys2Proof.Machine

/-- Braked and still: brakes set, and moving clear (R2). -/
def Dish.brakedStill (d : Dish) : Bool := d.brakesSet && !d.moving

/-- Already stowed: brakes set, and EL at or above 89900 md (R2). -/
def Dish.alreadyStowed (d : Dish) : Bool := d.brakesSet && decide (89900 ≤ d.repEl)

/-- At wind stow position: EL at or above 89900 md with in-position set (R2). -/
def Dish.atWindStow (d : Dish) : Bool := d.inPosition && decide (89900 ≤ d.repEl)

/-- Fault reported: a fault code other than 0 (R2). -/
def Dish.faultReported (d : Dish) : Bool := decide (d.faultCode ≠ 0)

/-- A frame lies at or after a start frame: their difference modulo 2^32 is less than 2^31 (R47, R107, R140). -/
def frameReached (now start : Frame) : Bool := decide ((now - start).toNat < 2 ^ 31)

/-- A reported AZ as stored: within -270000 to +270000 md (R1). -/
def clampAz (x : Int) : Int := max (-270000) (min 270000 x)

/-- A reported EL as stored: within 15000 to 90000 md (R1). -/
def clampEl (x : Int) : Int := max 15000 (min 90000 x)

/-- A member is active while its status is ACTIVE or ARRIVED (R45). -/
def MemberStatus.isActive : MemberStatus → Bool
  | .active => true
  | .arrived => true
  | .excluded _ _ => false

/-- A member still of status ACTIVE (R47). -/
def MemberStatus.isPending : MemberStatus → Bool
  | .active => true
  | .arrived => false
  | .excluded _ _ => false

/-- The states in which a group may be a streaming group (section 5.2). -/
def GroupState.streams : GroupState → Bool
  | .loading | .slewing | .tracking | .trackHalted | .holding | .held | .resumeWait => true
  | .free | .positioned => false

/-- A streaming group: action TRACK, in a state of section 5.2. -/
def Group.streaming (g : Group) : Bool := decide (g.action = .track) && g.state.streams

/-- The commands that the ring never takes or sends for a move-locked dish (R23, R24). -/
def Command.barred : Command → Bool
  | .keep | .load _ _ _ | .go _ | .trackStep _ _ => true
  | .stop | .holdBrake => false

/-- The one-shot commands, after whose send the slot returns to KEEP (R22). -/
def Command.oneShot : Command → Bool
  | .load _ _ _ | .go _ | .trackStep _ _ => true
  | .keep | .stop | .holdBrake => false

end Sys2Proof.Machine
end

