-- ==== Sys2Proof/Machine/Profile.lean ====
section
/-! DEFINITION. Profile.lean: the Profile Calculator (chapter 4). It keeps nothing between uses, so it is pure arithmetic. -/

namespace Sys2Proof.Machine

/-- A quotient rounded up. -/
def ceilDiv (n d : Nat) : Nat := (n + d - 1) / d

/-- The effective maximum speed: halved, rounded down and not less than 1, while the ice flag is set (R65). -/
def effectiveMax (vmax : Nat) (ice : Bool) : Nat := if ice then max 1 (vmax / 2) else vmax

/-- The distance of an axis: the absolute difference between target and reported position (R66). -/
def distance (target reported : Int) : Nat := (target - reported).natAbs

/-- The first whole number from r on, in at most fuel steps, whose square times a reaches d (R68). -/
def leastRamp (a d : Nat) : Nat → Nat → Nat
  | 0, r => r
  | fuel + 1, r => if d ≤ a * r * r then r else leastRamp a d fuel (r + 1)

/-- Ramp length and minimum time of one axis. -/
structure AxisTime where
  r : Nat
  tMin : Nat
  deriving DecidableEq, Repr

/-- Ramp length and minimum time of an axis of effective speed v and acceleration a over a distance d: idle, trapezoid or
triangle (R66, R67, R68). -/
def axisTime (v a d : Nat) : AxisTime :=
  if d = 0 then ⟨0, 0⟩
  else
    let full := ceilDiv v a
    if v * full ≤ d then ⟨full, 2 * full + (ceilDiv d v - full)⟩
    else
      let r := leastRamp a d full 1
      ⟨r, 2 * r⟩

/-- The cruise speed of an axis under the common arrival time T: d divided by T - R, rounded up; 0 when idle (R70). -/
def cruise (d t r : Nat) : Nat := if d = 0 then 0 else ceilDiv d (t - r)

/-- Wrap resolution of a sky azimuth from the reported AZ p0 (R63). -/
def resolveWrap (p0 : Int) (sky : Nat) (wrap : Wrap) : Int :=
  let hi : Int := sky
  let lo : Int := sky - 360000
  if sky < 90000 then hi
  else if sky ≤ 270000 then
    match wrap with
    | .cw => hi
    | .ccw => lo
    | .auto => if (lo - p0).natAbs < (hi - p0).natAbs then lo else hi
  else lo

/-- What the calculator reads of one dish (R62). -/
structure PlanInput where
  repAz : Int
  repEl : Int
  az : AxisParams
  el : AxisParams
  ice : Bool
  deriving DecidableEq, Repr

/-- The AZ ramp length and minimum time of a dish towards a target. -/
def PlanInput.azTime (p : PlanInput) (target : Int) : AxisTime :=
  axisTime (effectiveMax p.az.vmax p.ice) p.az.a (distance target p.repAz)

/-- The EL ramp length and minimum time of a dish towards a target. -/
def PlanInput.elTime (p : PlanInput) (target : Int) : AxisTime :=
  axisTime (effectiveMax p.el.vmax p.ice) p.el.a (distance target p.repEl)

/-- The profile of one axis under the common arrival time T (R70). -/
def axisPlan (time : AxisTime) (d t : Nat) : AxisPlan := { d := d, r := time.r, vc := cruise d t time.r }

/-- The targets of one dish: mechanical AZ and EL. -/
structure Targets where
  az : Int
  el : Int
  deriving DecidableEq, Repr

/-- The longest minimum time of a dish's two axes. -/
def PlanInput.longest (p : PlanInput) (t : Targets) : Nat := max (p.azTime t.az).tMin (p.elTime t.el).tMin

/-- The profile of one member under the common arrival time T (R70, R71). -/
def PlanInput.plan (p : PlanInput) (g : Targets) (t : Nat) : MemberPlan :=
  { az := g.az, el := g.el
    azPlan := axisPlan (p.azTime g.az) (distance g.az p.repAz) t
    elPlan := axisPlan (p.elTime g.el) (distance g.el p.repEl) t }

/-- The sum of a dish's AZ and EL track draws (R48, R72). -/
def PlanInput.trackSum (p : PlanInput) : Nat := p.az.trackDraw + p.el.trackDraw

/-- The sum of the ramp draws of the moving axes (R72). -/
def PlanInput.rampSum (p : PlanInput) (g : Targets) : Nat :=
  (if distance g.az p.repAz = 0 then 0 else p.az.rampDraw) + (if distance g.el p.repEl = 0 then 0 else p.el.rampDraw)

/-- The reservation of a group member (R72). -/
def PlanInput.groupDraw (p : PlanInput) (g : Targets) : Action → Nat
  | .position => p.rampSum g
  | .track => max (p.rampSum g) p.trackSum

/-- The common arrival time over all members (R69). -/
def commonTime (ms : List (PlanInput × Targets)) : Nat := (ms.map fun m => m.1.longest m.2).foldl max 0

/-- A stow or shed move: EL alone, with its own T and its reservation (R72, R73). -/
structure MovePlan where
  t : Nat
  r : Nat
  vc : Nat
  draw : Nat
  deriving DecidableEq, Repr

/-- The stow or shed move of a dish to an EL target (R73). -/
def PlanInput.move (p : PlanInput) (target : Int) : MovePlan :=
  let d := distance target p.repEl
  let time := p.elTime target
  { t := time.tMin, r := time.r, vc := cruise d time.tMin time.r, draw := if d = 0 then 0 else p.el.rampDraw }

end Sys2Proof.Machine
end

