-- ==== Sys2Proof/Machine/Ops.lean ====
section
/-! DEFINITION. Ops.lean: the named operations over records, slots, locks, attention sources and the feeder that every
meaning shares (chapters 1, 2, 7, 9 and 10). -/

namespace Sys2Proof.Machine

/-! ## Tables -/

/-- A table with one entry changed. -/
def upd {α : Type} {n : Nat} (v : Vector α n) (i : Fin n) (f : α → α) : Vector α n := v.set i (f v[i])

/-- The record of a dish. -/
def State.dish (s : State) (d : DishId) : Dish := s.dishes[d]

/-- The configuration of a dish. -/
def State.cfg (s : State) (d : DishId) : DishSettings := s.settings.dish[d]

/-- A change of one dish record. -/
def State.setDish (s : State) (d : DishId) (f : Dish → Dish) : State := { s with dishes := upd s.dishes d f }

/-- A change of one group record. -/
def State.setGroup (s : State) (g : SlotId) (f : Group → Group) : State := { s with groups := upd s.groups g f }

/-- A change of one track stream. -/
def State.setStream (s : State) (g : SlotId) (f : Stream → Stream) : State := { s with streams := upd s.streams g f }

/-- A change of a dish's motion state. -/
def State.setMotion (s : State) (d : DishId) (m : Motion) : State := s.setDish d fun x => { x with motion := m }

/-- The commanded positions of a dish (R4). -/
def State.setCommanded (s : State) (d : DishId) (az el : Int) : State :=
  s.setDish d fun x => { x with cmdAz := az, cmdEl := el }

/-- An admission round is asked for (R119). It is run by settle within the step (log 7). -/
def State.askRound (s : State) : State := { s with roundDue := true }

/-- The powering scan is asked for (R133). It is run by settle within the step (log 7). -/
def State.askScan (s : State) : State := { s with scanDue := true }

/-- A release has been made: the over-commit mark is judged once for all the releases of the event (R123). It is judged by settle
within the step, before the round (log 38). -/
def State.askJudge (s : State) : State := { s with judgeDue := true }

/-- One free value is drawn (log 2). -/
def State.drawFresh (s : State) : State := { s with fresh := s.fresh + 1 }

/-! ## Attention sources (section 10.5) -/

/-- The place of a source in R165's table, all ports together. -/
def Source.index : Source → Fin 13
  | .groupAbort => 0
  | .orderRefused => 1
  | .trackFault => 2
  | .trackStarved => 3
  | .trackLow => 4
  | .groupArrived => 5
  | .stowProblem => 6
  | .weather => 7
  | .power => 8
  | .meltDone => 9
  | .lockConflict => 10
  | .censusRequired => 11
  | .lockApplied => 12

/-- The sources of a port, highest priority first (R165). -/
def portSources : Port → List Source
  | .scheduler => [.groupAbort, .orderRefused, .trackFault, .trackStarved, .trackLow, .groupArrived]
  | .safety => [.stowProblem, .weather, .power, .meltDone]
  | .maintenance => [.lockConflict, .censusRequired, .lockApplied]

/-- What a source holds. -/
def State.source (s : State) (x : Source) : SourceState := s.sources[x.index]

/-- A change of one source. -/
def State.setSource (s : State) (x : Source) (f : SourceState → SourceState) : State :=
  { s with sources := upd s.sources x.index f }

/-- A source raised with a new detail: set pending, or its detail replaced and its overrun counted to 15 (R166). -/
def SourceState.raised (d : Detail) (x : SourceState) : SourceState :=
  if x.pending then { x with detail := some d, overrun := min 15 (x.overrun + 1) }
  else { x with pending := true, detail := some d }

/-- An event raises a source (R166). -/
def State.raise (s : State) (x : Source) (d : Detail) : State := s.setSource x (SourceState.raised d)

/-- The first source of a priority list that is pending and enabled, before any source in service is met: the source that
meets both conditions of R167, if there is one. -/
def State.firstEligible (s : State) : List Source → Option Source
  | [] => none
  | x :: xs =>
    if (s.source x).inService then none
    else if (s.source x).pending && (s.source x).enabled then some x
    else s.firstEligible xs

/-- The attention line of a port (R167). -/
def State.lineAsserted (s : State) (p : Port) : Bool := (s.firstEligible (portSources p)).isSome

/-! ## Lock view (R5) -/

/-- The number of lock entries that meet a test. -/
def State.countLocks (s : State) (p : LockEntry → Bool) : Nat := s.locks.entries.toList.countP fun e => e.any p

/-- The applied move-lock count: entries of scope MOVE or ALL in state APPLIED (R5). -/
def State.appliedMove (s : State) (d : DishId) : Nat :=
  s.countLocks fun e => decide (e.dish = d) && decide (e.scope ≠ .heat) && decide (e.state = .applied)

/-- The pending move-lock count: entries of scope MOVE or ALL in state PENDING (R5). -/
def State.pendingMove (s : State) (d : DishId) : Nat :=
  s.countLocks fun e => decide (e.dish = d) && decide (e.scope ≠ .heat) && decide (e.state = .pending)

/-- The applied heat-lock count: entries of scope HEAT or ALL, in either state (R5). -/
def State.appliedHeat (s : State) (d : DishId) : Nat :=
  s.countLocks fun e => decide (e.dish = d) && decide (e.scope ≠ .move)

/-- A dish is move-locked (R5). -/
def State.moveLocked (s : State) (d : DishId) : Bool := decide (1 ≤ s.appliedMove d) || (s.dish d).switchLock

/-- A dish is heat-locked (R5). -/
def State.heatLocked (s : State) (d : DishId) : Bool := decide (1 ≤ s.appliedHeat d) || (s.dish d).switchLock

/-- A dish is lock-requested (R5). -/
def State.lockRequested (s : State) (d : DishId) : Bool := decide (1 ≤ s.pendingMove d)

/-- Every position of the Lock Table, ascending (R144). -/
def lockPositions : List (Fin 96) := List.finRange 96

/-- A lock entry that is PENDING and names the dish. -/
def LockEntry.pendingOn (d : DishId) (e : LockEntry) : Bool := decide (e.dish = d) && decide (e.state = .pending)

/-- The tag of the lowest-positioned PENDING entry of a dish (R149). -/
def State.lowestPendingTag (s : State) (d : DishId) : Option Nat :=
  (s.locks.entries.toList.find? fun e => e.any (LockEntry.pendingOn d)).bind fun e => e.map (·.tag)

/-- LOCK_CONFLICT for a dish that the stow keeps from its crew's lock (R149). -/
def State.raiseConflict (s : State) (d : DishId) (k : ConflictKind) : State :=
  match s.lowestPendingTag d with
  | some tag => s.raise .lockConflict (.lockConflict d tag k)
  | none => s

/-- The census is COMPLETE (R155). -/
def State.censusDone (s : State) : Bool :=
  match s.locks.census with
  | .incomplete => false
  | .complete _ _ => true

/-! ## Feeder (chapter 7) -/

/-- The amount of an optional reservation: 0 where there is none (R116). -/
def amountOf : Option Reservation → Nat
  | none => 0
  | some r => r.amount

/-- D: the sum of the reservation list (R115). -/
def Feeder.d (f : Feeder) : Nat := (f.reservations.toList.map amountOf).sum

/-- H: the sum of the power order (R115). -/
def Feeder.h (f : Feeder) : Nat := (f.powerOrder.map (·.power)).sum

/-- Releases that leave D at or below A clear the over-commit mark and raise POWER with kind RESTORED (R123). -/
def State.judgeRestored (s : State) : State :=
  match s.feeder.overCommit with
  | none => s
  | some c =>
    if s.feeder.d ≤ s.feeder.allowance then
      { s with feeder := { s.feeder with overCommit := none } }.raise .power
        (.powerRestored s.feeder.allowance s.feeder.d c)
    else s

/-- The reservation list with one dish's entry set. -/
def State.putReservation (s : State) (d : DishId) (r : Option Reservation) : State :=
  { s with feeder := { s.feeder with reservations := s.feeder.reservations.set d r } }

/-- A change of D asks for the powering scan (R133). -/
def State.enterReservation (s : State) (d : DishId) (amount : Nat) (p : Purpose) : State :=
  if amount = 0 then s else (s.putReservation d (some ⟨amount, p⟩)).askScan

/-- The removal of a dish's entry: a release, which has the over-commit mark judged and asks for a round (R116, R119, R123). -/
def State.releaseReservation (s : State) (d : DishId) : State :=
  match s.feeder.reservations[d] with
  | none => s
  | some _ => (s.putReservation d none).askRound.askScan.askJudge

/-- A dish's amount becomes the smaller of itself and a limit; a decrease is a release, and an amount of 0 is no entry (R48,
R116). -/
def State.limitReservation (s : State) (d : DishId) (limit : Nat) : State :=
  match s.feeder.reservations[d] with
  | none => s
  | some r =>
    if r.amount ≤ limit then s
    else (s.putReservation d (if limit = 0 then none else some ⟨limit, r.purpose⟩)).askRound.askScan.askJudge

/-- The fit of a stow move (R121). -/
def Feeder.stowFits (f : Feeder) (draw : Nat) : Bool := decide (f.d + draw ≤ f.allowance)

/-- The fit of a resumed group, an order head or a shed move (R121). -/
def Feeder.groupFits (f : Feeder) (draw : Nat) : Bool := decide (f.d + draw + min f.h f.guard ≤ f.allowance)

/-- The heater fit of a zone (R117). -/
def Feeder.heaterFits (f : Feeder) (p : Nat) : Bool := decide (f.d + f.h + p ≤ f.allowance)

/-! ## Command slots (chapter 2) -/

/-- The command standing in a dish's slot. -/
def State.slot (s : State) (d : DishId) : Command := s.ring.slots[d]

/-- A slot's content replaced (R21). -/
def State.putSlot (s : State) (d : DishId) (c : Command) : State :=
  { s with ring := { s.ring with slots := s.ring.slots.set d c } }

/-- The place of the frame's exchanges, and the report window that is open (R20). -/
def State.setWindow (s : State) (place : Nat) (w : Option DishId) : State :=
  { s with ring := { s.ring with place := place, window := w } }

/-- The open report window closes (R20). -/
def State.closeWindow (s : State) : State := s.setWindow s.ring.place none

/-- Writing STOP releases the dish's drive reservation in the same event (R10). -/
def State.writeStop (s : State) (d : DishId) : State := (s.putSlot d .stop).releaseReservation d

/-- HOLD BRAKE is taken for every dish and releases no reservation (R10, R23). -/
def State.writeHoldBrake (s : State) (d : DishId) : State := s.putSlot d .holdBrake

/-- A write of KEEP, LOAD, GO or TRACK STEP to a move-locked dish is dropped with all its effects (R23). -/
def State.writeBarred (s : State) (d : DishId) (c : Command) (effect : State → State) : State :=
  if s.moveLocked d then s else effect (s.putSlot d c)

/-- A commanded position after LOAD: the target of a moving axis; an idle axis keeps its value (R4). -/
def AxisLoad.commanded (l : AxisLoad) (present : Int) : Int := if l.r = 0 ∧ l.vc = 0 then present else l.target

/-- Writing LOAD sets the commanded positions to the targets of the moving axes (R4). -/
def State.writeLoad (s : State) (d : DishId) (az el : AxisLoad) (t : Nat) : State :=
  s.writeBarred d (.load az el t) fun s =>
    s.setDish d fun x => { x with cmdAz := az.commanded x.cmdAz, cmdEl := el.commanded x.cmdEl }

/-- Writing GO. -/
def State.writeGo (s : State) (d : DishId) (start : Frame) : State := s.writeBarred d (.go start) id

/-- Writing TRACK STEP. The commanded positions advance at the send, not here (R4). -/
def State.writeTrackStep (s : State) (d : DishId) (az el : Int) : State := s.writeBarred d (.trackStep az el) id

/-- Writing KEEP. -/
def State.writeKeep (s : State) (d : DishId) : State := s.writeBarred d .keep id

/-- STOP written and the dish in STOPPING. -/
def State.stopDish (s : State) (d : DishId) : State := (s.writeStop d).setMotion d .stopping

/-- STOP written and the dish in FAULT. -/
def State.faultDish (s : State) (d : DishId) : State := (s.writeStop d).setMotion d .fault

/-- What the Profile Calculator reads of a dish (R62). -/
def State.planInput (s : State) (d : DishId) : PlanInput :=
  { repAz := (s.dish d).repAz, repEl := (s.dish d).repEl, az := (s.cfg d).az, el := (s.cfg d).el
    ice := s.melt.ice[d] }

end Sys2Proof.Machine
end

