-- ==== Sys2Proof/Machine/Heat.lean ====
section
/-! DEFINITION. Heat.lean: the Melt Scheduler's operations on zones: charging, unpowering, completion, blocking, powering and
the Feeder Share Unit's shedding (chapter 8 and R117, R118). -/

namespace Sys2Proof.Machine

/-- The zones of a dish, in the order RIM, INNER, SUBREF (R129). -/
def zonesOf (d : DishId) : List ZoneId := [⟨d, .rim⟩, ⟨d, .inner⟩, ⟨d, .subref⟩]

/-- All 144 zones, dish by dish. -/
def allZones : List ZoneId := allDishes.flatMap zonesOf

/-- The zone of a kind. -/
def DishZones.get (z : DishZones) : ZoneKind → Zone
  | .rim => z.rim
  | .inner => z.inner
  | .subref => z.subref

/-- The zone of a kind changed. -/
def DishZones.set (z : DishZones) (k : ZoneKind) (x : Zone) : DishZones :=
  match k with
  | .rim => { z with rim := x }
  | .inner => { z with inner := x }
  | .subref => { z with subref := x }

/-- A zone record. -/
def State.zone (s : State) (z : ZoneId) : Zone := s.melt.zones[z.dish].get z.kind

/-- A change of one zone record. -/
def State.setZone (s : State) (z : ZoneId) (f : Zone → Zone) : State :=
  { s with melt := { s.melt with zones := upd s.melt.zones z.dish fun x => x.set z.kind (f (x.get z.kind)) } }

/-- The configured power of a zone kind (R126). -/
def MeltSettings.power (m : MeltSettings) : ZoneKind → Nat
  | .rim => m.rim
  | .inner => m.inner
  | .subref => m.subref

/-- One charge over ms milliseconds at powered power p (R136, steps 1 to 4). -/
def Zone.charge (z : Zone) (p ms : Nat) : Zone :=
  { z with remaining := z.remaining - (p * ms + z.carry) / 10, carry := (p * ms + z.carry) % 10 }

/-- The charge of a zone at the present time, which becomes its last charge time (R136). -/
def Zone.chargeAt (now : Nat) (z : Zone) : Zone :=
  match z.power, z.lastCharge with
  | some p, some t => { z.charge p (now - t) with lastCharge := some now }
  | _, _ => z

/-- A zone charged (R136). -/
def State.chargeZone (s : State) (z : ZoneId) : State := s.setZone z (Zone.chargeAt s.clock)

/-- A zone leaves the power order; H falls, which asks for a round and for the scan (R117, R134). -/
def State.leavePowerOrder (s : State) (z : ZoneId) : State :=
  { s with feeder := { s.feeder with powerOrder := s.feeder.powerOrder.filter fun x => decide (x.zone ≠ z) } }.askRound.askScan

/-- A zone leaves the Melt Rotation List (R128). -/
def State.leaveRotation (s : State) (z : ZoneId) : State :=
  { s with melt := { s.melt with rotation := s.melt.rotation.filter fun x => decide (x ≠ z) } }.askScan

/-- One of the dish's three zones holds energy. -/
def State.holdsEnergy (s : State) (d : DishId) : Bool := (zonesOf d).any fun z => decide (0 < (s.zone z).remaining)

/-- The ice flag of a dish cleared; the Group Controller asks for admission of its head (R38, R130). -/
def State.clearIce (s : State) (d : DishId) : State :=
  { s with melt := { s.melt with ice := s.melt.ice.set d false } }.askRound

/-- A zone out of the list: IDLE with no energy, no carry, no power and no timer (R127). -/
def State.retireZone (s : State) (z : ZoneId) : State := (s.setZone z fun _ => Zone.reset).leaveRotation z

/-- Completion of a zone, already unpowered: it leaves the list and enters IDLE; the last zone with energy of an iced dish
clears the flag and raises MELT_DONE (R137). -/
def State.completeZone (s : State) (z : ZoneId) : State :=
  let s := s.retireZone z
  if s.melt.ice[z.dish] && !s.holdsEnergy z.dish then
    (s.clearIce z.dish).raise .meltDone (.meltDone z.dish s.ring.frame)
  else s

/-- Steps 2 and 3 of an unpowering: out of the power order, timer, power and charge time ended (R134). -/
def State.cutPower (s : State) (z : ZoneId) (st : ZoneState) : State :=
  (s.leavePowerOrder z).setZone z fun x => { x with state := st, power := none, timer := none, lastCharge := none }

/-- An unpowering: the zone is charged, cut from power and put in the state its cause gives, or completed when the charge
found it spent (R134). -/
def State.unpower (s : State) (z : ZoneId) (st : ZoneState) : State :=
  let s := (s.chargeZone z).cutPower z st
  if (s.zone z).remaining = 0 then s.completeZone z else s

/-- A block condition holds for a dish's zones (R132). -/
def State.blocks (s : State) (d : DishId) : Bool :=
  s.heatLocked d || !s.censusDone || decide (s.stow.state = .active) || decide ((s.dish d).motion = .offline)

/-- A zone set by the block conditions as they stand: a condition that begins makes it BLOCKED, one that ends makes it
WAITING (R132). -/
def State.reblockZone (s : State) (z : ZoneId) : State :=
  match (s.zone z).state with
  | .idle => s
  | .powered => if s.blocks z.dish then (s.unpower z .blocked).askScan else s
  | .waiting => if s.blocks z.dish then (s.setZone z fun x => { x with state := .blocked }).askScan else s
  | .blocked => if s.blocks z.dish then s else (s.setZone z fun x => { x with state := .waiting }).askScan

/-- The zones of one dish set by the block conditions (R132). -/
def State.reblockDish (s : State) (d : DishId) : State := (zonesOf d).foldl State.reblockZone s

/-- A block condition of one dish that begins or ends, where changed tells so: its zones are set, and the scan is asked for even
where none of them changes (R132, R133). -/
def State.answerBlock (s : State) (d : DishId) (changed : Bool) : State :=
  let s := s.reblockDish d
  if changed then s.askScan else s

/-- A block condition of every dish that begins or ends: every zone is set, and the scan is asked for (R132, R133). -/
def State.reblockAll (s : State) : State := (allZones.foldl State.reblockZone s).askScan

/-- A zone powered: it joins the tail of the power order with the power given, and its slot timer and charge time start (R117,
R133). -/
def State.powerZone (s : State) (z : ZoneId) (p : Nat) : State :=
  { s with feeder := { s.feeder with powerOrder := s.feeder.powerOrder ++ [PoweredZone.mk z p] } }.setZone z fun x =>
    { x with state := .powered, power := some p, timer := some (s.clock + s.settings.melt.slot * 1000)
             lastCharge := some s.clock }

/-- The walk of the powering scan over the list given: WAITING zones are powered until one does not fit (R133). -/
def scanWalk : List ZoneId → State → State
  | [], s => s
  | z :: zs, s =>
    match (s.zone z).state with
    | .waiting =>
      let p := s.settings.melt.power z.kind
      if s.feeder.heaterFits p then scanWalk zs (s.powerZone z p) else s
    | .idle => scanWalk zs s
    | .powered => scanWalk zs s
    | .blocked => scanWalk zs s

/-- The powering scan (R133). -/
def State.poweringScan (s : State) : State := scanWalk s.melt.rotation s

/-- The walk of a shed, newest zone first: zones are unpowered until D plus H no longer exceeds A (R118). -/
def shedWalk : List PoweredZone → State → State
  | [], s => s
  | x :: xs, s =>
    if s.feeder.d + s.feeder.h ≤ s.feeder.allowance then s else shedWalk xs (s.unpower x.zone .waiting)

/-- Heaters shed as D plus H requires (R118). -/
def State.shedHeaters (s : State) : State := shedWalk s.feeder.powerOrder.reverse s

/-- A zone cancelled: unpowered if POWERED, its energy and carry gone, out of the list; an IDLE zone is unchanged (R131). -/
def State.cancelZone (s : State) (z : ZoneId) : State :=
  match (s.zone z).state with
  | .idle => s
  | .powered => (s.leavePowerOrder z).retireZone z
  | .waiting => s.retireZone z
  | .blocked => s.retireZone z

/-- The ice flag cleared if no zone of the dish now holds energy; no MELT_DONE (R131). -/
def State.iceAfterCancel (s : State) (d : DishId) : State :=
  if s.melt.ice[d] && !s.holdsEnergy d then s.clearIce d else s

end Sys2Proof.Machine
end

