-- ==== Sys2Proof/Machine/StowOps.lean ====
section
/-! DEFINITION. StowOps.lean: the Wind Monitor's and the Stow Controller's operations: snapshot, triggers' answers, marks,
the Stow Queue and its ranking, release (chapter 6), and the entry of a dish to IDLE (R11). -/

namespace Sys2Proof.Machine

/-! ## Stow state -/

/-- A stow is in force in ACTIVE, STOWED_HOLD and CALM_WAIT (R98). -/
def StowState.inForce : StowState → Bool
  | .active | .stowedHold | .calmWait => true
  | .clear | .watch => false

/-- A stow is in force. -/
def State.stowInForce (s : State) : Bool := s.stow.state.inForce

/-- A mast counts towards the stale count: configured, and STALE or NOT_SEEN (R93). -/
def State.countsStale (s : State) (m : MastId) : Bool :=
  s.settings.mastConfigured[m] && decide (s.wind.masts[m].state ≠ .live)

/-- The stale count (R93). -/
def State.staleCount (s : State) : Nat := allMasts.countP s.countsStale

/-- A mast is LIVE with level CALM or ELEVATED (R110). -/
def Mast.calmEnough (m : Mast) : Bool :=
  decide (m.state = .live) && (decide (m.level = some .calm) || decide (m.level = some .elevated))

/-- The release condition (R110). -/
def State.releaseCondition (s : State) : Bool :=
  (allMasts.all fun m => !s.settings.mastConfigured[m] || s.wind.masts[m].calmEnough)
    && decide (s.staleCount < s.settings.wind.staleTrip)

/-- Some configured LIVE mast has level WATCH (R99). -/
def State.someWatch (s : State) : Bool :=
  allMasts.any fun m => s.settings.mastConfigured[m] && decide (s.wind.masts[m].state = .live)
    && decide (s.wind.masts[m].level = some .watch)

/-- A change of stow state raises WEATHER with kind STOW_STATE (R98). -/
def State.setStowState (s : State) (new : StowState) : State :=
  if s.stow.state = new then s
  else { s with stow := { s.stow with state := new } }.raise .weather (.weatherStowState s.stow.state new)

/-- Some dish is STOWING. -/
def State.someStowing (s : State) : Bool := allDishes.any fun d => decide ((s.dish d).motion = .stowing)

/-- Entry to CALM_WAIT: the hold-off timer starts with the configured hold-off (R110). -/
def State.enterCalmWait (s : State) : State :=
  { s with stow := { s.stow with holdOff := some (s.clock + s.settings.wind.holdOff * 1000) } }.setStowState .calmWait

/-- In ACTIVE, an empty queue with no dish STOWING passes to STOWED_HOLD, which ends the heaters' block, and on to CALM_WAIT
if the release condition holds (R107, R132). -/
def State.checkStowedHold (s : State) : State :=
  if s.stow.state = .active ∧ s.stow.queue = [] ∧ s.someStowing = false then
    let s := (s.setStowState .stowedHold).reblockAll
    if s.releaseCondition then s.enterCalmWait else s
  else s

/-- A dish's stow mark. -/
def State.mark (s : State) (d : DishId) : StowMark := s.stow.marks[d]

/-- A dish's stow mark set. -/
def State.setMark (s : State) (d : DishId) (m : StowMark) : State :=
  { s with stow := { s.stow with marks := s.stow.marks.set d m } }

/-- A dish's stow move record set or discarded. -/
def State.setMove (s : State) (d : DishId) (m : Option StowMove) : State :=
  { s with stow := { s.stow with moves := s.stow.moves.set d m } }

/-- A dish stands in the Stow Queue. -/
def State.queued (s : State) (d : DishId) : Bool := s.stow.queue.contains d

/-- A dish taken from the Stow Queue, a change of the queue that asks for a round; a dish that does not stand there changes
nothing and asks for none (R104, R119). -/
def State.unqueue (s : State) (d : DishId) : State :=
  if s.queued d then
    { s with stow := { s.stow with queue := s.stow.queue.filter fun x => decide (x ≠ d) } }.askRound
  else s

/-- A dish joins the Stow Queue, in which no dish stands twice (R98); a lock-requested dish raises LOCK_CONFLICT QUEUED (R109,
R149). -/
def State.joinQueue (s : State) (d : DishId) : State :=
  let s := { s with stow := { s.stow with queue := if s.queued d then s.stow.queue else s.stow.queue ++ [d] } }.askRound
  if s.lockRequested d then s.raiseConflict d .queued else s

/-- A dish rejoins at the tail: its mark becomes NONE, and STOWED_HOLD returns to ACTIVE, which suspends the heaters and has
the scan run (R109). -/
def State.rejoinTail (s : State) (d : DishId) : State :=
  let s := (s.setMark d .none).joinQueue d
  if s.stow.state = .stowedHold then (s.setStowState .active).reblockAll else s

/-- A state in which a marked dish may rejoin (R109). -/
def StowState.rejoins : StowState → Bool
  | .active | .stowedHold => true
  | .clear | .watch | .calmWait => false

/-- A BLOCKED dish that is no longer move-locked rejoins, or is marked UNREACHABLE (R109). In CALM_WAIT neither is done: the mark
stays until the return to STOWED_HOLD (log 44). -/
def State.rejoinBlocked (s : State) (d : DishId) : State :=
  if s.mark d = .blocked ∧ s.moveLocked d = false ∧ s.stow.state.rejoins then
    match (s.dish d).motion with
    | .unknown | .fault | .offline => s.setMark d .unreachable
    | .idle | .engaged | .stopping | .stowing | .stowed | .shedding => s.rejoinTail d
  else s

/-- An UNREACHABLE dish that is IDLE or STOPPING rejoins, or is marked BLOCKED (R109); in CALM_WAIT its mark stays (log 44). -/
def State.rejoinUnreachable (s : State) (d : DishId) : State :=
  if s.mark d = .unreachable ∧ s.stow.state.rejoins
      ∧ ((s.dish d).motion = .idle ∨ (s.dish d).motion = .stopping) then
    if s.moveLocked d then s.setMark d .blocked else s.rejoinTail d
  else s

/-- Every marked dish whose condition now holds rejoins, in ascending index (R109, R110). -/
def State.rejoinAll (s : State) : State := allDishes.foldl (fun s d => (s.rejoinBlocked d).rejoinUnreachable d) s

/-! ## Entry to IDLE (R11) -/

/-- Entry to IDLE: HOLD BRAKE for a move-locked dish, else KEEP; the commanded positions become the reported ones; admission
is asked for, and an UNREACHABLE dish answers by R109 (R11). -/
def State.enterIdle (s : State) (d : DishId) : State :=
  let s := s.setDish d fun x => { x with motion := .idle, cmdAz := x.repAz, cmdEl := x.repEl }
  let s := if s.moveLocked d then s.writeHoldBrake d else s.putSlot d .keep
  s.askRound.rejoinUnreachable d

/-! ## Dishes taken from the stow (R108) -/

/-- A dish removed from the queue or from STOWING, or a STOWED dish lost: marked, its move record discarded, STOW_PROBLEM
raised, and the passage to STOWED_HOLD judged (R108). -/
def State.markDish (s : State) (d : DishId) (m : StowMark) (why : Detail) : State :=
  (((s.unqueue d).setMove d none).setMark d m).raise .stowProblem why |>.checkStowedHold

/-- The Stow Controller's answer to a dish that has entered FAULT by a reported code from the motion state given (R108). -/
def State.stowOnFault (s : State) (d : DishId) (prior : Motion) : State :=
  if !s.stowInForce then s
  else if prior = .stowing then s.markDish d .unreachable (.stowFailed d)
  else if s.queued d || decide (prior = .stowed) then s.markDish d .unreachable (.stowUnreachable d)
  else s

/-- The Stow Controller's answer to a dish that has entered OFFLINE from the motion state given (R108). -/
def State.stowOnLoss (s : State) (d : DishId) (prior : Motion) : State :=
  if !s.stowInForce then s
  else if s.queued d || decide (prior = .stowing) || decide (prior = .stowed) then
    s.markDish d .unreachable (.stowUnreachable d)
  else s

/-- A queued dish that has become move-locked is removed and marked BLOCKED (R108). -/
def State.stowOnLocked (s : State) (d : DishId) : State :=
  if s.stowInForce && s.queued d then s.markDish d .blocked (.stowBlocked d) else s

/-! ## Building and ranking the Stow Queue -/

/-- A dish stands before another within its mast group: lower stow rank, then lower index (R102). -/
def rankBefore (c : DishId → Nat) (a b : DishId) : Bool :=
  decide (c a < c b) || (decide (c a = c b) && decide (a.val ≤ b.val))

/-- Insertion into a list ordered by a test. -/
def insertBy {α : Type} (before : α → α → Bool) (x : α) : List α → List α
  | [] => [x]
  | y :: ys => if before x y then x :: y :: ys else y :: insertBy before x ys

/-- Insertion sort by a test. -/
def sortBy {α : Type} (before : α → α → Bool) : List α → List α
  | [] => []
  | x :: xs => insertBy before x (sortBy before xs)

/-- The dishes of a list that a mast governs, in ascending stow rank and then index (R102). -/
def State.mastGroup (s : State) (m : MastId) (ds : List DishId) : List DishId :=
  sortBy (rankBefore fun d => (s.cfg d).stowRank) (ds.filter fun d => decide ((s.cfg d).mast = m))

/-- A mast is silent for ranking: not configured, or STALE or NOT_SEEN (R102). -/
def State.silentMast (s : State) (m : MastId) : Bool :=
  !s.settings.mastConfigured[m] || decide (s.wind.masts[m].state ≠ .live)

/-- A mast with the higher last gust, or the lower index among equal gusts, stands before (R102). -/
def State.gustBefore (s : State) (a b : MastId) : Bool :=
  decide (s.wind.masts[b].gust < s.wind.masts[a].gust)
    || (decide (s.wind.masts[a].gust = s.wind.masts[b].gust) && decide (a.val ≤ b.val))

/-- The order of the mast groups: tripped masts in trip order, silent masts ascending, the rest by descending gust (R102). -/
def State.mastOrder (s : State) : List MastId :=
  let rest := allMasts.filter fun m => !s.stow.tripOrder.contains m
  s.stow.tripOrder ++ rest.filter s.silentMast ++ sortBy s.gustBefore (rest.filter fun m => !s.silentMast m)

/-- The queue ranked (R102). -/
def State.rankQueue (s : State) (ds : List DishId) : List DishId := s.mastOrder.flatMap fun m => s.mastGroup m ds

/-- One dish judged at the building of the Stow Queue (R101, R149). -/
def State.buildDish (s : State) (d : DishId) : State :=
  let m := (s.dish d).motion
  if !(s.cfg d).present || decide (m = .stowed) then s
  else if m = .idle ∧ (s.dish d).alreadyStowed then (s.setMotion d .stowed).writeHoldBrake d
  else if s.moveLocked d then (s.setMark d .blocked).raise .stowProblem (.stowBlocked d)
  else if m = .offline ∨ m = .fault ∨ m = .unknown then
    (s.setMark d .unreachable).raise .stowProblem (.stowUnreachable d)
  else if m = .idle ∨ m = .stopping then s.joinQueue d
  else s

/-- The Stow Queue built afresh and ranked, with every mark NONE before (R100 step 4, R101, R102). -/
def State.buildQueue (s : State) : State :=
  let s := { s with stow := { s.stow with queue := [], marks := Vector.replicate 48 .none } }
  let s := allDishes.foldl State.buildDish s
  { s with stow := { s.stow with queue := s.rankQueue s.stow.queue } }.askRound

/-- The queued dishes up to and with the last one that meets a test, and those behind it. -/
def splitAfterLast (p : DishId → Bool) (ds : List DishId) : List DishId × List DishId :=
  let behind := (ds.reverse.takeWhile fun d => !p d).reverse
  (ds.take (ds.length - behind.length), behind)

/-- Re-ranking for a mast newly in the trip order: its queued dishes are set down behind the last dish of a mast that tripped
earlier, or at the head (R103). -/
def State.rerank (s : State) (m : MastId) : State :=
  let earlier := s.stow.tripOrder.takeWhile fun x => decide (x ≠ m)
  let moved := s.mastGroup m s.stow.queue
  let rest := s.stow.queue.filter fun d => decide ((s.cfg d).mast ≠ m)
  let parts := splitAfterLast (fun d => earlier.contains (s.cfg d).mast) rest
  { s with stow := { s.stow with queue := parts.1 ++ moved ++ parts.2 } }.askRound

/-! ## Weather snapshot (R95, R96) -/

/-- A mast as the snapshot sees it. -/
def State.snapOf (s : State) (m : MastId) : SnapEntry :=
  { configured := s.settings.mastConfigured[m], state := s.wind.masts[m].state, level := s.wind.masts[m].level }

/-- The snapshot captures: every mast copied, the capture frame set, the snapshot closed and WEATHER raised with the mast's
former and new values (R95). -/
def State.capture (s : State) (m : MastId) (former : SnapEntry) : State :=
  { s with wind := { s.wind with snapshot := Vector.ofFn s.snapOf, captureFrame := s.ring.frame, snapOpen := false } }.raise
    .weather (.weatherCapture m former.state former.level (s.snapOf m).state (s.snapOf m).level)

/-- A change of a mast's state, level or configured flag is offered to the snapshot (R95). -/
def State.offerSnapshot (s : State) (m : MastId) (former : SnapEntry) : State :=
  if s.wind.snapOpen && decide (former ≠ s.snapOf m) then s.capture m former else s

/-- A mast's level passes into or out of TRIP (R94). -/
def crossesTrip (former new : Option Level) : Bool :=
  decide (former ≠ new) && (decide (former = some .trip) || decide (new = some .trip))

/-- A mast that enters or leaves TRIP has its trip-seen flag set and raises WEATHER with kind TRIP_CHANGE (R95, R96). -/
def State.noteTrip (s : State) (m : MastId) (former : Option Level) : State :=
  let new := s.wind.masts[m].level
  if crossesTrip former new then
    { s with wind := { s.wind with tripSeen := s.wind.tripSeen.set m true } }.raise .weather (.weatherTripChange m new)
  else s

/-- A mast record set. -/
def State.setMast (s : State) (m : MastId) (x : Mast) : State :=
  { s with wind := { s.wind with masts := s.wind.masts.set m x } }

/-- CLEAR and WATCH change into each other as configured LIVE masts reach or leave WATCH (R99). -/
def State.judgeWatch (s : State) : State :=
  match s.stow.state with
  | .clear => if s.someWatch then s.setStowState .watch else s
  | .watch => if s.someWatch then s else s.setStowState .clear
  | .active => s
  | .stowedHold => s
  | .calmWait => s

/-- The release condition judged: STOWED_HOLD passes to CALM_WAIT when it holds, CALM_WAIT returns to STOWED_HOLD with its
timer stopped when it does not, and marked dishes rejoin (R110). -/
def State.judgeRelease (s : State) : State :=
  match s.stow.state with
  | .stowedHold => if s.releaseCondition then s.enterCalmWait else s
  | .calmWait =>
    if s.releaseCondition then s
    else ({ s with stow := { s.stow with holdOff := none } }.setStowState .stowedHold).rejoinAll
  | .clear => s
  | .watch => s
  | .active => s

/-- The Stow Controller's judgements of a change that is no trigger (R99, R110). -/
def State.judgeWeather (s : State) : State := s.judgeRelease.judgeWatch

/-- Entry to CLEAR: every STOWED dish enters IDLE, marks and trip order are emptied, WEATHER is raised and admission is asked
for; a mast at WATCH takes the state on to WATCH (R112). -/
def State.enterClear (s : State) : State :=
  let s := allDishes.foldl (fun s d => if (s.dish d).motion = .stowed then s.enterIdle d else s) s
  let s := { s with stow := { s.stow with marks := Vector.replicate 48 .none, tripOrder := [], holdOff := none } }
  (s.setStowState .clear).askRound.judgeWatch

end Sys2Proof.Machine
end

