-- ==== Sys2Proof/Machine/GroupOps.lean ====
section
/-! DEFINITION. GroupOps.lean: the Group Controller's operations on groups and their members (chapter 3), with the track
streams' values at passages (R76, R88), and the ends of shed moves (R141). -/

namespace Sys2Proof.Machine

/-- The record of a group slot. -/
def State.group (s : State) (g : SlotId) : Group := s.groups[g]

/-- The track stream of a group slot. -/
def State.stream (s : State) (g : SlotId) : Stream := s.streams[g]

/-- An active member: ACTIVE or ARRIVED (R45). -/
def Member.isActive (m : Member) : Bool := m.status.isActive

/-- The active members of a group, in the order of the member list. -/
def Group.active (g : Group) : List Member := g.members.filter Member.isActive

/-- The dishes of the active members. -/
def Group.activeDishes (g : Group) : List DishId := g.active.map (·.order.dish)

/-- The member entry of a dish changed. -/
def Group.setMember (g : Group) (d : DishId) (f : Member → Member) : Group :=
  { g with members := g.members.map fun m => if m.order.dish = d then f m else m }

/-- The member entry of a dish in a group slot changed. -/
def State.setMember (s : State) (g : SlotId) (d : DishId) (f : Member → Member) : State :=
  s.setGroup g fun x => x.setMember d f

/-- A group's state changed. -/
def State.setGroupState (s : State) (g : SlotId) (x : GroupState) : State := s.setGroup g fun r => { r with state := x }

/-- An operation taken on each dish of a list, in order. -/
def State.onDishes (s : State) (ds : List DishId) (f : State → DishId → State) : State := ds.foldl f s

/-- A slot frees: its last result is written, its track stream returns to its power-on values, and admission is asked for
(R38, R45, R76). -/
def State.freeSlot (s : State) (g : SlotId) (r : GroupResult) : State :=
  ((s.setGroup g fun x => { x with state := .free, lastResult := r }).setStream g fun _ => Stream.reset).askRound

/-- A dish's group slot field cleared. -/
def State.leaveGroup (s : State) (d : DishId) : State := s.setDish d fun x => { x with group := none }

/-- The track draw sum of a dish as configured now (R48). -/
def State.trackSum (s : State) (d : DishId) : Nat := (s.cfg d).az.trackDraw + (s.cfg d).el.trackDraw

/-- GROUP_ARRIVED with the state entered and the numbers of active and excluded members (R48, R84). -/
def State.raiseArrived (s : State) (g : SlotId) (entered : GroupState) : State :=
  let x := s.group g
  s.raise .groupArrived (.groupArrived g x.tag entered x.active.length (x.members.length - x.active.length))

/-- Passage to POSITIONED: HOLD BRAKE to every active member and their reservations removed without STOP (R48, R84). -/
def State.passPositioned (s : State) (g : SlotId) : State :=
  let ds := (s.group g).activeDishes
  let s := (s.onDishes ds State.writeHoldBrake).onDishes ds State.releaseReservation
  (s.setGroupState g .positioned).raiseArrived g .positioned

/-- Passage to TRACKING: each reservation limited to the track draws, the stream's coast counter, last sent step, starved and
finish marks cleared (R48, R76). -/
def State.passTracking (s : State) (g : SlotId) : State :=
  let ds := (s.group g).activeDishes
  let s := s.onDishes ds fun s d => s.limitReservation d (s.trackSum d)
  let s := s.setStream g fun x => { x with coast := 0, lastAz := 0, lastEl := 0, starved := false, finish := false }
  (s.setGroupState g .tracking).raiseArrived g .tracking

/-- A group passes to its on-arrival state (R48). -/
def State.passOnArrival (s : State) (g : SlotId) : State :=
  match (s.group g).action with
  | .position => s.passPositioned g
  | .track => s.passTracking g

/-- The common start: once every active member of a LOADING group is acknowledged, GO for the present frame plus 2 is written
to each, and the group enters SLEWING (R46). -/
def State.judgeStart (s : State) (g : SlotId) : State :=
  let x := s.group g
  if x.active.all (·.acked) then
    let start := s.ring.frame + 2
    (s.onDishes x.activeDishes fun s d => s.writeGo d start).setGroup g fun r =>
      { r with state := .slewing, startFrame := some start, arrivalFrame := some (start + BitVec.ofNat 32 r.t) }
  else s

/-- A SLEWING group whose active members are all ARRIVED passes on (R47). -/
def State.judgeArrival (s : State) (g : SlotId) : State :=
  if (s.group g).active.all fun m => decide (m.status = .arrived) then s.passOnArrival g else s

/-- A HOLDING group whose active members all bear the braked mark becomes HELD (R53). -/
def State.judgeHeld (s : State) (g : SlotId) : State :=
  if (s.group g).active.all (·.braked) then s.setGroupState g .held else s

/-- The judgement of a group after a change of one member (R46, R47, R49, R53). -/
def State.judgeGroup (s : State) (g : SlotId) : State :=
  match (s.group g).state with
  | .loading => s.judgeStart g
  | .slewing => s.judgeArrival g
  | .holding => s.judgeHeld g
  | .free => s
  | .tracking => s
  | .trackHalted => s
  | .positioned => s
  | .held => s
  | .resumeWait => s

/-- STOP to a dish that has left its group, unless it is FAULT or OFFLINE, which already holds STOP (R49, R58). -/
def State.stopUnlessLost (s : State) (d : DishId) : State :=
  if (s.dish d).motion = .fault ∨ (s.dish d).motion = .offline then s else s.stopDish d

/-- A group that an exclusion has left with no active member frees its slot with GROUP_ABORT (R51); another is judged
(R49). -/
def State.afterExclusion (s : State) (g : SlotId) : State :=
  if (s.group g).active.isEmpty then
    (s.freeSlot g .allExcluded).raise .groupAbort (.groupAbort g (s.group g).tag .allExcluded)
  else s.judgeGroup g

/-- Exclusion of an active member (R49). -/
def State.exclude (s : State) (g : SlotId) (d : DishId) (why : ExclReason) : State :=
  let s := s.setMember g d fun m => { m with status := .excluded why s.ring.frame }
  ((s.leaveGroup d).stopUnlessLost d).afterExclusion g

/-- A dish that is an active member of a group is excluded (R50). -/
def State.excludeMember (s : State) (d : DishId) (why : ExclReason) : State :=
  match (s.dish d).group with
  | none => s
  | some g => s.exclude g d why

/-- A group ended as by abort: STOP to its members, their group fields cleared, the stream cleared, the slot free (R58). -/
def State.endGroup (s : State) (g : SlotId) (r : GroupResult) : State :=
  (s.onDishes (s.group g).activeDishes fun s d => (s.leaveGroup d).stopUnlessLost d).freeSlot g r

/-- A group dissolved by a stow trigger or DRIVE RESET, with GROUP_ABORT; a FREE slot is left (R59, R60). -/
def State.dissolve (r : GroupResult) (s : State) (g : SlotId) : State :=
  if (s.group g).state = .free then s
  else (s.endGroup g r).raise .groupAbort (.groupAbort g (s.group g).tag r)

/-- Every group dissolved (R59, R60), in ascending slot number, which decides whose GROUP_ABORT detail stands last (log 48). -/
def State.dissolveAll (s : State) (r : GroupResult) : State := allSlots.foldl (State.dissolve r) s

/-! ## Shed moves and the Shed List (R138, R141, R142) -/

/-- A dish's last shed result written (R138). -/
def State.setShedResult (s : State) (d : DishId) (r : ShedResult) : State :=
  { s with melt := { s.melt with shedResult := s.melt.shedResult.set d r } }

/-- A dish's shed move record set or discarded. -/
def State.setShedMove (s : State) (d : DishId) (m : Option ShedMove) : State :=
  { s with melt := { s.melt with shedMoves := s.melt.shedMoves.set d m } }

/-- A dish stands in the Shed List. -/
def State.shedListed (s : State) (d : DishId) : Bool := s.melt.shedList.any fun e => decide (e.dish = d)

/-- A dish leaves the Shed List, a change of the list that asks for admission (R138). -/
def State.unlistShed (s : State) (d : DishId) : State :=
  { s with melt := { s.melt with shedList := s.melt.shedList.filter fun e => decide (e.dish ≠ d) } }.askRound

/-- A dish removed from the Shed List with result SKIPPED, where it stands there (R138). -/
def State.skipShed (s : State) (d : DishId) : State :=
  if s.shedListed d then (s.unlistShed d).setShedResult d .skipped else s

/-- A shed move's record discarded and its result written (R141). -/
def State.endShed (s : State) (d : DishId) (r : ShedResult) : State := (s.setShedMove d none).setShedResult d r

/-- A SHEDDING dish stopped with the result given (R141). -/
def State.stopShed (s : State) (d : DishId) (r : ShedResult) : State :=
  if (s.dish d).motion = .shedding then (s.stopDish d).endShed d r else s

/-- Every SHEDDING dish stopped and the Shed List emptied with SKIPPED (R142). -/
def State.clearSheds (s : State) (r : ShedResult) : State :=
  let s := s.onDishes allDishes fun s d => s.stopShed d r
  s.onDishes (s.melt.shedList.map (·.dish)) State.skipShed

/-! ## Stow triggers (R99, R100) -/

/-- Entry to ACTIVE (R100): groups dissolved, shed moves ended, heaters blocked, the queue built, WEATHER raised and the scan
asked for. The state is set before the heaters are judged, so that the stow blocks them (R132). -/
def State.enterActive (s : State) : State :=
  let s := (s.dissolveAll .stowAbort).clearSheds .aborted
  let s := { s with stow := { s.stow with holdOff := none } }.setStowState .active
  s.reblockAll.buildQueue

/-- A mast appended to the trip order if it is not there (R99). -/
def State.noteTripOrder (s : State) (m : MastId) : State :=
  if s.stow.tripOrder.contains m then s else { s with stow := { s.stow with tripOrder := s.stow.tripOrder ++ [m] } }

/-- The trip trigger (R99). -/
def State.tripTrigger (s : State) (m : MastId) : State :=
  match s.stow.state with
  | .active => if s.stow.tripOrder.contains m then s else (s.noteTripOrder m).rerank m
  | .clear => (s.noteTripOrder m).enterActive
  | .watch => (s.noteTripOrder m).enterActive
  | .stowedHold => (s.noteTripOrder m).enterActive
  | .calmWait => (s.noteTripOrder m).enterActive

/-- The stale-count trigger and the manual trigger: no change in ACTIVE, entry to ACTIVE in every other state (R99). -/
def State.plainTrigger (s : State) : State := if s.stow.state = .active then s else s.enterActive

end Sys2Proof.Machine
end

