-- ==== Sys2Proof/Machine/Round.lean ====
section
/-! DEFINITION. Round.lean: admission rounds: the stow admission scan, resumed groups, the Order Queue head and the Shed List
head (R104 to R106, R41 to R44, R56, R119 to R121, R139, R140), and settle, which runs the rounds and scans asked for. -/

namespace Sys2Proof.Machine

/-- The rest of a round goes on, or has been stopped by a failure for power (R120). -/
structure Turn where
  state : State
  failed : Bool

/-! ## Stow Queue (R104, R105, R106) -/

/-- A dish enters STOWED with HOLD BRAKE in its slot (R101, R104, R106). -/
def State.stowInPlace (s : State) (d : DishId) : State := (s.setMotion d .stowed).writeHoldBrake d

/-- LOCK_CONFLICT for a lock-requested dish admitted to a stow move (R149). -/
def State.conflictAtStow (s : State) (d : DishId) : State :=
  if s.lockRequested d then s.raiseConflict d .stowing else s

/-- Admission of a stow move (R106). -/
def State.admitStow (s : State) (d : DishId) (p : MovePlan) : State :=
  let s := (s.unqueue d).conflictAtStow d
  if p.t = 0 then s.stowInPlace d
  else
    let s := (s.enterReservation d p.draw .stow).shedHeaters
    let s := s.writeLoad d ⟨(s.dish d).repAz, 0, 0⟩ ⟨90000, p.r, p.vc⟩ p.t
    (s.setMotion d .stowing).setMove d (some ⟨p.t, none, s.ring.frame + 10⟩)

/-- A floor admission raises STOW_PROBLEM with STOW_STARVED, and sets the over-commit mark if it leaves D above A (R105,
R123). -/
def State.noteFloor (s : State) (d : DishId) (p : MovePlan) : State :=
  let s := s.raise .stowProblem (.stowStarved d p.draw s.feeder.allowance)
  if s.feeder.overCommit = none ∧ s.feeder.allowance < s.feeder.d then
    { s with feeder := { s.feeder with overCommit := some .stowFloor } }.raise .power
      (.overCommitFloor s.feeder.allowance s.feeder.d d)
  else s

/-- The walk of the admission scan over the dishes given (R104, R105). -/
def stowWalk : List DishId → State → Turn
  | [], s => ⟨s, false⟩
  | d :: ds, s =>
    if (s.dish d).motion ≠ .idle then stowWalk ds s
    else if (s.dish d).alreadyStowed then stowWalk ds ((s.unqueue d).stowInPlace d)
    else
      let p := (s.planInput d).move 90000
      if s.feeder.stowFits p.draw then stowWalk ds (s.admitStow d p)
      else if s.someStowing then ⟨s, true⟩
      else ⟨(s.admitStow d p).noteFloor d p, false⟩

/-- The Stow Queue's turn: the scan in ACTIVE, after which the passage to STOWED_HOLD is judged (R104, R107). -/
def State.stowTurn (s : State) : Turn :=
  if s.stow.state = .active then
    let r := stowWalk s.stow.queue s
    ⟨r.state.checkStowedHold, r.failed⟩
  else ⟨s, false⟩

/-! ## Groups: entering reservations and LOAD (R43, R56) -/

/-- LOAD written to each active member from its recorded plan (R43, R56, R71). -/
def State.loadMembers (s : State) (g : SlotId) : State :=
  let x := s.group g
  x.active.foldl
    (fun s m =>
      match m.plan with
      | some p =>
        s.writeLoad m.order.dish ⟨p.az, p.azPlan.r, p.azPlan.vc⟩ ⟨p.el, p.elPlan.r, p.elPlan.vc⟩ x.t
      | none => s)
    s

/-- A group just given its profiles: with T above 0 LOAD is written and the group enters LOADING, with T 0 it passes at once to
its on-arrival state (R43, R56). -/
def State.launch (s : State) (g : SlotId) : State :=
  if (s.group g).t = 0 then s.passOnArrival g
  else (s.loadMembers g).setGroup g fun x => { x with state := .loading, loadFrame := some s.ring.frame }

/-- One reservation per member of a list, with purpose GROUP; an amount of 0 is no entry (R43, R116). -/
def State.enterGroup (s : State) (draws : List (DishId × Nat)) : State :=
  draws.foldl (fun s x => s.enterReservation x.1 x.2 .group) s

/-! ## RESUME_WAIT groups (R56) -/

/-- A RESUME_WAIT group may be admitted, its fit apart (R56). -/
def State.resumable (s : State) (g : SlotId) : Bool :=
  decide ((s.group g).state = .resumeWait) && !s.stowInForce && s.censusDone
    && (s.group g).active.all fun m => decide ((s.dish m.order.dish).motion = .engaged) && m.braked

/-- The calculator's inputs for the active members of a resumed group: their recorded resolved targets (R64). -/
def State.resumeInputs (s : State) (g : SlotId) : List (DishId × PlanInput × Targets) :=
  (s.group g).active.filterMap fun m =>
    m.plan.map fun p => (m.order.dish, s.planInput m.order.dish, ⟨p.az, p.el⟩)

/-- A member's plan computed afresh at a resume (R56, R64). -/
def State.replan (s : State) (t : Nat) (m : Member) : Member :=
  if m.isActive then
    { m with
      status := .active, acked := false
      plan := m.plan.map fun p => (s.planInput m.order.dish).plan ⟨p.az, p.el⟩ t }
  else m

/-- A resumed group held from SLEWING is admitted with its new profiles (R56). -/
def State.resumeSlew (s : State) (g : SlotId) (t : Nat) (draws : List (DishId × Nat)) : State :=
  let members := (s.group g).members.map (s.replan t)
  ((s.enterGroup draws).shedHeaters.setGroup g fun x => { x with heldFrom := none, t := t, members := members }).launch g

/-- A resumed group held from TRACKING is admitted with its track draws (R56). -/
def State.resumeTrack (s : State) (g : SlotId) (draws : List (DishId × Nat)) : State :=
  (s.enterGroup draws).shedHeaters.setGroup g fun x => { x with heldFrom := none, state := .tracking }

/-- One RESUME_WAIT group's turn (R56, R120). -/
def State.resumeTurn (s : State) (g : SlotId) : Turn :=
  if s.resumable g then
    match (s.group g).heldFrom with
    | some .tracking =>
      let draws := (s.group g).activeDishes.map fun d => (d, s.trackSum d)
      if s.feeder.groupFits (draws.map (·.2)).sum then ⟨s.resumeTrack g draws, false⟩ else ⟨s, true⟩
    | some .slewing | none =>
      let ins := s.resumeInputs g
      let draws := ins.map fun x => (x.1, x.2.1.groupDraw x.2.2 (s.group g).action)
      if s.feeder.groupFits (draws.map (·.2)).sum then
        ⟨s.resumeSlew g (commonTime (ins.map (·.2))) draws, false⟩
      else ⟨s, true⟩
  else ⟨s, false⟩

/-- The RESUME_WAIT groups' turns in ascending slot number, until one fails for power (R119, R120). -/
def resumeWalk : List SlotId → State → Turn
  | [], s => ⟨s, false⟩
  | g :: gs, s =>
    let r := s.resumeTurn g
    if r.failed then r else resumeWalk gs r.state

/-! ## The Order Queue head (R41 to R44) -/

/-- How one member record is judged (R42). -/
inductive Judgement where
  | excluded (reason : ExclReason)
  | waits
  | taken
  deriving DecidableEq, Repr

/-- A member of the head order judged on its dish's record as it stands (R42). -/
def State.judgeMember (s : State) (d : DishId) : Judgement :=
  if s.moveLocked d || s.lockRequested d then .excluded .locked
  else if s.melt.ice[d] then .excluded .iced
  else if (s.dish d).motion = .fault then .excluded .fault
  else if (s.dish d).motion = .offline then .excluded .offline
  else if (s.dish d).group ≠ none then .waits
  else if (s.dish d).motion ≠ .idle then .waits
  else if s.shedListed d then .waits
  else .taken

/-- The lowest-numbered FREE slot (R43). -/
def State.freeGroup (s : State) : Option SlotId := allSlots.find? fun g => decide ((s.group g).state = .free)

/-- The targets of a taken member: its AZ wrap resolved from its reported AZ, its EL as committed (R43, R63). -/
def State.memberTargets (s : State) (m : MemberRecord) : Targets :=
  { az := resolveWrap (s.dish m.dish).repAz m.skyAz m.wrap, el := m.el }

/-- The entry of a member record in the new group: taken with its plan, or excluded with its reason and the present frame
(R43). -/
def State.memberEntry (s : State) (t : Nat) (m : MemberRecord) : Member :=
  match s.judgeMember m.dish with
  | .excluded r => { order := m, status := .excluded r s.ring.frame, plan := none, acked := false, braked := false }
  | .waits | .taken =>
    { order := m, status := .active, acked := false, braked := false
      plan := some ((s.planInput m.dish).plan (s.memberTargets m) t) }

/-- The taken members of an order. -/
def State.takenMembers (s : State) (o : Order) : List MemberRecord :=
  o.members.filter fun m => decide (s.judgeMember m.dish = .taken)

/-- The head order admitted into a slot (R43). Its last result is NONE while the group holds the slot (log 41). -/
def State.admitOrder (s : State) (o : Order) (g : SlotId) (t : Nat) (draws : List (DishId × Nat)) : State :=
  let members := o.members.map (s.memberEntry t)
  let s := { s with orders := s.orders.tail }.setStream g fun _ => Stream.reset
  let s := s.setGroup g fun _ =>
    { state := .loading, tag := o.tag, action := o.action, heldFrom := none, t := t, loadFrame := none
      startFrame := none, arrivalFrame := none, lastResult := .none, members := members }
  let s := s.onDishes (draws.map (·.1)) fun s d => s.setDish d fun x => { x with motion := .engaged, group := some g }
  (s.enterGroup draws).shedHeaters.launch g

/-- The Order Queue's turn over the orders given: each head is tried until one waits or fails for power (R41 to R44, R119). -/
def orderWalk : List Order → State → Turn
  | [], s => ⟨s, false⟩
  | o :: os, s =>
    match s.freeGroup with
    | none => ⟨s, false⟩
    | some g =>
      if !s.censusDone || s.stowInForce then ⟨s, false⟩
      else if o.members.any fun m => decide (s.judgeMember m.dish = .waits) then ⟨s, false⟩
      else if (s.takenMembers o).isEmpty then
        orderWalk os ({ s with orders := s.orders.tail }.raise .orderRefused (.orderRefused o.tag .allExcluded))
      else
        let ins := (s.takenMembers o).map fun m => (m.dish, s.planInput m.dish, s.memberTargets m)
        let draws := ins.map fun x => (x.1, x.2.1.groupDraw x.2.2 o.action)
        if s.feeder.groupFits (draws.map (·.2)).sum then
          orderWalk os (s.admitOrder o g (commonTime (ins.map (·.2))) draws)
        else ⟨s, true⟩

/-! ## The Shed List head (R139, R140) -/

/-- Admission of a shed move (R140). -/
def State.admitShed (s : State) (d : DishId) (p : MovePlan) : State :=
  let s := s.unlistShed d
  if p.t = 0 then s.setShedResult d .done
  else
    let s := (s.enterReservation d p.draw .shed).shedHeaters
    let s := s.writeLoad d ⟨(s.dish d).repAz, 0, 0⟩ ⟨(s.cfg d).shedEl, p.r, p.vc⟩ p.t
    (s.setMotion d .shedding).setShedMove d (some ⟨p.t, none, false, s.ring.frame + 10⟩)

/-- A listed dish is unfit for its shed move (R139 step 2). -/
def State.shedUnfit (s : State) (d : DishId) : Bool :=
  !(s.cfg d).present || s.moveLocked d || s.lockRequested d || decide ((s.dish d).motion ≠ .idle)

/-- The Shed List's turn over the entries given (R139). -/
def shedListWalk : List ShedEntry → State → Turn
  | [], s => ⟨s, false⟩
  | e :: es, s =>
    if !s.censusDone || s.stowInForce then ⟨s, false⟩
    else if s.shedUnfit e.dish then shedListWalk es ((s.unlistShed e.dish).setShedResult e.dish .skipped)
    else
      let p := (s.planInput e.dish).move (s.cfg e.dish).shedEl
      if s.feeder.groupFits p.draw then shedListWalk es (s.admitShed e.dish p) else ⟨s, true⟩

/-! ## Rounds -/

/-- An admission round: the four places in rank, stopped by a failure for power (R119, R120). -/
def State.admissionRound (s : State) : State :=
  let r := s.stowTurn
  if r.failed then r.state
  else
    let r := resumeWalk allSlots r.state
    if r.failed then r.state
    else
      let r := orderWalk r.state.orders r.state
      if r.failed then r.state else (shedListWalk r.state.melt.shedList r.state).state

/-- Nothing is asked for any more. -/
def State.quiet (s : State) : State := { s with judgeDue := false, roundDue := false, scanDue := false }

/-- The judgements of the over-commit mark, rounds and scans asked for, run until none is asked for or the fuel is spent. The mark
is judged before the round (R123, log 38), and a round goes before a scan (log 7). -/
def settleFuel : Nat → State → State
  | 0, s => s.quiet
  | n + 1, s =>
    if s.judgeDue then settleFuel n { s with judgeDue := false }.judgeRestored
    else if s.roundDue then settleFuel n { s with roundDue := false }.admissionRound
    else if s.scanDue then settleFuel n { s with scanDue := false }.poweringScan
    else s

/-- Fuel for settle: each round that asks for another has taken something from one of the waiting lists (log 7). -/
def State.settleBound (s : State) : Nat :=
  3 * (s.stow.queue.length + s.orders.length + s.melt.shedList.length + 8) + 12

/-- The judgement of the over-commit mark, the rounds and the powering scans that a step has asked for, run within the step (R119,
R123, R133; log 7, log 38). -/
def State.settle (s : State) : State := settleFuel s.settleBound s

end Sys2Proof.Machine
end

