-- ==== Sys2Proof/Machine/Operands.lean ====
section
/-! DEFINITION. Operands.lean: how a request is served at its port (R158, R161, R163, R164), and the fields of responses and
details as bytes (R166, R176, R179; log 11). -/

namespace Sys2Proof.Machine

/-! ## Serving a request -/

/-- The requests that a port may carry (R163). -/
def permitted (p : Port) : Request → Bool
  | .openOrder | .addMembers | .commitOrder | .cancelOrder | .holdGroup | .resumeGroup | .releaseGroup | .abortGroup
  | .pushTrack | .flushTrack | .clearTrackFault | .readGroup | .readQueue => decide (p = .scheduler)
  | .windSample | .stowArray | .releaseStow | .resetWeatherSnapshot | .readWeather | .setAllowance | .setMeltGuard
  | .readFeeder | .meltOrder | .cancelMelt | .readMelt | .writeConfig | .readConfig | .driveReset =>
    decide (p = .safety)
  | .placeLock | .releaseLock | .readLocks | .censusComplete => decide (p = .maintenance)
  | .readDish | .takeAttention | .endAttention | .setAttentionMask | .readViolation | .portReset | .fetchResponse => true

/-- A transaction of this sender is taken: the reset pin is not held, and a station was enabled when it can have been addressed. A
transaction already addressed to a station that a write has disabled since completes (R160, R171; log 40). -/
def State.hears (s : State) (src : Sender) : Bool :=
  !s.resetHeld &&
    match src with
    | .scheduler => true
    | .safety => true
    | .station n => s.ports.addressable[n]

/-- The station that a 7-bit address of the maintenance bus selects at a start condition: the enabled one that has it, and none
while the reset pin is held (R160, R171). -/
def State.stationAt (s : State) (address : Nat) : Option StationId :=
  if s.resetHeld then none
  else (List.finRange 4).find? fun n => s.settings.station[n].enabled && decide (s.settings.station[n].address = address)

/-- A port's abandoned mark set or cleared. -/
def State.setAbandoned (s : State) (p : Port) (b : Bool) : State :=
  match p with
  | .scheduler => { s with ports := { s.ports with schedulerAbandoned := b } }
  | .safety => { s with ports := { s.ports with safetyAbandoned := b } }
  | .maintenance => { s with ports := { s.ports with maintenanceAbandoned := b } }

/-- A port's abandoned mark. -/
def State.abandoned (s : State) : Port → Bool
  | .scheduler => s.ports.schedulerAbandoned
  | .safety => s.ports.safetyAbandoned
  | .maintenance => s.ports.maintenanceAbandoned

/-- The maintenance bus is free again: the next start condition finds the stations that are enabled (R160). -/
def State.freeBus (s : State) : Port → State
  | .scheduler => s
  | .safety => s
  | .maintenance => { s with ports := { s.ports with addressable := s.settings.station.map (·.enabled) } }

/-- A transaction of a port completes: no abandoned mark stands, and the maintenance bus is free again (R159, R160, R162). -/
def State.endTransaction (s : State) (p : Port) : State := (s.setAbandoned p false).freeBus p

/-- A response replaces the content of the sender's holder, alone. -/
def State.storeResponse (s : State) (src : Sender) (r : Option Response) : State :=
  match src with
  | .scheduler => { s with ports := { s.ports with schedulerHolder := r } }
  | .safety => { s with ports := { s.ports with safetyHolder := r } }
  | .station n => { s with ports := { s.ports with stationHolders := s.ports.stationHolders.set n r } }

/-- A transaction of the sender completes, and its response replaces the content of the sender's holder (R157, R161). -/
def State.putHolder (s : State) (src : Sender) (r : Option Response) : State :=
  (s.endTransaction src.port).storeResponse src r

/-- The content of a sender's holder. -/
def State.holder (s : State) (src : Sender) : Option Response :=
  match src with
  | .scheduler => s.ports.schedulerHolder
  | .safety => s.ports.safetyHolder
  | .station n => s.ports.stationHolders[n]

/-- A response with the code echoed, a status and fields. -/
def State.respond (s : State) (src : Sender) (code : Byte) (st : Status) (fields : List Byte) : State :=
  s.putHolder src (some ⟨code, st, fields⟩)

/-- The response of a request of the catalogue. -/
def State.answer (s : State) (src : Sender) (r : Request) (st : Status) (fields : List Byte) : State :=
  s.respond src r.code st fields

/-- A refusal without fields. -/
def State.refuse (s : State) (src : Sender) (r : Request) (st : Status) : State := s.answer src r st []

/-- A port's violation record. -/
def State.violation (s : State) : Port → Violation
  | .scheduler => s.ports.schedulerViolation
  | .safety => s.ports.safetyViolation
  | .maintenance => s.ports.maintenanceViolation

/-- A port's violation record changed. -/
def State.setViolation (s : State) (p : Port) (v : Violation) : State :=
  match p with
  | .scheduler => { s with ports := { s.ports with schedulerViolation := v } }
  | .safety => { s with ports := { s.ports with safetyViolation := v } }
  | .maintenance => { s with ports := { s.ports with maintenanceViolation := v } }

/-- The station of a sender, on the maintenance port only. -/
def senderStation : Sender → Option StationId
  | .scheduler => none
  | .safety => none
  | .station n => some n

/-- A refused request counted to 255, and the first refused code and station kept (R164). -/
def Violation.refuse (v : Violation) (code : Byte) (station : Option StationId) : Violation :=
  let v := { v with refused := min 255 (v.refused + 1) }
  if v.firstCode = none then { v with firstCode := some code, firstStation := station } else v

/-- A link timeout counted to 255 (R159, R162). -/
def Violation.timeout (v : Violation) : Violation := { v with linkTimeouts := min 255 (v.linkTimeouts + 1) }

/-- A request served at its port by cases 5 to 7 of R158: not permitted, a wrong length, or handed to its owning block. -/
def serve {α : Type} (src : Sender) (r : Request) (body : Body α) (s : State) (take : α → State) :
    Host.Outcome State Fault Refusal :=
  if s.hears src then
    if permitted src.port r then
      match body with
      | .wrongLength => .next (s.refuse src r .badField)
      | .fields f => .next (take f)
    else
      .next ((s.setViolation src.port ((s.violation src.port).refuse r.code (senderStation src))).refuse src r .notPermitted)
  else .next s

/-- An event of the part itself: nothing happens while the reset pin is held (R171; log 12). -/
def event (s : State) (take : State) : Host.Outcome State Fault Refusal := if s.resetHeld then .next s else .next take

/-! ## Fields of responses (R179) -/

/-- A flag: 1 when set. -/
def flag (b : Bool) : List Byte := u8 b.toNat

/-- A field that may be none: preceded by 0 or 1. Fields that a rule gives together under one condition are preceded by one such
byte for all of them (log 11). -/
def opt {α : Type} (f : α → List Byte) : Option α → List Byte
  | none => u8 0
  | some x => u8 1 ++ f x

/-- A list of varying length that can hold at most 255 items, preceded by its count. -/
def list {α : Type} (f : α → List Byte) (xs : List α) : List Byte := u8 xs.length ++ xs.flatMap f

/-- A frame number. -/
def frameField (x : Frame) : List Byte := u32 x.toNat

/-- Flags as a mask byte, bit 0 the first. -/
def maskField : List Bool → Nat
  | [] => 0
  | b :: bs => b.toNat + 2 * maskField bs

/-- A status code (R176). -/
def Status.code : Status → Byte
  | .ok => 0x00
  | .badFrame => 0x01
  | .unknownRequest => 0x02
  | .notPermitted => 0x03
  | .badField => 0x04
  | .busy => 0x05
  | .notFound => 0x06
  | .full => 0x07
  | .duplicate => 0x08
  | .wrongState => 0x09
  | .conditionActive => 0x0A

/-- The bytes of a response frame: echoed code, status, length, fields, CRC-8 (R176, R177). -/
def Response.frame (r : Response) : List Byte :=
  let body := r.code :: r.status.code :: (u16 r.fields.length ++ r.fields)
  body ++ [crc8 body]

/-- The kind byte and the kind fields of a command record (R180). -/
def Command.field : Command → List Byte
  | .keep => [0x01]
  | .load az el t =>
    [0x02] ++ s32 az.target ++ u16 az.r ++ u16 az.vc ++ s32 el.target ++ u16 el.r ++ u16 el.vc ++ u24 t
  | .go start => [0x03] ++ frameField start
  | .stop => [0x04]
  | .trackStep az el => [0x05] ++ s16 az ++ s16 el
  | .holdBrake => [0x06]

/-- The bytes of a command record on the ring: dish index, frame number, kind, fields, CRC-16 (R180, R181). -/
def SentRecord.bytes (r : SentRecord) : List Byte :=
  let body := u8 r.dish.val ++ frameField r.frame ++ r.command.field
  body ++ u16 (crc16 body).toNat

/-- The byte of a held response at a place of a transaction: the response, then 0xFF (R157, R161). -/
def State.heldByte (s : State) (src : Sender) (n : Nat) : Byte :=
  match s.holder src with
  | none => 0xFF
  | some r => r.frame.getD n 0xFF

/-- What the part drives where it drives no response: 0xFF on a four-wire port, nothing on the maintenance bus (R159, R162, R171). -/
def undriven : Port → Option Byte
  | .scheduler => some 0xFF
  | .safety => some 0xFF
  | .maintenance => none

/-- The byte that the part drives at a place of a transaction of the sender, anew telling that the transaction began after the last
one that the model has taken. It is the held response's (R157, R161). An abandoned transaction goes on without it until select rises,
or until the next start condition (R159, R162), and so does a port while the reset pin is held (R171). -/
def State.dataOut (s : State) (src : Sender) (anew : Bool) (n : Nat) : Option Byte :=
  if s.resetHeld || (s.abandoned src.port && !anew) then undriven src.port else some (s.heldByte src n)

/-- The place of each motion state in section 1.2's list. -/
def Motion.place : Motion → Nat
  | .unknown => 0
  | .idle => 1
  | .engaged => 2
  | .stopping => 3
  | .stowing => 4
  | .stowed => 5
  | .shedding => 6
  | .fault => 7
  | .offline => 8

/-- FREE, then the group states in the order of section 3.4. -/
def GroupState.place : GroupState → Nat
  | .free => 0
  | .loading => 1
  | .slewing => 2
  | .tracking => 3
  | .trackHalted => 4
  | .positioned => 5
  | .holding => 6
  | .held => 7
  | .resumeWait => 8

/-- POSITION 0, TRACK 1 (R178). -/
def Action.place : Action → Nat
  | .position => 0
  | .track => 1

/-- AUTO 0, CW 1, CCW 2 (R178). -/
def Wrap.place : Wrap → Nat
  | .auto => 0
  | .cw => 1
  | .ccw => 2

/-- Held-from behind the presence byte of a value that may be none: its places are counted among SLEWING and TRACKING, without R45's
none, which the presence byte tells (log 11). -/
def HeldFrom.place : HeldFrom → Nat
  | .slewing => 0
  | .tracking => 1

/-- The place of each last result in R45's list. -/
def GroupResult.place : GroupResult → Nat
  | .none => 0
  | .done => 1
  | .aborted => 2
  | .allExcluded => 3
  | .stowAbort => 4
  | .reset => 5

/-- AZ 0, EL 1 (R75). -/
def axisPlace : Axis → Nat
  | .az => 0
  | .el => 1

/-- RANGE 0, SPEED 1, the order of R75's list; R86 words its detail "SPEED or RANGE", and is sent the same places (log 49). -/
def FaultKind.place : FaultKind → Nat
  | .range => 0
  | .speed => 1

/-- NOT_SEEN 0, LIVE 1, STALE 2 (R91). -/
def MastState.place : MastState → Nat
  | .notSeen => 0
  | .live => 1
  | .stale => 2

/-- CALM 0, ELEVATED 1, WATCH 2, TRIP 3: R91's list, and not R94's table (log 54). -/
def Level.place : Level → Nat
  | .calm => 0
  | .elevated => 1
  | .watch => 2
  | .trip => 3

/-- The place of each stow state in R98's list. -/
def StowState.place : StowState → Nat
  | .clear => 0
  | .watch => 1
  | .active => 2
  | .stowedHold => 3
  | .calmWait => 4

/-- NONE 0, BLOCKED 1, UNREACHABLE 2 (R98). -/
def StowMark.place : StowMark → Nat
  | .none => 0
  | .blocked => 1
  | .unreachable => 2

/-- GROUP 0, STOW 1, SHED 2 (R115). -/
def Purpose.place : Purpose → Nat
  | .group => 0
  | .stow => 1
  | .shed => 2

/-- ALLOWANCE 0, STOW_FLOOR 1 (R115). -/
def OverCause.place : OverCause → Nat
  | .allowance => 0
  | .stowFloor => 1

/-- RIM 0, INNER 1, SUBREF 2 (R127). -/
def zoneKindPlace : ZoneKind → Nat
  | .rim => 0
  | .inner => 1
  | .subref => 2

/-- IDLE 0, WAITING 1, POWERED 2, BLOCKED 3 (R127). -/
def ZoneState.place : ZoneState → Nat
  | .idle => 0
  | .waiting => 1
  | .powered => 2
  | .blocked => 3

/-- The place of each last shed result in R138's list. -/
def ShedResult.place : ShedResult → Nat
  | .none => 0
  | .done => 1
  | .skipped => 2
  | .aborted => 3
  | .failed => 4
  | .reset => 5

/-- MOVE 0, HEAT 1, ALL 2 (R178). -/
def Scope.place : Scope → Nat
  | .move => 0
  | .heat => 1
  | .all => 2

/-- PENDING 0, APPLIED 1 (R144). -/
def LockState.place : LockState → Nat
  | .pending => 0
  | .applied => 1

/-- A kind of LOCK_CONFLICT: R149 names the kinds in a table of events and gives no list of them (DESIGN CHOICE: a free value,
log 3). -/
def ConflictKind.code : ConflictKind → Byte
  | .stowing => Config.unlistedCode .conflictStowing
  | .queued => Config.unlistedCode .conflictQueued

/-- An exclusion reason, whose list no rule gives whole (log 3). -/
def ExclReason.code : ExclReason → Byte
  | .locked => Config.unlistedCode .exclLocked
  | .iced => Config.unlistedCode .exclIced
  | .fault => Config.unlistedCode .exclFault
  | .offline => Config.unlistedCode .exclOffline
  | .lockRequest => Config.unlistedCode .exclLockRequest
  | .localSwitch => Config.unlistedCode .exclLocalSwitch
  | .driveFault => Config.unlistedCode .exclDriveFault
  | .noAck => Config.unlistedCode .exclNoAck
  | .arrivalTimeout => Config.unlistedCode .exclArrivalTimeout

/-- A result of ORDER_REFUSED, whose list no rule gives (log 3). -/
def OrderResult.code : OrderResult → Byte
  | .expired => Config.unlistedCode .orderExpired
  | .allExcluded => Config.unlistedCode .orderAllExcluded

/-- A failure of the limits check: dish, axis, kind (R81). -/
def LimitFailure.field (f : LimitFailure) : List Byte := u8 f.dish.val ++ u8 (axisPlace f.axis) ++ u8 f.kind.place

/-- A fault lock: the failure and the entry's increments (R75). -/
def FaultLock.field (f : FaultLock) : List Byte := f.failure.field ++ s16 f.az ++ s16 f.el

/-- A detail record as TAKE ATTENTION sends it, fields in the order of the raising rule (R166, R168, R179). The failure that only
COAST_RANGE names stands behind a presence byte (log 11). R95 gives CAPTURE the mast's former and new state and level: former state,
former level, new state, new level (log 47). -/
def Detail.field : Detail → List Byte
  | .groupAbort g tag r => u8 g.val ++ u16 tag ++ u8 r.place
  | .orderRefused tag r => u16 tag ++ [r.code]
  | .trackFault g tag l load => u8 g.val ++ u16 tag ++ l.field ++ u8 load
  | .trackStarved g tag .coastLimit n => u8 g.val ++ u16 tag ++ u8 0 ++ u8 n ++ opt LimitFailure.field none
  | .trackStarved g tag (.coastRange f) n => u8 g.val ++ u16 tag ++ u8 1 ++ u8 n ++ opt LimitFailure.field (some f)
  | .trackLow g tag load => u8 g.val ++ u16 tag ++ u8 load
  | .groupArrived g tag st a x => u8 g.val ++ u16 tag ++ u8 st.place ++ u8 a ++ u8 x
  | .stowBlocked d => [Config.unlistedCode .stowBlocked] ++ u8 d.val
  | .stowUnreachable d => [Config.unlistedCode .stowUnreachable] ++ u8 d.val
  | .stowFailed d => [Config.unlistedCode .stowFailed] ++ u8 d.val
  | .stowStarved d r a => [Config.unlistedCode .stowStarved] ++ u8 d.val ++ u16 r ++ u16 a
  | .weatherCapture m fs fl ns nl =>
    [Config.unlistedCode .weatherCapture] ++ u8 m.val ++ u8 fs.place ++ opt (fun l => u8 (Level.place l)) fl
      ++ u8 ns.place ++ opt (fun l => u8 (Level.place l)) nl
  | .weatherTripChange m nl =>
    [Config.unlistedCode .weatherTripChange] ++ u8 m.val ++ opt (fun l => u8 (Level.place l)) nl
  | .weatherStowState f n => [Config.unlistedCode .weatherStowState] ++ u8 f.place ++ u8 n.place
  | .overCommitAllowance c a d n => [Config.unlistedCode .powerOverCommit] ++ u8 c.place ++ u16 a ++ u16 d ++ u8 n
  | .overCommitFloor a d i =>
    [Config.unlistedCode .powerOverCommit] ++ u8 (OverCause.place .stowFloor) ++ u16 a ++ u16 d ++ u8 i.val
  | .powerRestored a d c => [Config.unlistedCode .powerRestored] ++ u16 a ++ u16 d ++ u8 c.place
  | .powerCut a d h n => [Config.unlistedCode .powerCut] ++ u16 a ++ u16 d ++ u16 h ++ u8 n
  | .meltDone d f => u8 d.val ++ frameField f
  | .lockConflict d tag k => u8 d.val ++ u24 tag ++ [k.code]
  | .censusRequired n => u8 n
  | .lockApplied p d tag sc st f => u8 p.val ++ u8 d.val ++ u24 tag ++ u8 sc.place ++ u8 st.val ++ frameField f

/-- The four drive parameters of an axis. -/
def AxisParams.field (p : AxisParams) : List Byte := u16 p.vmax ++ u8 p.a ++ u16 p.rampDraw ++ u16 p.trackDraw

/-- The three lock view counts of a dish (R5). -/
def State.lockCountsField (s : State) (d : DishId) : List Byte :=
  u8 (s.appliedMove d) ++ u8 (s.pendingMove d) ++ u8 (s.appliedHeat d)

/-- The ms left of a timer that expires at the clock value given. -/
def State.msLeft (s : State) (expires : Nat) : Nat := expires - s.clock

/-! ## Sections of the configuration (section 11.2, R178) -/

/-- Section DISH of one dish. -/
def State.dishSection (s : State) (d : DishId) : List Byte :=
  u8 d.val ++ flag (s.cfg d).present ++ (s.cfg d).az.field ++ (s.cfg d).el.field ++ u8 (s.cfg d).mast.val
    ++ u8 (s.cfg d).stowRank ++ u24 (s.cfg d).shedEl.toNat

/-- Section MAST. -/
def State.mastSection (s : State) : List Byte := u8 (maskField s.settings.mastConfigured.toList)

/-- Section WIND. -/
def State.windSection (s : State) : List Byte :=
  let w := s.settings.wind
  u16 w.tripGust ++ u16 w.watchMean ++ u16 w.releaseGust ++ u8 w.staleness ++ u8 w.staleTrip ++ u16 w.holdOff

/-- Section TRACK. -/
def State.trackSection (s : State) : List Byte := u8 s.settings.track.coastLimit ++ u8 s.settings.track.lowMark

/-- Section MELT. -/
def State.meltSection (s : State) : List Byte :=
  let m := s.settings.melt
  u16 m.rim ++ u16 m.inner ++ u16 m.subref ++ u16 m.slot

/-- Section STATION. -/
def State.stationSection (s : State) : List Byte :=
  s.settings.station.toList.flatMap (fun x => u8 x.address)
    ++ u8 (maskField (s.settings.station.toList.map (·.enabled)))

end Sys2Proof.Machine
end

