-- ==== Sys2Proof/Machine/ConfigRequests.lean ====
section
/-! DEFINITION. ConfigRequests.lean: WRITE CONFIG in its six sections, READ CONFIG and DRIVE RESET (R8, R9, R60, R91, R94,
R98, R109, R113, R142, R160, R172 to R175). -/

namespace Sys2Proof.Machine

/-! ## Judging a write (R172) -/

/-- An item's value after a write: the value carried, or the present one. -/
def carried {α : Type} (x : Option α) (present : α) : α := x.getD present

/-- An item that is carried lies in its range. -/
def inRange (lo hi : Nat) (x : Option Nat) : Bool := x.all fun n => decide (lo ≤ n) && decide (n ≤ hi)

/-- The place of the first item of a section that lies outside its range (R172, check 2). -/
def firstBad (oks : List Bool) : Option Nat := oks.findIdx? fun ok => !ok

/-- A refusal that names its failed item by the item's place in its section (R172; log 6). -/
def State.refuseItem (s : State) (src : Sender) (st : Status) (place : Nat) : State :=
  s.answer src .writeConfig st (u8 place)

/-- A BAD_FIELD refusal of which R172 does not say which item failed: a free value (log 6). -/
def State.refuseWrite (s : State) (src : Sender) : State :=
  (s.answer src .writeConfig .badField [Config.failedItem s.fresh]).drawFresh

/-- A write judged by the first three checks of R172: an item carried, ranges, constraints. -/
def State.judgeWrite (s : State) (src : Sender) (any : Bool) (oks : List Bool) (constraint : Bool) (take : State) : State :=
  if any = false then s.refuseWrite src
  else
    match firstBad oks with
    | some i => s.refuseItem src .badField i
    | none => if constraint then take else s.refuseWrite src

/-! ## Section DISH (R8, R9) -/

/-- Some item of the section is carried. -/
def dishItems (f : DishConfigFields) : Bool :=
  f.present.isSome || f.azVmax.isSome || f.azA.isSome || f.azRamp.isSome || f.azTrack.isSome || f.elVmax.isSome
    || f.elA.isSome || f.elRamp.isSome || f.elTrack.isSome || f.mast.isSome || f.stowRank.isSome || f.shedEl.isSome

/-- The items' range checks, in the order of the items (R7, R8; the present flag is 0 or 1, log 19). -/
def dishRanges (f : DishConfigFields) : List Bool :=
  [inRange 0 1 f.present, inRange 1 400 f.azVmax, inRange 1 50 f.azA, inRange 1 1000 f.azRamp, inRange 0 1000 f.azTrack,
   inRange 1 400 f.elVmax, inRange 1 50 f.elA, inRange 1 1000 f.elRamp, inRange 0 1000 f.elTrack, inRange 0 5 f.mast,
   inRange 0 255 f.stowRank, inRange 15000 45000 f.shedEl]

/-- The mast of an index carried, or the present one. -/
def mastCarried (x : Option Nat) (present : MastId) : MastId :=
  match x with
  | none => present
  | some n => if h : n < 6 then ⟨n, h⟩ else present

/-- The configuration a dish holds after a write (R8). -/
def dishAfter (f : DishConfigFields) (c : DishSettings) : DishSettings :=
  { present := (f.present.map fun n => decide (n = 1)).getD c.present
    az := ⟨carried f.azVmax c.az.vmax, carried f.azA c.az.a, carried f.azRamp c.az.rampDraw, carried f.azTrack c.az.trackDraw⟩
    el := ⟨carried f.elVmax c.el.vmax, carried f.elA c.el.a, carried f.elRamp c.el.rampDraw, carried f.elTrack c.el.trackDraw⟩
    mast := mastCarried f.mast c.mast
    stowRank := carried f.stowRank c.stowRank
    shedEl := (f.shedEl.map Int.ofNat).getD c.shedEl }

/-- The draw constraint (R8). -/
def DishSettings.drawsFit (c : DishSettings) : Bool :=
  decide (c.az.trackDraw + c.el.trackDraw ≤ min c.az.rampDraw c.el.rampDraw)

/-- The motion states in which a present flag is not cleared (R9). -/
def Motion.keepsPresent : Motion → Bool
  | .engaged | .stopping | .stowing | .shedding => true
  | .unknown | .idle | .stowed | .fault | .offline => false

/-- A dish is a member of a staged or queued order (R9). -/
def State.inOrders (s : State) (d : DishId) : Bool :=
  (s.staging.any fun g => g.members.any fun m => decide (m.dish = d))
    || s.orders.any fun o => o.members.any fun m => decide (m.dish = d)

/-- The cases in which the clearing of a present flag is refused with BUSY (R9). -/
def State.presentBusy (s : State) (d : DishId) : Bool :=
  (s.dish d).motion.keepsPresent || s.feeder.reservations[d].isSome || s.queued d || s.shedListed d || s.inOrders d

/-- A dish's configuration set. -/
def State.putCfg (s : State) (d : DishId) (c : DishSettings) : State :=
  { s with settings := { s.settings with dish := s.settings.dish.set d c } }

/-- The state part of a record after the clearing of its present flag: UNKNOWN, reported fields at their power-on values, and
the commanded positions as they were (R3, R9). -/
def Dish.cleared (x : Dish) : Dish := { Dish.reset with cmdAz := x.cmdAz, cmdEl := x.cmdEl }

/-- A dish no longer framed: KEEP in its slot, miss count 0, and its report not awaited any more (R9, R20, R21, R31, R32). -/
def State.unframe (s : State) (d : DishId) : State :=
  { s with ring := { s.ring with
      slots := s.ring.slots.set d .keep, miss := s.ring.miss.set d 0, framed := s.ring.framed.set d false
      window := if s.ring.window = some d then none else s.ring.window } }

/-- The present flag cleared: zones cancelled as by CANCEL MELT, record and ring entry returned, stow mark lost (R9, R109). -/
def State.clearPresent (s : State) (d : DishId) : State :=
  let s := (((zonesOf d).foldl State.cancelZone s).iceAfterCancel d).askScan
  ((s.setDish d Dish.cleared).unframe d).setMark d .none

/-- The present flag set: UNKNOWN, framed from the next frame start, UNREACHABLE where a stow is in force (R9, R20, R109). -/
def State.setPresent (s : State) (d : DishId) : State :=
  let s := s.setMotion d .unknown
  if s.stowInForce then s.setMark d .unreachable else s

/-- The answer to a change of a dish's present flag from the value given (R9). -/
def State.answerPresent (s : State) (d : DishId) (former : Bool) : State :=
  match former, (s.cfg d).present with
  | true, false => s.clearPresent d
  | false, true => s.setPresent d
  | true, true => s
  | false, false => s

/-- A write of section DISH that has passed the first three checks (R9, R172). -/
def State.writeDish (s : State) (src : Sender) (d : DishId) (c : DishSettings) : State :=
  if (s.cfg d).present && !c.present && s.presentBusy d then s.refuseItem src .busy 0
  else
    let t := ((s.putCfg d c).answerPresent d (s.cfg d).present).settle
    t.answer src .writeConfig .ok (t.dishSection d)

/-- WRITE CONFIG, section DISH (R8, R9, R172). -/
def execWriteConfigDish (src : Sender) (body : Body DishConfigFields) (s : State) : Host.Outcome State Fault Refusal :=
  serve src .writeConfig body s fun f =>
    if h : f.dish < 48 then
      let c := dishAfter f (s.cfg ⟨f.dish, h⟩)
      s.judgeWrite src (dishItems f) (dishRanges f) c.drawsFit (s.writeDish src ⟨f.dish, h⟩ c)
    else s.refuseWrite src

/-! ## Section MAST (R91) -/

/-- A mast's configured flag set. -/
def State.putConfigured (s : State) (m : MastId) (b : Bool) : State :=
  { s with settings := { s.settings with mastConfigured := s.settings.mastConfigured.set m b } }

/-- A mast record after its configured flag is set: NOT_SEEN with its timer started; or cleared: level none, timer stopped,
its state kept (R91). -/
def State.reconfigured (s : State) (m : MastId) (b : Bool) : Mast :=
  if b then
    { state := .notSeen, mean := 0, gust := 0, level := none, timer := some (s.clock + s.settings.wind.staleness * 1000) }
  else { s.wind.masts[m] with level := none, timer := none }

/-- One mast's flag written, and its change offered to the snapshot (R91, R95). -/
def State.writeMast (flags : Vector (Option Bool) 6) (s : State) (m : MastId) : State :=
  match flags[m] with
  | none => s
  | some b =>
    if b = s.settings.mastConfigured[m] then s
    else ((s.putConfigured m b).setMast m (s.reconfigured m b)).offerSnapshot m (s.snapOf m)

/-- Every mast's flag written, in ascending index (R173). -/
def State.writeMasts (s : State) (flags : Vector (Option Bool) 6) : State := allMasts.foldl (State.writeMast flags) s

/-- The Stow Controller's answer to a configuration write: the stale-count trigger where the count was below the trip before
and is at or above it after, else the answer given (R98). -/
def State.judgeStaleWrite (s before : State) (else_ : State) : State :=
  if before.staleCount < before.settings.wind.staleTrip ∧ s.settings.wind.staleTrip ≤ s.staleCount then s.plainTrigger
  else else_

/-- One mast's flag written, and a change of it judged for the release condition and for WATCH (R91, R99, R110). -/
def State.judgeMast (flags : Vector (Option Bool) 6) (s : State) (m : MastId) : State :=
  let t := State.writeMast flags s m
  if t.settings.mastConfigured = s.settings.mastConfigured then t else t.judgeWeather

/-- Every mast's flag written, each change judged before the next, in ascending index (R91, R110, R173). -/
def State.judgeMasts (s : State) (flags : Vector (Option Bool) 6) : State := allMasts.foldl (State.judgeMast flags) s

/-- The flags of a write taken: the stale-count trigger, where the write as a whole makes one, is their one answer (R98, R99); else
each change is judged (log 20). -/
def State.takeMasts (s : State) (flags : Vector (Option Bool) 6) : State :=
  (s.writeMasts flags).judgeStaleWrite s (s.judgeMasts flags)

/-- WRITE CONFIG, section MAST (R91, R173). -/
def execWriteConfigMast (src : Sender) (body : Body MastConfigFields) (s : State) : Host.Outcome State Fault Refusal :=
  serve src .writeConfig body s fun f =>
    s.judgeWrite src (f.flags.toList.any Option.isSome) [] true <|
      let t := (s.takeMasts f.flags).settle
      t.answer src .writeConfig .ok t.mastSection

/-! ## Section WIND (R90, R94, R98) -/

/-- Some item of the section is carried. -/
def windItems (f : WindConfigFields) : Bool :=
  f.tripGust.isSome || f.watchMean.isSome || f.releaseGust.isSome || f.staleness.isSome || f.staleTrip.isSome
    || f.holdOff.isSome

/-- The items' range checks (R90). -/
def windRanges (f : WindConfigFields) : List Bool :=
  [inRange 1 1000 f.tripGust, inRange 1 1000 f.watchMean, inRange 1 1000 f.releaseGust, inRange 2 60 f.staleness,
   inRange 1 6 f.staleTrip, inRange 60 3600 f.holdOff]

/-- The section after a write. -/
def windAfter (f : WindConfigFields) (w : WindSettings) : WindSettings :=
  { tripGust := carried f.tripGust w.tripGust, watchMean := carried f.watchMean w.watchMean
    releaseGust := carried f.releaseGust w.releaseGust, staleness := carried f.staleness w.staleness
    staleTrip := carried f.staleTrip w.staleTrip, holdOff := carried f.holdOff w.holdOff }

/-- The wind section set. -/
def State.putWind (s : State) (w : WindSettings) : State := { s with settings := { s.settings with wind := w } }

/-- The answer to a write of the stale-count trip: the trigger, or the judgement of the release condition (R98, R110). -/
def State.answerWind (s before : State) : State :=
  if s.settings.wind.staleTrip = before.settings.wind.staleTrip then s else s.judgeStaleWrite before s.judgeRelease

/-- WRITE CONFIG, section WIND (R90, R94, R98). -/
def execWriteConfigWind (src : Sender) (body : Body WindConfigFields) (s : State) : Host.Outcome State Fault Refusal :=
  serve src .writeConfig body s fun f =>
    let w := windAfter f s.settings.wind
    s.judgeWrite src (windItems f) (windRanges f) (decide (w.releaseGust < w.tripGust)) <|
      let t := ((s.putWind w).answerWind s).settle
      t.answer src .writeConfig .ok t.windSection

/-! ## Sections TRACK, MELT and STATION (R75, R126, R160) -/

/-- The section after a write. -/
def trackAfter (f : TrackConfigFields) (c : TrackSettings) : TrackSettings :=
  { coastLimit := carried f.coastLimit c.coastLimit, lowMark := carried f.lowMark c.lowMark }

/-- WRITE CONFIG, section TRACK (R75, R172). -/
def execWriteConfigTrack (src : Sender) (body : Body TrackConfigFields) (s : State) : Host.Outcome State Fault Refusal :=
  serve src .writeConfig body s fun f =>
    s.judgeWrite src (f.coastLimit.isSome || f.lowMark.isSome) [inRange 0 40 f.coastLimit, inRange 0 63 f.lowMark] true <|
      let t := { s with settings := { s.settings with track := trackAfter f s.settings.track } }
      t.answer src .writeConfig .ok t.trackSection

/-- The section after a write. -/
def meltAfter (f : MeltConfigFields) (c : MeltSettings) : MeltSettings :=
  { rim := carried f.rim c.rim, inner := carried f.inner c.inner, subref := carried f.subref c.subref
    slot := carried f.slot c.slot }

/-- WRITE CONFIG, section MELT (R126, R172). -/
def execWriteConfigMelt (src : Sender) (body : Body MeltConfigFields) (s : State) : Host.Outcome State Fault Refusal :=
  serve src .writeConfig body s fun f =>
    s.judgeWrite src (f.rim.isSome || f.inner.isSome || f.subref.isSome || f.slot.isSome)
      [inRange 1 1000 f.rim, inRange 1 1000 f.inner, inRange 1 1000 f.subref, inRange 10 600 f.slot] true <|
      let t := { s with settings := { s.settings with melt := meltAfter f s.settings.melt } }
      t.answer src .writeConfig .ok t.meltSection

/-- The section after a write. -/
def stationsAfter (f : StationConfigFields) (v : Vector StationSettings 4) : Vector StationSettings 4 :=
  Vector.ofFn fun n : StationId =>
    { address := carried f.addresses[n] v[n].address, enabled := carried f.enabled[n] v[n].enabled }

/-- The section set. A station enabled now can be addressed from the next start condition on, and one disabled now until the bus's
present transaction has ended (R160; log 40). -/
def State.putStations (s : State) (v : Vector StationSettings 4) : State :=
  { s with
    settings := { s.settings with station := v }
    ports := { s.ports with addressable := Vector.ofFn fun n : StationId => s.ports.addressable[n] || v[n].enabled } }

/-- No two enabled stations have the same address (R160). -/
def addressesDistinct (v : Vector StationSettings 4) : Bool :=
  (List.finRange 4).all fun a => (List.finRange 4).all fun b =>
    decide (a = b) || !v[a].enabled || !v[b].enabled || decide (v[a].address ≠ v[b].address)

/-- WRITE CONFIG, section STATION (R160, R172). -/
def execWriteConfigStation (src : Sender) (body : Body StationConfigFields) (s : State) :
    Host.Outcome State Fault Refusal :=
  serve src .writeConfig body s fun f =>
    let c := stationsAfter f s.settings.station
    s.judgeWrite src (f.addresses.toList.any Option.isSome || f.enabled.toList.any Option.isSome)
      (f.addresses.toList.map (inRange 0x08 0x77)) (addressesDistinct c) <|
      let t := s.putStations c
      t.answer src .writeConfig .ok t.stationSection

/-! ## READ CONFIG (R174) -/

/-- The items of a section; the dish index is read for section DISH alone (R174, R177). -/
def State.sectionField (s : State) (sec dish : Nat) : Option (List Byte) :=
  match sec with
  | 0 => if h : dish < 48 then some (s.dishSection ⟨dish, h⟩) else none
  | 1 => some s.mastSection
  | 2 => some s.windSection
  | 3 => some s.trackSection
  | 4 => some s.meltSection
  | 5 => some s.stationSection
  | _ => none

/-- READ CONFIG (R174). -/
def execReadConfig (src : Sender) (body : Body ReadConfigFields) (s : State) : Host.Outcome State Fault Refusal :=
  serve src .readConfig body s fun f =>
    match s.sectionField f.section_ f.dish with
    | none => s.refuse src .readConfig .badField
    | some bs => s.answer src .readConfig .ok bs

/-! ## DRIVE RESET (R60, R113, R142, R175) -/

/-- A dish is an active member of a group in a slot. -/
def State.inGroup (s : State) (d : DishId) : Bool :=
  allSlots.any fun g => decide ((s.group g).state ≠ .free) && (s.group g).activeDishes.contains d

/-- DRIVE RESET sends the dish STOP: a group member, a SHEDDING dish, or in ACTIVE a STOWING one (R58, R113, R142). -/
def State.resetStops (s : State) (d : DishId) : Bool :=
  match (s.dish d).motion with
  | .fault => false
  | .offline => false
  | .shedding => true
  | .stowing => decide (s.stow.state = .active) || s.inGroup d
  | .unknown | .idle | .engaged | .stopping | .stowed => s.inGroup d

/-- A STOWING dish stopped and its move record discarded (R113, step 1). -/
def State.resetStowing (s : State) (d : DishId) : State :=
  if (s.dish d).motion = .stowing then (s.stopDish d).setMove d none else s

/-- The Stow Controller's part: in ACTIVE, STOWING dishes stopped and the queue built afresh (R113). -/
def State.resetStow (s : State) : State :=
  if s.stow.state = .active then (s.onDishes allDishes State.resetStowing).buildQueue else s

/-- What the emptying of the staging area leaves to a COMMIT ORDER that falls together with DRIVE RESET and is taken after it: the order
then staged. A COMMIT ORDER that does not fall together with it finds the area EMPTY (R35, R60, R175; log 50). -/
def State.afterReset (s : State) : ResetCommit :=
  match s.resetCommit, s.staging with
  | .falls, some g => .holds g
  | .falls, none => .none
  | .none, _ => .none
  | .holds _, _ => .none

/-- DRIVE RESET's steps at the blocks, after which the over-commit mark is judged again (R115, R175). -/
def State.driveReset (s : State) : State :=
  let s := { s with staging := none, resetCommit := s.afterReset, orders := [] }
  ((s.dissolveAll .reset).clearSheds .reset).resetStow.askJudge

/-- The answer to DRIVE RESET: groups dissolved, orders removed, dishes sent STOP (R175). -/
def State.resetField (s : State) : List Byte :=
  u8 (allSlots.countP fun g => decide ((s.group g).state ≠ .free)) ++ u8 s.orders.length ++ u8 (allDishes.countP s.resetStops)

/-- DRIVE RESET (R175). -/
def execDriveReset (src : Sender) (body : Body NoFields) (s : State) : Host.Outcome State Fault Refusal :=
  serve src .driveReset body s fun _ => s.driveReset.settle.answer src .driveReset .ok s.resetField

end Sys2Proof.Machine
end

