-- ==== Sys2Proof/Machine/TrackOps.lean ====
section
/-! DEFINITION. TrackOps.lean: the Track Stream Unit's work at a frame start: limits check, consumption, coasting, starvation
and the passage at the end of a stream (R80 to R88). -/

namespace Sys2Proof.Machine

/-- The kind of failure of one axis, SPEED before RANGE, or none (R81). -/
def axisFailure (vmax : Nat) (lo hi pos inc : Int) : Option FaultKind :=
  if vmax < inc.natAbs then some .speed
  else if pos + inc < lo ∨ hi < pos + inc then some .range
  else none

/-- The failure of one member, AZ before EL (R81). -/
def State.memberFailure (s : State) (az el : Int) (d : DishId) : Option LimitFailure :=
  match axisFailure (s.cfg d).az.vmax (-270000) 270000 (s.dish d).cmdAz az with
  | some k => some ⟨d, .az, k⟩
  | none => (axisFailure (s.cfg d).el.vmax 15000 90000 (s.dish d).cmdEl el).map fun k => ⟨d, .el, k⟩

/-- The limits check of a pair of increments: the first failure over the active members, or none when it passes (R81). -/
def State.limitsCheck (s : State) (g : SlotId) (az el : Int) : Option LimitFailure :=
  (s.group g).activeDishes.findSome? (s.memberFailure az el)

/-- TRACK STEP written to every active member (R82, R85, R86). -/
def State.writeSteps (s : State) (g : SlotId) (az el : Int) : State :=
  s.onDishes (s.group g).activeDishes fun s d => s.writeTrackStep d az el

/-- TRACK_FAULT with the lock's detail and the load (R83, R88). -/
def State.raiseTrackFault (s : State) (g : SlotId) (l : FaultLock) : State :=
  s.raise .trackFault (.trackFault g (s.group g).tag l (s.stream g).buffer.length)

/-- A consumption that brings the load from above the low mark to at or below it raises TRACK_LOW once (R87). -/
def State.judgeLow (s : State) (g : SlotId) (before : Nat) : State :=
  let x := s.stream g
  let low := s.settings.track.lowMark
  if low < before ∧ x.buffer.length ≤ low ∧ x.lowReported = false then
    (s.setStream g fun x => { x with lowReported := true }).raise .trackLow
      (.trackLow g (s.group g).tag x.buffer.length)
  else s

/-- An entry that passes the check is removed and written, and its LAST flag sets the finish mark (R82). -/
def State.passEntry (s : State) (g : SlotId) (e : TrackEntry) (rest : List TrackEntry) : State :=
  let s := s.setStream g fun x =>
    { x with buffer := rest, lastAz := e.az, lastEl := e.el, coast := 0, finish := x.finish || e.last }
  (s.writeSteps g e.az e.el).judgeLow g (rest.length + 1)

/-- An entry that fails the check sets the fault lock, and the group enters TRACK_HALTED (R83). -/
def State.lockEntry (s : State) (g : SlotId) (e : TrackEntry) (f : LimitFailure) : State :=
  let l : FaultLock := ⟨f, e.az, e.el⟩
  ((s.setStream g fun x => { x with lock := some l }).setGroupState g .trackHalted).raiseTrackFault g l

/-- Starvation (R86). -/
def State.starve (s : State) (g : SlotId) (cause : StarveCause) : State :=
  let s := (s.setStream g fun x => { x with starved := true }).setGroupState g .trackHalted
  (s.writeSteps g 0 0).raise .trackStarved (.trackStarved g (s.group g).tag cause (s.stream g).coast)

/-- The last sent step repeated, or starvation (R85). A counter that stands above a coast limit lowered since starves the group with
COAST_LIMIT, as one that equals the limit does (log 51). -/
def State.coastStep (s : State) (g : SlotId) : State :=
  let x := s.stream g
  if x.coast < s.settings.track.coastLimit then
    match s.limitsCheck g x.lastAz x.lastEl with
    | none => (s.setStream g fun x => { x with coast := x.coast + 1 }).writeSteps g x.lastAz x.lastEl
    | some f => s.starve g (.coastRange f)
  else s.starve g .coastLimit

/-- The passage to POSITIONED at the first frame start with the finish mark set (R84). -/
def State.passFinish (s : State) (g : SlotId) : State :=
  (s.passPositioned g).setStream g fun x => { x with buffer := [], finish := false }

/-- One slot's answer to the frame start (R80). -/
def State.consume (s : State) (g : SlotId) : State :=
  let x := s.stream g
  match (s.group g).state with
  | .tracking =>
    if x.finish then s.passFinish g
    else
      match x.lock with
      | some l => (s.setGroupState g .trackHalted).raiseTrackFault g l
      | none =>
        match x.buffer with
        | e :: rest =>
          match s.limitsCheck g e.az e.el with
          | none => s.passEntry g e rest
          | some f => s.lockEntry g e f
        | [] => s.coastStep g
  | .trackHalted => if x.starved then s.writeSteps g 0 0 else s
  | .free => s
  | .loading => s
  | .slewing => s
  | .positioned => s
  | .holding => s
  | .held => s
  | .resumeWait => s

end Sys2Proof.Machine
end

