-- ==== Sys2Proof/Machine/ReportOps.lean ====
section
/-! DEFINITION. ReportOps.lean: what a valid report or a loss sets off at a dish: the state rules (R12 to R17), pending locks
(R148), the switch lock (R152, R153), and the answers of the groups, the stow and the shed moves (R46, R47, R53, R54, R106,
R107, R140, R141). -/

namespace Sys2Proof.Machine

/-- Step 1 of R12: positions clamped by R1, flags, fault code and report frame stored, and the miss count 0. -/
def State.storeReport (s : State) (d : DishId) (r : Report) : State :=
  { s with ring := { s.ring with miss := s.ring.miss.set d 0 } }.setDish d fun x =>
    { x with
      repAz := clampAz r.az, repEl := clampEl r.el, moving := r.moving, brakesSet := r.brakesSet
      inPosition := r.inPosition, profileLoaded := r.profileLoaded, switchLock := r.switchLock
      faultCode := r.fault, lastReport := some s.ring.frame }

/-! ## Pending locks (R148) -/

/-- One position of the Lock Table: a PENDING entry of the dish becomes APPLIED and raises LOCK_APPLIED (R148). -/
def State.applyAt (d : DishId) (s : State) (p : Fin 96) : State :=
  match s.locks.entries[p] with
  | none => s
  | some e =>
    if e.pendingOn d then
      { s with locks := { s.locks with entries := s.locks.entries.set p (some { e with state := .applied }) } }.raise
        .lockApplied (.lockApplied p d e.tag e.scope e.station s.ring.frame)
    else s

/-- Every PENDING entry of a dish applied in ascending position; an IDLE dish gets HOLD BRAKE, and admission is asked for
(R148). -/
def State.applyPending (s : State) (d : DishId) : State :=
  let s := lockPositions.foldl (State.applyAt d) s
  (if (s.dish d).motion = .idle then s.writeHoldBrake d else s).askRound

/-- The Lockout Table's answer to a report: pending locks apply to a dish that is braked and still and neither STOWING nor
queued (R148). -/
def State.lockReport (s : State) (d : DishId) : State :=
  if (s.dish d).brakedStill && decide ((s.dish d).motion ≠ .stowing) && !s.queued d && s.lockRequested d then
    s.applyPending d
  else s

/-- One report both rejoins an UNREACHABLE dish to the stow and may apply its pending locks (R148). -/
def State.lockMeetsRejoin (s : State) (d : DishId) : Bool :=
  decide (s.mark d = .unreachable) && s.stow.state.rejoins && s.lockRequested d && !s.moveLocked d && !s.queued d

/-- Entry to IDLE by a report. Where R148 lets the application or the rejoining be taken first, a free value decides
(log 5). -/
def State.reportIdle (s : State) (d : DishId) : State :=
  if s.lockMeetsRejoin d then
    if Config.lockAppliedFirst s.fresh then (s.drawFresh.applyPending d).enterIdle d else s.drawFresh.enterIdle d
  else s.enterIdle d

/-! ## State rules (R13 to R17) -/

/-- A dish found not braked and still is stopped; an UNREACHABLE dish that becomes STOPPING rejoins the stow (R13, R17,
R109). -/
def State.reportStop (s : State) (d : DishId) : State := (s.stopDish d).rejoinUnreachable d

/-- The state rules for a report with fault code 0 (R13, R14, R15, R17). -/
def State.stateRules (s : State) (d : DishId) : State :=
  let x := s.dish d
  match x.motion with
  | .unknown => if x.brakedStill then s.reportIdle d else s.reportStop d
  | .idle => if x.moving then s.stopDish d else s
  | .stopping => if x.brakedStill then s.reportIdle d else s
  | .stowed =>
    if x.moving then s.writeStop d
    else if x.brakedStill ∧ s.slot d = .stop then s.writeHoldBrake d
    else s
  | .fault => if x.brakedStill then s.reportIdle d else s
  | .offline => (if x.brakedStill then s.reportIdle d else s.reportStop d).answerBlock d true
  | .engaged => s
  | .stowing => s
  | .shedding => s

/-- A SHEDDING dish that has been lost or has faulted ends its move with FAILED (R141). -/
def State.failShed (s : State) (d : DishId) (prior : Motion) : State :=
  if prior = .shedding then s.endShed d .failed else s

/-- A report with a fault code takes the dish to FAULT, and the block that held it answers (R15). A dish that leaves OFFLINE so ends
a block condition (R132). -/
def State.faultByReport (s : State) (d : DishId) : State :=
  let prior := (s.dish d).motion
  ((((s.faultDish d).excludeMember d .driveFault).stowOnFault d prior).failShed d prior).answerBlock d
    (decide (prior = .offline))

/-- The loss of a dish: STOP, OFFLINE, which begins a block condition, and the answer of the block that held it (R16, R132). -/
def State.loseDish (s : State) (d : DishId) : State :=
  let prior := (s.dish d).motion
  (((((s.writeStop d).setMotion d .offline).excludeMember d .offline).stowOnLoss d prior).failShed d prior).answerBlock d true

/-! ## Switch lock (R152, R153) -/

/-- A STOWING dish whose switch is turned on is stopped and marked BLOCKED; a queued one is removed and marked (R108). -/
def State.stowOnSwitch (s : State) (d : DishId) : State :=
  if (s.dish d).motion = .stowing then (s.stopDish d).markDish d .blocked (.stowBlocked d) else s.stowOnLocked d

/-- An IDLE dish's slot gets HOLD BRAKE when a move lock begins (R11, R147, R152). -/
def State.holdIfIdle (s : State) (d : DishId) : State :=
  if (s.dish d).motion = .idle then s.writeHoldBrake d else s

/-- No lock entry makes the dish heat-locked, so that its switch lock alone decides (R5, R152, R153). -/
def State.heatBySwitch (s : State) (d : DishId) : Bool := decide (s.appliedHeat d = 0)

/-- The switch lock newly set (R152). -/
def State.switchSet (s : State) (d : DishId) : State :=
  (((((s.excludeMember d .localSwitch).stowOnSwitch d).stopShed d .aborted).skipShed d).holdIfIdle d).answerBlock d
    (s.heatBySwitch d)

/-- The end of a dish's move lock, if none is left: an IDLE dish's slot returns to KEEP, and a BLOCKED dish rejoins the stow (R11,
R109, R151). -/
def State.moveLockEnded (s : State) (d : DishId) : State :=
  if s.moveLocked d then s else (if (s.dish d).motion = .idle then s.putSlot d .keep else s).rejoinBlocked d

/-- The switch lock newly clear, at which admission is asked for (R38, R153; log 18). -/
def State.switchClear (s : State) (d : DishId) : State := ((s.moveLockEnded d).answerBlock d (s.heatBySwitch d)).askRound

/-- The answer to a change of the switch lock flag from the value given (R152, R153). -/
def State.switchReport (s : State) (d : DishId) (former : Bool) : State :=
  match former, (s.dish d).switchLock with
  | false, true => s.switchSet d
  | true, false => s.switchClear d
  | false, false => s
  | true, true => s

/-! ## Groups (R46, R47, R53, R54) -/

/-- The member becomes ARRIVED if the report shows it so at or after the start frame (R47). -/
def State.markArrived (s : State) (g : SlotId) (d : DishId) : State :=
  let x := s.dish d
  let reached := (s.group g).startFrame.any (frameReached s.ring.frame)
  if reached && x.inPosition && !x.moving then
    (s.setMember g d fun m => if m.status.isPending then { m with status := .arrived } else m).judgeGroup g
  else s

/-- A member stopped without leaving its group returns to ENGAGED with HOLD BRAKE and its braked mark (R53). -/
def State.returnMember (s : State) (g : SlotId) (d : DishId) : State :=
  (((s.setMotion d .engaged).writeHoldBrake d).setMember g d fun m => { m with braked := true }).judgeGroup g

/-- A member of a braked group seen moving is stopped and keeps its group; its braked mark is cleared (R54). -/
def State.stopBraked (s : State) (g : SlotId) (d : DishId) : State :=
  (s.stopDish d).setMember g d fun m => { m with braked := false }

/-- The Group Controller's answer to a report of a member. -/
def State.groupReport (s : State) (d : DishId) : State :=
  match (s.dish d).group with
  | none => s
  | some g =>
    match (s.group g).state with
    | .loading =>
      if (s.dish d).profileLoaded then (s.setMember g d fun m => { m with acked := true }).judgeGroup g else s
    | .slewing => s.markArrived g d
    | .holding => if (s.dish d).motion = .idle then s.returnMember g d else s
    | .positioned | .held | .resumeWait =>
      if (s.dish d).moving then s.stopBraked g d
      else if (s.dish d).motion = .idle then s.returnMember g d
      else s
    | .free => s
    | .tracking => s
    | .trackHalted => s

/-! ## Stow moves (R106, R107) -/

/-- GO written for a stow move (R106). -/
def State.stowGo (s : State) (d : DishId) (m : StowMove) : State :=
  (s.writeGo d (s.ring.frame + 2)).setMove d
    (some { m with start := some (s.ring.frame + 2), deadline := s.ring.frame + BitVec.ofNat 32 m.t + 40 })

/-- Arrival of a stow move (R107). -/
def State.stowArrive (s : State) (d : DishId) : State :=
  ((((s.setMotion d .stowed).writeHoldBrake d).releaseReservation d).setMove d none).checkStowedHold

/-- The Stow Controller's answer to a report of a STOWING dish (R106, R107). -/
def State.stowReport (s : State) (d : DishId) : State :=
  let x := s.dish d
  if x.motion = .stowing then
    match s.stow.moves[d] with
    | none => s
    | some m =>
      match m.start with
      | none => if x.profileLoaded then s.stowGo d m else s
      | some st => if frameReached s.ring.frame st && !x.moving && x.atWindStow then s.stowArrive d else s
  else s

/-! ## Shed moves (R140) -/

/-- GO written for a shed move (R140). -/
def State.shedGo (s : State) (d : DishId) (m : ShedMove) : State :=
  (s.writeGo d (s.ring.frame + 2)).setShedMove d
    (some { m with start := some (s.ring.frame + 2), deadline := s.ring.frame + BitVec.ofNat 32 m.t + 40 })

/-- A shed move in position: HOLD BRAKE and the settle mark (R140). -/
def State.shedSettle (s : State) (d : DishId) (m : ShedMove) : State :=
  (s.writeHoldBrake d).setShedMove d (some { m with settled := true })

/-- Arrival of a shed move (R140). -/
def State.shedArrive (s : State) (d : DishId) : State := ((s.releaseReservation d).endShed d .done).enterIdle d

/-- The Melt Scheduler's answer to a report of a SHEDDING dish (R140). -/
def State.shedReport (s : State) (d : DishId) : State :=
  let x := s.dish d
  if x.motion = .shedding then
    match s.melt.shedMoves[d] with
    | none => s
    | some m =>
      match m.start with
      | none => if x.profileLoaded then s.shedGo d m else s
      | some st =>
        if m.settled then if x.brakedStill then s.shedArrive d else s
        else if frameReached s.ring.frame st && x.inPosition && !x.moving then s.shedSettle d m
        else s
  else s

/-! ## The whole report -/

/-- A valid report taken and offered to the blocks (R12; the order among the blocks, log 13). -/
def State.takeReport (s : State) (d : DishId) (r : Report) : State :=
  let former := (s.dish d).switchLock
  let s := s.storeReport d r
  let s := if (s.dish d).faultReported then s.faultByReport d else s.stateRules d
  ((((s.lockReport d).switchReport d former).groupReport d).stowReport d).shedReport d

end Sys2Proof.Machine
end

