-- ==== Sys2Proof/Machine/DeadlineSteps.lean ====
section
/-! DEFINITION. DeadlineSteps.lean: the deadlines counted in frames: load acknowledge limit, arrival grace, order expiry, stow
and shed timeouts (R40, R46, R47, R106, R141). Each acts in the frame whose number equals the deadline (R19; log 14). -/

namespace Sys2Proof.Machine

/-- The dishes of the active members of a group that meet a test. -/
def Group.dishesWhere (g : Group) (p : Member → Bool) : List DishId := (g.active.filter p).map (·.order.dish)

/-- Members excluded one after another, each while it is still an active member of the group (R49). -/
def State.excludeAll (s : State) (g : SlotId) (ds : List DishId) (why : ExclReason) : State :=
  s.onDishes ds fun s d => if (s.group g).activeDishes.contains d then s.exclude g d why else s

/-- The load acknowledge limit is reached: the group is LOADING and the frame is its load frame plus 10 (R46). -/
def State.loadLimitReached (s : State) (g : SlotId) : Bool :=
  decide ((s.group g).state = .loading) && decide ((s.group g).loadFrame.map (· + 10) = some s.ring.frame)

/-- The arrival grace is reached: the group is SLEWING and the frame is its arrival frame plus 40 (R47). -/
def State.graceReached (s : State) (g : SlotId) : Bool :=
  decide ((s.group g).state = .slewing) && decide ((s.group g).arrivalFrame.map (· + 40) = some s.ring.frame)

/-- LOAD_ACK_LIMIT: every active member not yet acknowledged is excluded with NO_ACK (R46). -/
def execLoadAckLimit (g : SlotId) (s : State) : Host.Outcome State Fault Refusal :=
  event s <|
    if s.loadLimitReached g then
      (s.excludeAll g ((s.group g).dishesWhere fun m => !m.acked) .noAck).settle
    else s

/-- ARRIVAL_GRACE: every member still ACTIVE is excluded with ARRIVAL_TIMEOUT (R47). -/
def execArrivalGrace (g : SlotId) (s : State) : Host.Outcome State Fault Refusal :=
  event s <|
    if s.graceReached g then
      (s.excludeAll g ((s.group g).dishesWhere fun m => m.status.isPending) .arrivalTimeout).settle
    else s

/-- An order has a deadline, and its expiry frame is the present frame (R40). -/
def State.expiresNow (s : State) (o : Order) : Bool :=
  decide (o.deadline ≠ 0) && decide (o.commitFrame + BitVec.ofNat 32 o.deadline = s.ring.frame)

/-- The order of a tag removed from the queue; where it was the head, admission of the next is asked for (R38). -/
def State.removeOrder (s : State) (tag : Nat) : State :=
  let t := { s with orders := s.orders.filter fun o => decide (o.tag ≠ tag) }
  if s.orders.head?.any fun o => decide (o.tag = tag) then t.askRound else t

/-- ORDER_EXPIRY: a queued order whose expiry frame is reached is removed, and ORDER_REFUSED is raised with EXPIRED (R40). -/
def execOrderExpiry (tag : Nat) (s : State) : Host.Outcome State Fault Refusal :=
  event s <|
    if s.orders.any fun o => decide (o.tag = tag) && s.expiresNow o then
      ((s.removeOrder tag).raise .orderRefused (.orderRefused tag .expired)).settle
    else s

/-- A dish still STOWING has reached the deadline of its move record (R106). -/
def State.stowTimedOut (s : State) (d : DishId) : Bool :=
  decide ((s.dish d).motion = .stowing) && s.stow.moves[d].any fun m => decide (m.deadline = s.ring.frame)

/-- STOW_MOVE_TIMEOUT: STOP, FAULT, mark UNREACHABLE and STOW_PROBLEM with STOW_FAILED (R106). -/
def execStowMoveTimeout (d : DishId) (s : State) : Host.Outcome State Fault Refusal :=
  event s (if s.stowTimedOut d then ((s.faultDish d).markDish d .unreachable (.stowFailed d)).settle else s)

/-- A dish still SHEDDING has reached the deadline of its move record (R141). -/
def State.shedTimedOut (s : State) (d : DishId) : Bool :=
  decide ((s.dish d).motion = .shedding) && s.melt.shedMoves[d].any fun m => decide (m.deadline = s.ring.frame)

/-- SHED_MOVE_TIMEOUT: STOP, FAULT and last shed result FAILED (R141). -/
def execShedMoveTimeout (d : DishId) (s : State) : Host.Outcome State Fault Refusal :=
  event s (if s.shedTimedOut d then ((s.faultDish d).endShed d .failed).settle else s)

end Sys2Proof.Machine
end

