-- ==== Sys2Proof/Machine/DishRequests.lean ====
section
/-! DEFINITION. DishRequests.lean: READ DISH (R18). -/

namespace Sys2Proof.Machine

/-- The five report flags as one byte, in the bits of a status report (R18, R180). -/
def Dish.flagsField (x : Dish) : List Byte :=
  u8 (maskField [x.moving, x.brakesSet, x.inPosition, x.profileLoaded, x.switchLock])

/-- The state part of a dish record (R18). -/
def Dish.field (x : Dish) : List Byte :=
  u8 x.motion.place ++ opt (fun g : SlotId => u8 g.val) x.group ++ s32 x.repAz ++ s32 x.repEl ++ x.flagsField
    ++ u8 x.faultCode.val ++ opt frameField x.lastReport ++ s32 x.cmdAz ++ s32 x.cmdEl

/-- The drive reservation of a dish: its amount, and its purpose, none where the amount is 0 (R18). -/
def reservationOf (r : Option Reservation) : List Byte :=
  u16 (amountOf r) ++ opt (fun x : Reservation => u8 x.purpose.place) r

/-- The view part of a dish record (R18). -/
def State.viewField (s : State) (d : DishId) : List Byte :=
  u8 s.ring.miss[d] ++ flag s.melt.ice[d] ++ reservationOf s.feeder.reservations[d] ++ s.lockCountsField d

/-- The configuration part of a dish record, in the order of R18. -/
def DishSettings.field (c : DishSettings) : List Byte :=
  u8 c.mast.val ++ u8 c.stowRank ++ u24 c.shedEl.toNat ++ c.az.field ++ c.el.field

/-- A zone's state and remaining energy (R18). -/
def State.zoneStateField (s : State) (z : ZoneId) : List Byte := u8 (s.zone z).state.place ++ u32 (s.zone z).remaining

/-- The dish record as READ DISH gives it (R18). -/
def State.dishField (s : State) (d : DishId) : List Byte :=
  u8 d.val ++ flag (s.cfg d).present ++ (s.dish d).field ++ s.viewField d ++ (s.cfg d).field
    ++ (zonesOf d).flatMap s.zoneStateField

/-- READ DISH, on every port; a dish not present is read like any other (R18). -/
def execReadDish (src : Sender) (body : Body DishFields) (s : State) : Host.Outcome State Fault Refusal :=
  serve src .readDish body s fun f =>
    if h : f.dish < 48 then s.answer src .readDish .ok (s.dishField ⟨f.dish, h⟩)
    else s.refuse src .readDish .badField

end Sys2Proof.Machine
end

