-- ==== Sys2Proof/Machine/FeederRequests.lean ====
section
/-! DEFINITION. FeederRequests.lean: SET ALLOWANCE, SET MELT GUARD and READ FEEDER (R122 to R125). -/

namespace Sys2Proof.Machine

/-- The allowance set. -/
def State.putAllowance (s : State) (v : Nat) : State := { s with feeder := { s.feeder with allowance := v } }

/-- The over-commit mark judged at a SET ALLOWANCE that has shed n zones (R123). -/
def State.judgeOverCommit (s : State) (n : Nat) : State :=
  let f := s.feeder
  if f.allowance < f.d then
    let c := f.overCommit.getD .allowance
    { s with feeder := { f with overCommit := some c } }.raise .power (.overCommitAllowance c f.allowance f.d n)
  else s.judgeRestored

/-- POWER with kind CUT: a lowering that unpowered n zones and leaves D at or below A (R123). -/
def State.noteCut (s : State) (lowered : Bool) (n : Nat) : State :=
  if lowered ∧ 0 < n ∧ s.feeder.d ≤ s.feeder.allowance then
    s.raise .power (.powerCut s.feeder.allowance s.feeder.d s.feeder.h n)
  else s

/-- The heaters shed by a lowered allowance (R118, R122). -/
def State.shedTo (s : State) (v : Nat) : State :=
  if v < s.feeder.allowance then (s.putAllowance v).shedHeaters else s.putAllowance v

/-- The number of zones that a change of the allowance sheds. -/
def State.shedCount (s : State) (v : Nat) : Nat := s.feeder.powerOrder.length - (s.shedTo v).feeder.powerOrder.length

/-- An allowance other than the former one taken (R122, R123). -/
def State.takeAllowance (s : State) (v : Nat) : State :=
  (((s.shedTo v).judgeOverCommit (s.shedCount v)).noteCut (decide (v < s.feeder.allowance)) (s.shedCount v)).askRound.askScan

/-- The over-commit mark and, when set, its cause: one byte, 0 or 1, for the mark and the presence of its cause, which R115 has
as one item (R179; log 11). -/
def State.overCommitField (s : State) : List Byte := opt (fun c => u8 (OverCause.place c)) s.feeder.overCommit

/-- The answer to SET ALLOWANCE: A, D, H, zones shed, over-commit mark (R122); the mark with its cause, as in READ FEEDER (log
11). -/
def State.allowanceField (s : State) (n : Nat) : List Byte :=
  u16 s.feeder.allowance ++ u16 s.feeder.d ++ u16 s.feeder.h ++ u8 n ++ s.overCommitField

/-- SET ALLOWANCE: the value A holds already changes nothing (R122). -/
def execSetAllowance (src : Sender) (body : Body ValueFields) (s : State) : Host.Outcome State Fault Refusal :=
  serve src .setAllowance body s fun f =>
    if f.value = s.feeder.allowance then s.answer src .setAllowance .ok (s.allowanceField 0)
    else
      let n := s.shedCount f.value
      let s := (s.takeAllowance f.value).settle
      s.answer src .setAllowance .ok (s.allowanceField n)

/-- SET MELT GUARD: the value G holds already changes nothing (R124). -/
def execSetMeltGuard (src : Sender) (body : Body ValueFields) (s : State) : Host.Outcome State Fault Refusal :=
  serve src .setMeltGuard body s fun f =>
    if f.value = s.feeder.guard then s.answer src .setMeltGuard .ok (u16 f.value)
    else
      { s with feeder := { s.feeder with guard := f.value } }.askRound.settle.answer src .setMeltGuard .ok (u16 f.value)

/-- The dishes that hold a reservation, ascending. -/
def State.reservedDishes (s : State) : List DishId := allDishes.filter fun d => s.feeder.reservations[d].isSome

/-- One entry of the reservation list: dish, amount, purpose (R125). -/
def State.reservationField (s : State) (d : DishId) : List Byte :=
  match s.feeder.reservations[d] with
  | none => []
  | some r => u8 d.val ++ u16 r.amount ++ u8 r.purpose.place

/-- One entry of the power order: dish, zone kind, power (R125). -/
def PoweredZone.field (x : PoweredZone) : List Byte := u8 x.zone.dish.val ++ u8 (zoneKindPlace x.zone.kind) ++ u16 x.power

/-- READ FEEDER (R125). The free power is A - D - H, or 0 where D plus H exceeds A; the over-commit mark and the presence of its
cause share one byte (log 11). -/
def execReadFeeder (src : Sender) (body : Body NoFields) (s : State) : Host.Outcome State Fault Refusal :=
  serve src .readFeeder body s fun _ =>
    let f := s.feeder
    s.answer src .readFeeder .ok
      (u16 f.allowance ++ u16 f.guard ++ u16 f.d ++ u16 f.h ++ u16 (f.allowance - f.d - f.h)
        ++ s.overCommitField ++ list s.reservationField s.reservedDishes ++ list PoweredZone.field f.powerOrder)

end Sys2Proof.Machine
end

