-- ==== Sys2Proof/Machine/GroupRequests.lean ====
section
/-! DEFINITION. GroupRequests.lean: the requests on a group slot: HOLD, RESUME, RELEASE, ABORT and READ GROUP (R52, R55, R57,
R58, R61), and the answer to a slot number above 3 that they share with the requests on streams. -/

namespace Sys2Proof.Machine

/-- A request on a group slot served: a slot number above 3 is refused with BAD_FIELD. -/
def State.onSlot (s : State) (src : Sender) (r : Request) (n : Nat) (take : SlotId → State) : State :=
  if h : n < 4 then take ⟨n, h⟩ else s.refuse src r .badField

/-! ## HOLD GROUP (R52) -/

/-- The stream frozen by a hold: coast counter and last sent step 0, starved mark clear (R88). -/
def Stream.frozen (x : Stream) : Stream := { x with coast := 0, lastAz := 0, lastEl := 0, starved := false }

/-- A hold: STOP to every active member, which keeps its group, braked marks cleared, HOLDING (R52). -/
def State.hold (s : State) (g : SlotId) (from_ : HeldFrom) : State :=
  (s.onDishes (s.group g).activeDishes State.stopDish).setGroup g fun x =>
    { x with
      state := .holding, heldFrom := some from_
      members := x.members.map fun m => { m with braked := false } }

/-- HOLD GROUP (R52, R88). -/
def execHoldGroup (src : Sender) (body : Body SlotFields) (s : State) : Host.Outcome State Fault Refusal :=
  serve src .holdGroup body s fun f => s.onSlot src .holdGroup f.slot fun g =>
    match (s.group g).state with
    | .loading | .slewing => (s.hold g .slewing).settle.answer src .holdGroup .ok []
    | .tracking | .trackHalted =>
      ((s.hold g .tracking).setStream g Stream.frozen).settle.answer src .holdGroup .ok []
    | .resumeWait => (s.setGroupState g .held).answer src .holdGroup .ok []
    | .free | .positioned | .holding | .held => s.refuse src .holdGroup .wrongState

/-! ## RESUME GROUP (R55) -/

/-- RESUME GROUP (R55). -/
def execResumeGroup (src : Sender) (body : Body SlotFields) (s : State) : Host.Outcome State Fault Refusal :=
  serve src .resumeGroup body s fun f => s.onSlot src .resumeGroup f.slot fun g =>
    match (s.group g).state with
    | .held =>
      if s.stowInForce then s.refuse src .resumeGroup .conditionActive
      else (s.setGroupState g .resumeWait).askRound.settle.answer src .resumeGroup .ok []
    | .holding => s.refuse src .resumeGroup .busy
    | .free | .loading | .slewing | .tracking | .trackHalted | .positioned | .resumeWait =>
      s.refuse src .resumeGroup .wrongState

/-! ## RELEASE GROUP and ABORT GROUP (R57, R58) -/

/-- A member of a braked group released: an ENGAGED dish enters IDLE, a STOPPING one stays (R57). -/
def State.releaseMember (s : State) (d : DishId) : State :=
  let s := s.leaveGroup d
  if (s.dish d).motion = .engaged then s.enterIdle d else s

/-- A braked group released with DONE (R57). -/
def State.releaseBraked (s : State) (g : SlotId) : State :=
  (s.onDishes (s.group g).activeDishes State.releaseMember).freeSlot g .done

/-- RELEASE GROUP (R57). A tracking group ends as by abort, with DONE. -/
def execReleaseGroup (src : Sender) (body : Body SlotFields) (s : State) : Host.Outcome State Fault Refusal :=
  serve src .releaseGroup body s fun f => s.onSlot src .releaseGroup f.slot fun g =>
    match (s.group g).state with
    | .positioned | .held => (s.releaseBraked g).settle.answer src .releaseGroup .ok []
    | .tracking | .trackHalted => (s.endGroup g .done).settle.answer src .releaseGroup .ok []
    | .free | .loading | .slewing | .holding | .resumeWait => s.refuse src .releaseGroup .wrongState

/-- ABORT GROUP: in every group state (R58). -/
def execAbortGroup (src : Sender) (body : Body SlotFields) (s : State) : Host.Outcome State Fault Refusal :=
  serve src .abortGroup body s fun f => s.onSlot src .abortGroup f.slot fun g =>
    if (s.group g).state = .free then s.refuse src .abortGroup .wrongState
    else (s.endGroup g .aborted).settle.answer src .abortGroup .ok []

/-! ## READ GROUP (R61) -/

/-- A member's status: ACTIVE 0, ARRIVED 1 or EXCLUDED 2, then behind a presence byte the reason and the frame that only EXCLUDED has
(R45, R179; log 11). -/
def MemberStatus.field : MemberStatus → List Byte
  | .active => u8 0 ++ u8 0
  | .arrived => u8 1 ++ u8 0
  | .excluded r f => u8 2 ++ u8 1 ++ [r.code] ++ frameField f

/-- The figures of one axis of a profile (R45; widths, log 11). -/
def AxisPlan.field (p : AxisPlan) : List Byte := u32 p.d ++ u16 p.r ++ u16 p.vc

/-- A taken member's resolved targets and profile (R45). -/
def MemberPlan.field (p : MemberPlan) : List Byte := s32 p.az ++ s32 p.el ++ p.azPlan.field ++ p.elPlan.field

/-- A member entry (R45). Its two marks take a byte each (log 11). -/
def Member.field (m : Member) : List Byte :=
  u8 m.order.dish.val ++ u24 m.order.skyAz ++ u24 m.order.el ++ u8 m.order.wrap.place ++ m.status.field
    ++ opt MemberPlan.field m.plan ++ flag m.acked ++ flag m.braked

/-- A group record (R45). -/
def Group.field (g : Group) : List Byte :=
  u8 g.state.place ++ u16 g.tag ++ u8 g.action.place ++ opt (fun h => u8 (HeldFrom.place h)) g.heldFrom ++ u24 g.t
    ++ opt frameField g.loadFrame ++ opt frameField g.startFrame ++ opt frameField g.arrivalFrame
    ++ u8 g.lastResult.place ++ list Member.field g.members

/-- A track stream as READ GROUP gives it (R61). Its three marks take a byte each (log 11). -/
def Stream.field (x : Stream) : List Byte :=
  u8 x.buffer.length ++ opt FaultLock.field x.lock ++ u8 x.coast ++ s16 x.lastAz ++ s16 x.lastEl ++ flag x.starved
    ++ flag x.finish ++ flag x.lowReported

/-- READ GROUP: the slot's group record and track stream (R61). -/
def execReadGroup (src : Sender) (body : Body SlotFields) (s : State) : Host.Outcome State Fault Refusal :=
  serve src .readGroup body s fun f => s.onSlot src .readGroup f.slot fun g =>
    s.answer src .readGroup .ok ((s.group g).field ++ (s.stream g).field)

end Sys2Proof.Machine
end

