-- ==== Sys2Proof/Machine/PortSteps.lean ====
section
/-! DEFINITION. PortSteps.lean: link timeouts, FETCH RESPONSE, unknown codes and bad frames (R157 to R162), and the requests
of the Port Interfaces and the Attention Unit (R164, R168 to R170). -/

namespace Sys2Proof.Machine

/-! ## Frames and links -/

/-- A transaction of a port abandoned at a link timeout: counted to 255, its abandoned mark set, the bus released (R159, R162). -/
def State.abandon (s : State) (p : Port) : State :=
  ((s.setViolation p (s.violation p).timeout).freeBus p).setAbandoned p true

/-- LINK_TIMEOUT: a four-wire transaction is abandoned and counted (R159). -/
def execLinkTimeout (l : FourWire) (s : State) : Host.Outcome State Fault Refusal := event s (s.abandon l.port)

/-- MAINTENANCE_LINK_TIMEOUT: a transaction addressed to one of the part's stations is abandoned and counted (R162). -/
def execMaintenanceLinkTimeout (n : StationId) (s : State) : Host.Outcome State Fault Refusal :=
  .next (if s.hears (.station n) then s.abandon .maintenance else s)

/-- FETCH_RESPONSE: the holder is sent and left as it stood; nothing is executed (R157, R161). -/
def execFetchResponse (src : Sender) (s : State) : Host.Outcome State Fault Refusal :=
  .next (if s.hears src then s.endTransaction src.port else s)

/-- UNKNOWN_REQUEST: a code that is not in the catalogue is echoed and refused (R158, case 4). -/
def execUnknownRequest (src : Sender) (code : Byte) (s : State) : Host.Outcome State Fault Refusal :=
  .next (if s.hears src then s.respond src code .unknownRequest [] else s)

/-- BAD_FRAME: a frame that fails cases 1 to 3 of R158 is answered with its first byte echoed. One whose first byte is 0x00 is
a fetch and is discarded (R157). Where no whole first byte was received the byte echoed is a free value (log 4). -/
def execBadFrame (src : Sender) (first : Option Byte) (s : State) : Host.Outcome State Fault Refusal :=
  .next <|
    if s.hears src then
      match first with
      | some c => if c = 0 then s.endTransaction src.port else s.respond src c .badFrame []
      | none => (s.respond src (Config.echoOfNoByte s.fresh) .badFrame []).drawFresh
    else s

/-! ## Attention (section 10.5) -/

/-- The pending flags and in-service marks of a port, a mask byte each, bit 0 the highest source (R168). -/
def State.marksField (s : State) (p : Port) : List Byte :=
  u8 (maskField ((portSources p).map fun x => (s.source x).pending))
    ++ u8 (maskField ((portSources p).map fun x => (s.source x).inService))

/-- The number of lock entries in the table. -/
def State.entryCount (s : State) : Nat := s.countLocks fun _ => true

/-- CENSUS_REQUIRED raised again while the census is INCOMPLETE and its pending flag is clear (R155). -/
def State.keepCensusRaised (s : State) : State :=
  if s.censusDone || (s.source .censusRequired).pending then s
  else s.raise .censusRequired (.censusRequired s.entryCount)

/-- The place of a source in its port's list, counted from 0 (R165). -/
def sourcePlace (p : Port) (x : Source) : Nat := (portSources p).findIdx fun y => decide (y = x)

/-- A source taken: no longer pending, its detail record emptied, in service (R168). -/
def SourceState.taken (x : SourceState) : SourceState :=
  { x with pending := false, inService := true, detail := none, overrun := 0 }

/-- TAKE ATTENTION at a port (R168). The detail and the overrun count, given only where a source is found, stand behind the source's
byte, 0xFF for NONE (R165), with no presence byte of their own (log 52). -/
def State.takeAttention (s : State) (src : Sender) : State :=
  let p := src.port
  match s.firstEligible (portSources p) with
  | none => s.answer src .takeAttention .ok ([0xFF] ++ s.marksField p)
  | some x =>
    let held := s.source x
    let s := (s.setSource x SourceState.taken).keepCensusRaised
    s.answer src .takeAttention .ok
      (u8 (sourcePlace p x) ++ (held.detail.map Detail.field).getD [] ++ u8 held.overrun ++ s.marksField p)

/-- TAKE ATTENTION (R168). -/
def execTakeAttention (src : Sender) (body : Body NoFields) (s : State) : Host.Outcome State Fault Refusal :=
  serve src .takeAttention body s fun _ => s.takeAttention src

/-- END ATTENTION (R169): the highest source in service ends its service. -/
def execEndAttention (src : Sender) (body : Body NoFields) (s : State) : Host.Outcome State Fault Refusal :=
  serve src .endAttention body s fun _ =>
    match (portSources src.port).find? fun x => (s.source x).inService with
    | none => s.refuse src .endAttention .wrongState
    | some x =>
      (s.setSource x fun y => { y with inService := false }).answer src .endAttention .ok (u8 (sourcePlace src.port x))

/-- The mask bits of a list of sources set from a mask, bit n for the first of the list (R169, R178). -/
def State.maskSources (mask : Byte) : List Source → Nat → State → State
  | [], _, s => s
  | x :: xs, n, s => State.maskSources mask xs (n + 1) (s.setSource x fun y => { y with enabled := mask.getLsbD n })

/-- SET ATTENTION MASK (R169). -/
def execSetAttentionMask (src : Sender) (body : Body MaskFields) (s : State) : Host.Outcome State Fault Refusal :=
  serve src .setAttentionMask body s fun f =>
    let xs := portSources src.port
    if 2 ^ xs.length ≤ f.mask.toNat then s.refuse src .setAttentionMask .badField
    else (State.maskSources f.mask xs 0 s).answer src .setAttentionMask .ok []

/-! ## Violations and PORT RESET -/

/-- The first refused station, which only the maintenance port's record has (R164). -/
def Violation.stationField (v : Violation) : Port → List Byte
  | .scheduler => []
  | .safety => []
  | .maintenance => opt (fun n : StationId => u8 n.val) v.firstStation

/-- A violation record as READ VIOLATION gives it (R164). -/
def Violation.field (v : Violation) (p : Port) : List Byte :=
  opt (fun c => [c]) v.firstCode ++ v.stationField p ++ u8 v.refused ++ u8 v.linkTimeouts

/-- READ VIOLATION: the port's record is given and then cleared (R164). -/
def execReadViolation (src : Sender) (body : Body NoFields) (s : State) : Host.Outcome State Fault Refusal :=
  serve src .readViolation body s fun _ =>
    (s.setViolation src.port .reset).answer src .readViolation .ok ((s.violation src.port).field src.port)

/-- A source cleared by PORT RESET; its mask bit is kept (R170). -/
def SourceState.cleared (x : SourceState) : SourceState :=
  { x with pending := false, inService := false, detail := none, overrun := 0 }

/-- Every response holder of a port emptied (R170). -/
def State.emptyHolders (s : State) : Port → State
  | .scheduler => { s with ports := { s.ports with schedulerHolder := none } }
  | .safety => { s with ports := { s.ports with safetyHolder := none } }
  | .maintenance => { s with ports := { s.ports with stationHolders := Vector.replicate 4 none } }

/-- The blocks' part in PORT RESET: staging on the scheduler port, the census on the maintenance port (R35, R155, R170). -/
def State.portResetBlocks (s : State) : Port → State
  | .scheduler => { s with staging := none }
  | .safety => s
  | .maintenance => s.keepCensusRaised

/-- PORT RESET (R170). -/
def execPortReset (src : Sender) (body : Body NoFields) (s : State) : Host.Outcome State Fault Refusal :=
  serve src .portReset body s fun _ =>
    let p := src.port
    let t := (portSources p).foldl (fun s x => s.setSource x SourceState.cleared) s
    ((t.emptyHolders p).portResetBlocks p).answer src .portReset .ok []

end Sys2Proof.Machine
end

