-- ==== Sys2Proof/Machine/LockRequests.lean ====
section
/-! DEFINITION. LockRequests.lean: PLACE LOCK, RELEASE LOCK, READ LOCKS and CENSUS COMPLETE (R145 to R147, R149 to R151,
R154, R156). -/

namespace Sys2Proof.Machine

/-! ## PLACE LOCK (R145 to R147) -/

/-- The scope of a code (R178). -/
def scopeOf : Nat → Option Scope
  | 0 => some .move
  | 1 => some .heat
  | 2 => some .all
  | _ => none

/-- An entry with this dish and tag. -/
def LockEntry.named (d : DishId) (tag : Nat) (e : LockEntry) : Bool := decide (e.dish = d) && decide (e.tag = tag)

/-- The lowest position whose content meets a test. -/
def State.findPosition (s : State) (p : Option LockEntry → Bool) : Option (Fin 96) :=
  lockPositions.find? fun i => p s.locks.entries[i]

/-- A position of the Lock Table set. -/
def State.putLock (s : State) (i : Fin 96) (e : Option LockEntry) : State :=
  { s with locks := { s.locks with entries := s.locks.entries.set i e } }

/-- The motion states in which a dish at rest takes an APPLIED entry (R146). -/
def Motion.takesLock : Motion → Bool
  | .idle | .stowed | .fault => true
  | .unknown | .engaged | .stopping | .stowing | .shedding | .offline => false

/-- The state of a new entry (R146). -/
def State.newLockState (s : State) (d : DishId) : Scope → LockState
  | .heat => .applied
  | .move | .all => if (s.dish d).motion.takesLock && (s.dish d).brakedStill then .applied else .pending

/-- A conflict with the stow where the placed entry is PENDING on a dish in the Stow Queue (R149). -/
def State.conflictIfQueued (s : State) (d : DishId) : State :=
  if s.queued d && s.lockRequested d then s.raiseConflict d .queued else s

/-- The blocks' answers to the placing of a MOVE or ALL entry, by the dish's motion state (R50, R147, R149). -/
def State.answerMoveLock (s : State) (d : DishId) : State :=
  let s := s.skipShed d
  match (s.dish d).motion with
  | .idle => (if s.moveLocked d then (s.writeHoldBrake d).stowOnLocked d else s.conflictIfQueued d).excludeMember d .lockRequest
  | .engaged => s.excludeMember d .lockRequest
  | .stopping => (s.conflictIfQueued d).excludeMember d .lockRequest
  | .stowing => s.raiseConflict d .stowing
  | .shedding => s.stopShed d .aborted
  | .stowed => s
  | .fault => s
  | .unknown => s
  | .offline => s

/-- The answers to a placing, from the state before it: a dish that had an applied move lock is already held (R147); a HEAT or ALL
entry begins the heat-lock block condition, unless the dish was heat-locked (R132, R146). -/
def State.answerPlacing (s before : State) (d : DishId) (scope : Scope) : State :=
  let s := if scope = .heat ∨ 1 ≤ before.appliedMove d then s else s.answerMoveLock d
  if scope = .move then s else s.answerBlock d (!before.heatLocked d)

/-- The three lock view counts, the position and the state that PLACE LOCK answers (R145). -/
def State.placedField (s : State) (i : Fin 96) (d : DishId) (st : LockState) : List Byte :=
  u8 i.val ++ u8 st.place ++ s.lockCountsField d

/-- An entry placed at a free position (R145). -/
def State.place (s : State) (n : StationId) (d : DishId) (scope : Scope) (tag : Nat) (i : Fin 96) : State :=
  let st := s.newLockState d scope
  (s.putLock i (some ⟨d, scope, tag, n, st, s.locks.seconds⟩)).answerPlacing s d scope

/-- A lock placed on a present dish, or refused with DUPLICATE or with FULL and its detail, DISH 0 or TABLE 1 (R145). -/
def State.placeLock (s : State) (src : Sender) (n : StationId) (d : DishId) (scope : Scope) (tag : Nat) : State :=
  if 1 ≤ s.countLocks (LockEntry.named d tag) then s.refuse src .placeLock .duplicate
  else if 8 ≤ s.countLocks fun e => decide (e.dish = d) then s.answer src .placeLock .full (u8 0)
  else
    match s.findPosition Option.isNone with
    | none => s.answer src .placeLock .full (u8 1)
    | some i =>
      let st := s.newLockState d scope
      let s := (s.place n d scope tag i).settle
      s.answer src .placeLock .ok (s.placedField i d st)

/-- PLACE LOCK (R145). -/
def execPlaceLock (src : Sender) (body : Body PlaceLockFields) (s : State) : Host.Outcome State Fault Refusal :=
  serve src .placeLock body s fun f =>
    match senderStation src with
    | none => s
    | some n =>
      if h : f.dish < 48 then
        match scopeOf f.scope with
        | none => s.refuse src .placeLock .badField
        | some scope =>
          if (s.cfg ⟨f.dish, h⟩).present ∧ 1 ≤ f.tag ∧ f.tag ≤ 999999 then s.placeLock src n ⟨f.dish, h⟩ scope f.tag
          else s.refuse src .placeLock .badField
      else s.refuse src .placeLock .badField

/-! ## RELEASE LOCK (R150, R151) -/

/-- What the removal of an entry's move part ends (R151). -/
def State.moveEntryGone (s : State) (e : LockEntry) : State :=
  match e.state with
  | .pending => s
  | .applied => if 1 ≤ s.appliedMove e.dish then s else s.moveLockEnded e.dish

/-- What the removal of an entry's heat part ends (R151). -/
def State.heatEntryGone (s : State) (e : LockEntry) : State :=
  if s.heatLocked e.dish then s else s.answerBlock e.dish true

/-- What the removal of an entry ends, by its scope (R151). -/
def State.entryGone (s : State) (e : LockEntry) : State :=
  match e.scope with
  | .move => s.moveEntryGone e
  | .heat => s.heatEntryGone e
  | .all => (s.moveEntryGone e).heatEntryGone e

/-- The answers to the removal of an entry, at each of which admission is asked for (R38, R151; log 18). -/
def State.answerRemoval (s : State) (e : LockEntry) : State := (s.entryGone e).askRound

/-- An entry removed (R150, R151). -/
def State.removeLock (s : State) (src : Sender) (i : Fin 96) (e : LockEntry) : State :=
  let s := ((s.putLock i none).answerRemoval e).settle
  s.answer src .releaseLock .ok (u8 i.val ++ u8 e.scope.place ++ u8 e.state.place ++ s.lockCountsField e.dish)

/-- RELEASE LOCK, from any station (R150). -/
def execReleaseLock (src : Sender) (body : Body ReleaseLockFields) (s : State) : Host.Outcome State Fault Refusal :=
  serve src .releaseLock body s fun f =>
    if h : f.dish < 48 then
      if 1 ≤ f.tag ∧ f.tag ≤ 999999 then
        match s.findPosition fun e => e.any (LockEntry.named ⟨f.dish, h⟩ f.tag) with
        | none => s.refuse src .releaseLock .notFound
        | some i =>
          match s.locks.entries[i] with
          | none => s.refuse src .releaseLock .notFound
          | some e => s.removeLock src i e
      else s.refuse src .releaseLock .badField
    else s.refuse src .releaseLock .badField

/-! ## READ LOCKS (R154) -/

/-- The census: INCOMPLETE 0 or COMPLETE 1, then behind a presence byte the station and the seconds count that only COMPLETE has
(R154, R155, R179; log 11). -/
def Census.field : Census → List Byte
  | .incomplete => u8 0 ++ u8 0
  | .complete n t => u8 1 ++ u8 1 ++ u8 n.val ++ u32 t.toNat

/-- A lock entry with its position (R154). -/
def LockEntry.field (e : LockEntry) (i : Fin 96) : List Byte :=
  u8 i.val ++ u8 e.dish.val ++ u8 e.scope.place ++ u24 e.tag ++ u8 e.station.val ++ u8 e.state.place ++ u32 e.placed.toNat

/-- The positions of the entries that meet a test, ascending. -/
def State.positionsWhere (s : State) (p : LockEntry → Bool) : List (Fin 96) :=
  lockPositions.filter fun i => s.locks.entries[i].any p

/-- The content of a position (R154). -/
def State.positionField (s : State) (i : Fin 96) : List Byte :=
  match s.locks.entries[i] with
  | none => []
  | some e => e.field i

/-- Census, entries and free positions (R154). -/
def State.lockHeadField (s : State) : List Byte := s.locks.census.field ++ u8 s.entryCount ++ u8 (96 - s.entryCount)

/-- READ LOCKS (R154). -/
def execReadLocks (src : Sender) (body : Body DishFields) (s : State) : Host.Outcome State Fault Refusal :=
  serve src .readLocks body s fun f =>
    if f.dish = 255 then
      s.answer src .readLocks .ok (s.lockHeadField ++ list s.positionField (s.positionsWhere fun _ => true))
    else if h : f.dish < 48 then
      let d : DishId := ⟨f.dish, h⟩
      s.answer src .readLocks .ok
        (s.lockHeadField ++ flag (s.dish d).switchLock ++ s.lockCountsField d
          ++ list s.positionField (s.positionsWhere fun e => decide (e.dish = d)))
    else s.refuse src .readLocks .badField

/-! ## CENSUS COMPLETE (R156) -/

/-- The census declared complete: recorded, CENSUS_REQUIRED no longer pending, the heaters' block ended, and a round asked for
(R132, R156). -/
def State.completeCensus (s : State) (n : StationId) : State :=
  let s := { s with locks := { s.locks with census := .complete n s.locks.seconds } }
  let s := s.setSource .censusRequired fun x => { x with pending := false }
  s.reblockAll.askRound

/-- CENSUS COMPLETE (R156). -/
def execCensusComplete (src : Sender) (body : Body NoFields) (s : State) : Host.Outcome State Fault Refusal :=
  serve src .censusComplete body s fun _ =>
    match senderStation src, s.locks.census with
    | some n, .incomplete => (s.completeCensus n).settle.answer src .censusComplete .ok (u8 s.entryCount)
    | some _, .complete _ _ => s.refuse src .censusComplete .wrongState
    | none, _ => s

end Sys2Proof.Machine
end

