-- ==== Sys2Proof/Machine/MeltRequests.lean ====
section
/-! DEFINITION. MeltRequests.lean: MELT ORDER, CANCEL MELT and READ MELT (R129 to R131, R138, R143). -/

namespace Sys2Proof.Machine

/-! ## Dishes and zones named -/

/-- The zone kinds that a mask names, in the order RIM, INNER, SUBREF (R129, R178). -/
def namedKinds (mask : Byte) : List ZoneKind :=
  (if mask.getLsbD 0 then [.rim] else []) ++ (if mask.getLsbD 1 then [.inner] else [])
    ++ (if mask.getLsbD 2 then [.subref] else [])

/-- The present dishes, ascending. -/
def State.presentDishes (s : State) : List DishId := allDishes.filter fun d => (s.cfg d).present

/-- The dishes that a melt request names: one present dish, or all of them for 255 (R129, R131). -/
def State.namedDishes (s : State) (n : Nat) : Option (List DishId) :=
  if n = 255 then some s.presentDishes
  else if h : n < 48 then if (s.cfg ⟨n, h⟩).present then some [⟨n, h⟩] else none
  else none

/-- The most energy that a zone holds, in J (R127). -/
def energyLimit : Nat := 1000000000

/-! ## MELT ORDER (R129, R130, R138) -/

/-- A zone's energy raised, stopping at the limit; an IDLE zone joins the tail of the list, in which no zone stands twice (R128, R129
step 1). -/
def State.addEnergy (s : State) (energy : Nat) (z : ZoneId) : State :=
  let r := min energyLimit ((s.zone z).remaining + energy)
  match (s.zone z).state with
  | .idle =>
    let st : ZoneState := if s.blocks z.dish then .blocked else .waiting
    let t := s.setZone z fun x => { x with state := st, remaining := r }
    { t with melt := { t.melt with
        rotation := if t.melt.rotation.contains z then t.melt.rotation else t.melt.rotation ++ [z] } }.askScan
  | .waiting | .powered | .blocked => s.setZone z fun x => { x with remaining := r }

/-- A dish's ice flag set, which excludes an active member of a group with ICED (R50, R130). -/
def State.setIce (s : State) (d : DishId) : State :=
  if s.melt.ice[d] then s
  else { s with melt := { s.melt with ice := s.melt.ice.set d true } }.excludeMember d .iced

/-- The outcome of an offer to the Shed List (R129, R138). -/
inductive ShedOffer where
  | notAsked | listed | alreadyListed | skippedStow | skippedLocked | skippedState
  deriving DecidableEq, Repr

/-- An offer judged (R138). -/
def State.judgeShedOffer (s : State) (d : DishId) : ShedOffer :=
  if s.shedListed d then .alreadyListed
  else if s.stowInForce then .skippedStow
  else if s.moveLocked d || s.lockRequested d then .skippedLocked
  else if (s.dish d).motion ≠ .idle then .skippedState
  else .listed

/-- A dish joins the tail of the Shed List with the present frame (R138). -/
def State.listShed (s : State) (d : DishId) : State :=
  { s with melt := { s.melt with shedList := s.melt.shedList ++ [ShedEntry.mk d s.ring.frame] } }.askRound

/-- What an offer does: a dish is listed, or nothing changes (R138). -/
def State.takeOffer (s : State) (d : DishId) : ShedOffer → State
  | .listed => s.listShed d
  | .notAsked => s
  | .alreadyListed => s
  | .skippedStow => s
  | .skippedLocked => s
  | .skippedState => s

/-- The offer of a dish where the shed flag asks for one. -/
def State.offerFor (s : State) (shed : Bool) (d : DishId) : ShedOffer := if shed then s.judgeShedOffer d else .notAsked

/-- One dish of a melt order up to its offer: energies and ice flag (R129, steps 1 and 2). -/
def State.meltZones (s : State) (kinds : List ZoneKind) (energy : Nat) (ice : Bool) (d : DishId) : State :=
  let s := kinds.foldl (fun s k => s.addEnergy energy ⟨d, k⟩) s
  if ice then s.setIce d else s

/-- The walk of a melt order over its dishes: the state, and the outcome of each dish's offer (R129). -/
def meltWalk (kinds : List ZoneKind) (energy : Nat) (ice shed : Bool) : List DishId → State → State × List ShedOffer
  | [], s => (s, [])
  | d :: ds, s =>
    let s := s.meltZones kinds energy ice d
    let o := s.offerFor shed d
    let rest := meltWalk kinds energy ice shed ds (s.takeOffer d o)
    (rest.1, o :: rest.2)

/-- The zones that an order names. -/
def zonesNamed (ds : List DishId) (kinds : List ZoneKind) : List ZoneId := ds.flatMap fun d => kinds.map fun k => ⟨d, k⟩

/-- An order's energy takes a zone past the limit, where it stops; one that comes to the limit exactly has lost none and is not
marked (R129; log 46). -/
def State.stopsAtLimit (s : State) (energy : Nat) (z : ZoneId) : Bool :=
  decide (energyLimit < (s.zone z).remaining + energy)

/-- The outcome of an offer: NOT_ASKED 0, LISTED 1, ALREADY_LISTED 2, SKIPPED 3, then behind a presence byte the cause that only
SKIPPED has: STOW 0, LOCKED 1, STATE 2 (R129, R138, R179; log 11). -/
def ShedOffer.field : ShedOffer → List Byte
  | .notAsked => u8 0 ++ u8 0
  | .listed => u8 1 ++ u8 0
  | .alreadyListed => u8 2 ++ u8 0
  | .skippedStow => u8 3 ++ u8 1 ++ u8 0
  | .skippedLocked => u8 3 ++ u8 1 ++ u8 1
  | .skippedState => u8 3 ++ u8 1 ++ u8 2

/-- An offer was skipped. -/
def ShedOffer.skipped : ShedOffer → Bool
  | .skippedStow | .skippedLocked | .skippedState => true
  | .notAsked | .listed | .alreadyListed => false

/-- The answer to a melt order for one dish, from the state before and after it: the list of the zones named, then the outcome of the
offer (R129, R179). -/
def singleMeltField (before after : State) (d : DishId) (kinds : List ZoneKind) (energy : Nat) (os : List ShedOffer) :
    List Byte :=
  list (fun k => u32 (after.zone ⟨d, k⟩).remaining ++ flag (before.stopsAtLimit energy ⟨d, k⟩)) kinds
    ++ os.flatMap ShedOffer.field

/-- The answer to a melt order for 255: dishes taken, zones that joined, zones that stopped at the limit, dishes listed, already
listed and skipped (R129). -/
def wholeMeltField (before : State) (ds : List DishId) (kinds : List ZoneKind) (energy : Nat) (os : List ShedOffer) :
    List Byte :=
  let zs := zonesNamed ds kinds
  u8 ds.length ++ u8 (zs.countP fun z => decide ((before.zone z).state = .idle))
    ++ u8 (zs.countP (before.stopsAtLimit energy)) ++ u8 (os.countP fun o => decide (o = .listed))
    ++ u8 (os.countP fun o => decide (o = .alreadyListed)) ++ u8 (os.countP ShedOffer.skipped)

/-- The answer to a melt order (R129). -/
def meltField (before after : State) (n : Nat) (ds : List DishId) (kinds : List ZoneKind) (energy : Nat)
    (os : List ShedOffer) : List Byte :=
  if n = 255 then wholeMeltField before ds kinds energy os
  else ds.flatMap fun d => singleMeltField before after d kinds energy os

/-- MELT ORDER (R129). -/
def execMeltOrder (src : Sender) (body : Body MeltOrderFields) (s : State) : Host.Outcome State Fault Refusal :=
  serve src .meltOrder body s fun f =>
    match s.namedDishes f.dish with
    | none => s.refuse src .meltOrder .badField
    | some ds =>
      let kinds := namedKinds f.mask
      if kinds = [] ∨ f.energy < 1 ∨ 1000000 < f.energy then s.refuse src .meltOrder .badField
      else
        let energy := f.energy * 1000
        let w := meltWalk kinds energy (f.flags.getLsbD 0) (f.flags.getLsbD 1) ds s
        let t := w.1.askScan.settle
        t.answer src .meltOrder .ok (meltField s t f.dish ds kinds energy w.2)

/-! ## CANCEL MELT (R131) -/

/-- One dish of a cancellation: zones, ice flag, Shed List (R131). -/
def State.cancelDish (s : State) (kinds : List ZoneKind) (d : DishId) : State :=
  let s := kinds.foldl (fun s k => s.cancelZone ⟨d, k⟩) s
  (s.iceAfterCancel d).skipShed d

/-- The answer to a cancellation: zones cancelled, and dishes removed from the Shed List (R131). -/
def cancelField (before : State) (ds : List DishId) (kinds : List ZoneKind) : List Byte :=
  u8 ((zonesNamed ds kinds).countP fun z => decide ((before.zone z).state ≠ .idle)) ++ u8 (ds.countP before.shedListed)

/-- CANCEL MELT (R131). -/
def execCancelMelt (src : Sender) (body : Body CancelMeltFields) (s : State) : Host.Outcome State Fault Refusal :=
  serve src .cancelMelt body s fun f =>
    match s.namedDishes f.dish with
    | none => s.refuse src .cancelMelt .badField
    | some ds =>
      let kinds := namedKinds f.mask
      if kinds = [] then s.refuse src .cancelMelt .badField
      else
        (s.onDishes ds fun s d => s.cancelDish kinds d).askScan.settle.answer src .cancelMelt .ok
          (cancelField s ds kinds)

/-! ## READ MELT (R143) -/

/-- A place in a list counted from 1 at the head, or none: so R143 counts it in the Melt Rotation List, and the model in the Shed List
too (log 53). -/
def placeIn {α : Type} (p : α → Bool) (xs : List α) : Option Nat := (xs.findIdx? p).map (· + 1)

/-- What READ MELT gives of a zone only when it is POWERED: the powered power and the slot time remaining, behind one presence
byte for both (R143; log 11). -/
def State.poweredField (s : State) (x : Zone) : List Byte :=
  match x.power, x.timer with
  | some p, some t => u8 1 ++ u16 p ++ u32 (s.msLeft t)
  | _, _ => u8 0

/-- One zone as READ MELT gives it for one dish (R143). -/
def State.zoneField (s : State) (z : ZoneId) : List Byte :=
  let x := s.zone z
  u8 x.state.place ++ u32 x.remaining ++ u8 x.carry
    ++ opt u8 (placeIn (fun y => decide (y = z)) s.melt.rotation)
    ++ s.poweredField x

/-- A shed move record (R143). -/
def ShedMove.field (m : ShedMove) : List Byte :=
  u24 m.t ++ opt frameField m.start ++ flag m.settled ++ frameField m.deadline

/-- READ MELT for one dish (R143); a shed move record stands behind one presence byte (log 11), and
the place in the Shed List is counted from 1 (log 53). -/
def State.dishMeltField (s : State) (d : DishId) : List Byte :=
  flag s.melt.ice[d] ++ (zonesOf d).flatMap s.zoneField
    ++ opt u8 (placeIn (fun e : ShedEntry => decide (e.dish = d)) s.melt.shedList)
    ++ opt ShedMove.field s.melt.shedMoves[d] ++ u8 s.melt.shedResult[d].place

/-- A zone of the Melt Rotation List: dish, kind, state, remaining energy (R143). -/
def State.rotationField (s : State) (z : ZoneId) : List Byte :=
  u8 z.dish.val ++ u8 (zoneKindPlace z.kind) ++ u8 (s.zone z).state.place ++ u32 (s.zone z).remaining

/-- A SHEDDING dish with its record (R143). -/
def State.sheddingField (s : State) (d : DishId) : List Byte :=
  match s.melt.shedMoves[d] with
  | none => []
  | some m => u8 d.val ++ m.field

/-- The dishes with a shed move record, in ascending index, an order that R143 leaves open (log 45). -/
def State.sheddingDishes (s : State) : List DishId := allDishes.filter fun d => s.melt.shedMoves[d].isSome

/-- The dishes whose ice flag is set, in ascending index, an order that R143 leaves open (log 45). -/
def State.icedDishes (s : State) : List DishId := allDishes.filter fun d => s.melt.ice[d]

/-- READ MELT for 255 (R143); its SHEDDING dishes and its iced dishes go in ascending index (log 45). -/
def State.wholeMeltReadField (s : State) : List Byte :=
  s.meltSection ++ list s.rotationField s.melt.rotation
    ++ list (fun e : ShedEntry => u8 e.dish.val ++ frameField e.joined) s.melt.shedList
    ++ list s.sheddingField s.sheddingDishes ++ list (fun d : DishId => u8 d.val) s.icedDishes

/-- READ MELT (R143). -/
def execReadMelt (src : Sender) (body : Body DishFields) (s : State) : Host.Outcome State Fault Refusal :=
  serve src .readMelt body s fun f =>
    if f.dish = 255 then s.answer src .readMelt .ok s.wholeMeltReadField
    else if h : f.dish < 48 then s.answer src .readMelt .ok (s.dishMeltField ⟨f.dish, h⟩)
    else s.refuse src .readMelt .badField

end Sys2Proof.Machine
end

