-- ==== Sys2Proof/Machine/OrderRequests.lean ====
section
/-! DEFINITION. OrderRequests.lean: the staging area and the Order Queue: OPEN ORDER, ADD MEMBERS, COMMIT ORDER, CANCEL ORDER
and READ QUEUE (R35 to R39, R61). -/

namespace Sys2Proof.Machine

/-! ## OPEN ORDER (R35) -/

/-- The action of a code (R178). -/
def actionOf : Nat → Option Action
  | 0 => some .position
  | 1 => some .track
  | _ => none

/-- OPEN ORDER: in either state of the staging area, the header is filled and the member list becomes empty (R35). -/
def execOpenOrder (src : Sender) (body : Body OpenOrderFields) (s : State) : Host.Outcome State Fault Refusal :=
  serve src .openOrder body s fun f =>
    match actionOf f.action with
    | none => s.refuse src .openOrder .badField
    | some a =>
      if 1 ≤ f.tag ∧ f.tag ≤ 65535 ∧ f.deadline ≤ 65535 then
        { s with staging := some ⟨f.tag, a, f.deadline, []⟩ }.answer src .openOrder .ok []
      else s.refuse src .openOrder .badField

/-! ## ADD MEMBERS (R36) -/

/-- The wrap preference of a code (R178). -/
def wrapOf : Nat → Option Wrap
  | 0 => some .auto
  | 1 => some .cw
  | 2 => some .ccw
  | _ => none

/-- The dish of an index, if it is below 48 and the dish is present. -/
def State.presentDish (s : State) (n : Nat) : Option DishId :=
  if h : n < 48 then if (s.cfg ⟨n, h⟩).present then some ⟨n, h⟩ else none else none

/-- A member record as carried, taken if its dish is present and its fields lie in range (R36). -/
def State.memberOf (s : State) (f : MemberFields) : Option MemberRecord :=
  match s.presentDish f.dish, wrapOf f.wrap with
  | some d, some w => if f.skyAz ≤ 359999 ∧ 15000 ≤ f.el ∧ f.el ≤ 90000 then some ⟨d, f.skyAz, f.el, w⟩ else none
  | _, _ => none

/-- All the records carried, or none where one of them is refused (R36). -/
def State.membersOf (s : State) : List MemberFields → Option (List MemberRecord)
  | [] => some []
  | f :: fs =>
    match s.memberOf f, s.membersOf fs with
    | some m, some ms => some (m :: ms)
    | _, _ => none

/-- A record names a dish already staged, or two of the records name the same dish (R36). -/
def repeats (staged carried : List MemberRecord) : Bool :=
  (carried.any fun m => staged.any fun x => decide (x.dish = m.dish)) || !decide (carried.map (·.dish)).Nodup

/-- ADD MEMBERS: judged as a whole, the records join the tail of the staged list (R36). -/
def execAddMembers (src : Sender) (body : Body AddMembersFields) (s : State) : Host.Outcome State Fault Refusal :=
  serve src .addMembers body s fun f =>
    match s.staging with
    | none => s.refuse src .addMembers .wrongState
    | some g =>
      match s.membersOf f.records with
      | none => s.refuse src .addMembers .badField
      | some ms =>
        if repeats g.members ms then s.refuse src .addMembers .duplicate
        else if 48 < g.members.length + ms.length then s.refuse src .addMembers .full
        else
          { s with staging := some { g with members := g.members ++ ms } }.answer src .addMembers .ok
            (u8 (g.members.length + ms.length))

/-! ## COMMIT ORDER and CANCEL ORDER (R37, R39) -/

/-- A tag is that of an order in the queue. -/
def State.queuedTag (s : State) (tag : Nat) : Bool := s.orders.any fun o => decide (o.tag = tag)

/-- A tag is that of a group in a slot. -/
def State.groupTag (s : State) (tag : Nat) : Bool :=
  allSlots.any fun g => decide ((s.group g).state ≠ .free) && decide ((s.group g).tag = tag)

/-- The order that a COMMIT ORDER finds: the staged one, or, where it falls together with a DRIVE RESET taken before it, the one that
the reset discarded from the staging area (R37, R175; log 50). -/
def State.orderToCommit (s : State) : Option Staging :=
  match s.staging, s.resetCommit with
  | some g, _ => some g
  | none, .holds g => some g
  | none, .none => none
  | none, .falls => none

/-- The commit that fell together with a DRIVE RESET has been taken (log 50). -/
def State.endResetCommit (s : State) : State := { s with resetCommit := .none }

/-- The staged order at the tail of the queue, stamped with the present frame; admission of a new head is asked for (R37,
R38). -/
def State.commit (s : State) (g : Staging) : State :=
  let t := { s with
    staging := none
    orders := s.orders ++ [Order.mk g.tag g.action g.deadline g.members s.ring.frame] }
  if s.orders = [] then t.askRound else t

/-- COMMIT ORDER (R37, R175; log 50). The place answered is the one at which the order joined (log 11). -/
def execCommitOrder (src : Sender) (body : Body CountFields) (s : State) : Host.Outcome State Fault Refusal :=
  serve src .commitOrder body s fun f =>
    let found := s.orderToCommit
    let s := s.endResetCommit
    match found with
    | none => s.refuse src .commitOrder .wrongState
    | some g =>
      if f.count ≠ g.members.length ∨ g.members = [] then s.refuse src .commitOrder .badField
      else if s.queuedTag g.tag || s.groupTag g.tag then s.refuse src .commitOrder .duplicate
      else if 16 ≤ s.orders.length then s.refuse src .commitOrder .full
      else (s.commit g).settle.answer src .commitOrder .ok (u16 g.tag ++ u8 (s.orders.length + 1))

/-- CANCEL ORDER (R39). -/
def execCancelOrder (src : Sender) (body : Body TagFields) (s : State) : Host.Outcome State Fault Refusal :=
  serve src .cancelOrder body s fun f =>
    if s.queuedTag f.tag then (s.removeOrder f.tag).settle.answer src .cancelOrder .ok []
    else if s.groupTag f.tag then s.refuse src .cancelOrder .wrongState
    else s.refuse src .cancelOrder .notFound

/-! ## READ QUEUE (R61) -/

/-- The staging area: its state and, behind a presence byte when OPEN, tag, action, deadline and staged count (R61, R179; log 11). -/
def stagingField : Option Staging → List Byte
  | none => u8 0 ++ u8 0
  | some g => u8 1 ++ u8 1 ++ u16 g.tag ++ u8 g.action.place ++ u16 g.deadline ++ u8 g.members.length

/-- The frames left before an order expires, none where it has no deadline (R61, R179; log 11). -/
def State.framesLeft (s : State) (o : Order) : List Byte :=
  opt (fun x : Frame => u16 x.toNat)
    (if o.deadline = 0 then none else some (o.commitFrame + BitVec.ofNat 32 o.deadline - s.ring.frame))

/-- One queued order (R61). -/
def State.orderField (s : State) (o : Order) : List Byte :=
  u16 o.tag ++ u8 o.action.place ++ u8 o.members.length ++ frameField o.commitFrame ++ u16 o.deadline ++ s.framesLeft o

/-- READ QUEUE: the staging area and the queue from the head (R61). -/
def execReadQueue (src : Sender) (body : Body NoFields) (s : State) : Host.Outcome State Fault Refusal :=
  serve src .readQueue body s fun _ =>
    s.answer src .readQueue .ok (stagingField s.staging ++ list s.orderField s.orders)

end Sys2Proof.Machine
end

