-- ==== Sys2Proof/Machine/RingSteps.lean ====
section
/-! DEFINITION. RingSteps.lean: the part's own steps on the ring and the feeder: reset, frame start, send, report, miss, loss,
admission round and powering scan (R12, R16, R19, R22, R24, R31, R32, R119, R133, R171). -/

namespace Sys2Proof.Machine

/-- Power-on reset: every block takes its power-on values (R171). The steps that wait stay, and so does the count of free
values drawn (log 2). It also ends the holding of the reset pin. -/
def execPowerOnReset (s : State) : Host.Outcome State Fault Refusal :=
  .next { State.reset with pending := s.pending, fresh := s.fresh }

/-- The reset pin is asserted: until power-on reset the part sends, takes and executes nothing (R171; log 12). -/
def execResetPinAsserted (s : State) : Host.Outcome State Fault Refusal := .next { s with resetHeld := true }

/-- The frame number after the frame start, the dishes framed from it on, and the frame's exchanges before their first (R19, R20). -/
def State.nextFrame (s : State) : State :=
  { s with ring := { s.ring with
      frame := s.ring.frame + 1, framed := s.settings.dish.map (·.present), place := 0, window := none } }

/-- Frame start: the frame number rises by 1, 2^32 - 1 being followed by 0, and the Track Stream Unit answers slot by slot
(R19, R80), in ascending slot number (log 42). The blocks' deadlines are rows of their own (log 14). -/
def execFrameStart (s : State) : Host.Outcome State Fault Refusal :=
  event s (allSlots.foldl State.consume s.nextFrame).settle

/-- The dish is present and framed, so that this frame holds an exchange with it (R20). -/
def State.exchanges (s : State) (d : DishId) : Bool := (s.cfg d).present && s.ring.framed[d]

/-- The dish whose exchange is the frame's next: the lowest that has one and has not had it (R20). -/
def State.nextExchange (s : State) : Option DishId := allDishes.find? fun d => decide (s.ring.place ≤ d.val) && s.exchanges d

/-- The dish's send is the ring's next: no report window is open, and its exchange is the frame's next (R20). -/
def State.sendsNext (s : State) (d : DishId) : Bool := decide (s.ring.window = none) && decide (s.nextExchange = some d)

/-- The dish's report window is open (R20, R31). -/
def State.awaits (s : State) (d : DishId) : Bool := decide (s.ring.window = some d) && s.exchanges d

/-- The command that a send puts on the ring: HOLD BRAKE in place of what a move-locked dish is not sent (R24). -/
def State.toSend (s : State) (d : DishId) : Command :=
  if s.moveLocked d && (s.slot d).barred then .holdBrake else s.slot d

/-- What stands in the slot after a command has been sent (R22). -/
def Command.afterSend (c : Command) : Command := if c.oneShot then .keep else c

/-- The commanded positions after a send: a TRACK STEP sent advances them (R4, R28). -/
def State.advance (s : State) (d : DishId) : Command → State
  | .trackStep az el => s.setDish d fun x => { x with cmdAz := x.cmdAz + az, cmdEl := x.cmdEl + el }
  | .keep => s
  | .load _ _ _ => s
  | .go _ => s
  | .stop => s
  | .holdBrake => s

/-- The send of a dish's exchange, which opens its report window (R20, R22, R24). -/
def State.sendTo (s : State) (d : DishId) : State :=
  let c := s.toSend d
  let s := (s.putSlot d c.afterSend).setWindow (d.val + 1) (some d)
  { s with ring := { s.ring with out := some ⟨d, s.ring.frame, c⟩ } }.advance d c

/-- COMMAND_SEND: the record standing in the slot of the dish whose exchange is next is sent; no other dish is sent one (R20, R22,
R24; log 22). -/
def execCommandSend (d : DishId) (s : State) : Host.Outcome State Fault Refusal :=
  event s (if s.sendsNext d then s.sendTo d else s)

/-- VALID_REPORT: a report that R31 has found valid closes the dish's report window, is taken by R12 and offered to the blocks; one
that comes outside its dish's window is not taken (R20, R31; log 22). -/
def execValidReport (d : DishId) (r : Report) (s : State) : Host.Outcome State Fault Refusal :=
  event s (if s.awaits d then (s.closeWindow.takeReport d r).settle else s)

/-- The miss count of a dish one higher, stopping at 20 (R32). -/
def State.countMiss (s : State) (d : DishId) : State :=
  { s with ring := { s.ring with miss := upd s.ring.miss d fun n => min 20 (n + 1) } }

/-- A present dish whose miss count has reached 20 goes OFFLINE, unless it is so already (R16, R32). -/
def State.judgeLoss (s : State) (d : DishId) : State :=
  if (s.cfg d).present ∧ s.ring.miss[d] = 20 ∧ (s.dish d).motion ≠ .offline then (s.loseDish d).settle else s

/-- MISS: the dish's report window closes without a valid report, its count rises, and at 20 the loss is taken in the same event (R20,
R31, R32). -/
def execMiss (d : DishId) (s : State) : Host.Outcome State Fault Refusal :=
  event s (if s.awaits d then (s.closeWindow.countMiss d).judgeLoss d else s)

/-- LOSS_OF_DISH: a present dish whose miss count stands at 20 goes OFFLINE (R16). A MISS takes the loss itself, so that this
row finds one to take only where none has been (log 15). -/
def execLossOfDish (d : DishId) (s : State) : Host.Outcome State Fault Refusal := event s (s.judgeLoss d)

/-- ADMISSION_ROUND: one round, and those that its own releases ask for (R119; log 7). -/
def execAdmissionRound (s : State) : Host.Outcome State Fault Refusal := event s s.admissionRound.settle

/-- POWERING_SCAN: the walk of the Melt Rotation List (R133). -/
def execPoweringScan (s : State) : Host.Outcome State Fault Refusal := event s s.poweringScan

end Sys2Proof.Machine
end

