-- ==== Sys2Proof/Machine/TimerSteps.lean ====
section
/-! DEFINITION. TimerSteps.lean: the expiries of the blocks' own timers in ms and s (section 3.3): staleness, hold-off, melt
slot, meter and seconds count (R93, R110, R135, R136, R144). -/

namespace Sys2Proof.Machine

/-- The time at which a timer expires has come: the clock stands at it, or has passed it (log 9, log 16). -/
def State.passTo (s : State) (expires : Nat) : State := { s with clock := max s.clock expires }

/-- A mast silent for its staleness period: STALE, level none, timer stopped, mean and gust kept (R93). -/
def Mast.silenced (m : Mast) : Mast := { m with state := .stale, level := none, timer := none }

/-- The answers to a staleness expiry: snapshot, trip-seen flag, and the stale-count trigger where the count stands at or
above the trip (R93, R95, R96, R98), else the judgements of WATCH and of the release condition (R99, R110). -/
def State.goStale (s : State) (m : MastId) : State :=
  let former := s.snapOf m
  let s := (((s.setMast m s.wind.masts[m].silenced).offerSnapshot m former).noteTrip m former.level)
  if s.settings.wind.staleTrip ≤ s.staleCount then s.plainTrigger else s.judgeWeather

/-- MAST_STALENESS_EXPIRY: the running timer of a configured mast in LIVE or NOT_SEEN expires (R93). -/
def execMastStalenessExpiry (m : MastId) (s : State) : Host.Outcome State Fault Refusal :=
  event s <|
    match s.wind.masts[m].timer with
    | none => s
    | some t =>
      if s.settings.mastConfigured[m] ∧ s.wind.masts[m].state ≠ .stale then ((s.passTo t).goStale m).settle else s

/-- HOLD_OFF_EXPIRY: in CALM_WAIT the hold-off timer expires and the state becomes CLEAR (R110, R112). -/
def execHoldOffExpiry (s : State) : Host.Outcome State Fault Refusal :=
  event s <|
    match s.stow.holdOff with
    | none => s
    | some t => if s.stow.state = .calmWait then (s.passTo t).enterClear.settle else s

/-- Some zone of the Melt Rotation List other than the one named is WAITING (R135). -/
def State.anotherWaits (s : State) (z : ZoneId) : Bool :=
  s.melt.rotation.any fun x => decide (x ≠ z) && decide ((s.zone x).state = .waiting)

/-- A zone moved from its place in the Melt Rotation List to the tail (R128, R135). -/
def State.toTail (s : State) (z : ZoneId) : State :=
  if s.melt.rotation.contains z then
    { s with melt := { s.melt with rotation := (s.melt.rotation.filter fun x => decide (x ≠ z)) ++ [z] } }.askScan
  else s

/-- A slot expiry: the zone gives way to a WAITING one and goes to the tail, or its timer restarts (R135). -/
def State.slotExpired (s : State) (z : ZoneId) : State :=
  if s.anotherWaits z then ((s.unpower z .waiting).toTail z).settle
  else s.setZone z fun x => { x with timer := some (s.clock + s.settings.melt.slot * 1000) }

/-- MELT_SLOT_EXPIRY: the slot timer of a POWERED zone expires (R135). -/
def execMeltSlotExpiry (z : ZoneId) (s : State) : Host.Outcome State Fault Refusal :=
  event s <|
    match (s.zone z).timer with
    | none => s
    | some t => if (s.zone z).state = .powered then (s.passTo t).slotExpired z else s

/-- One POWERED zone charged at the meter expiry, and completed where the charge finds it spent (R136, R137). -/
def State.meterZone (s : State) (z : ZoneId) : State :=
  if (s.zone z).state = .powered then
    let s := s.chargeZone z
    if (s.zone z).remaining = 0 then s.unpower z .idle else s
  else s

/-- The meter timer restarted for its next period of 1 s (R136). -/
def State.restartMeter (s : State) : State :=
  { s with melt := { s.melt with meterTimer := s.melt.meterTimer + 1000 } }

/-- METER_TIMER_EXPIRY: every POWERED zone is charged, and the timer runs on (R136). -/
def execMeterTimerExpiry (s : State) : Host.Outcome State Fault Refusal :=
  event s (allZones.foldl State.meterZone (s.passTo s.melt.meterTimer).restartMeter).settle

/-- SECONDS_COUNT_TICK: the seconds count rises by 1, 2^32 - 1 being followed by 0 (R144). -/
def execSecondsCountTick (s : State) : Host.Outcome State Fault Refusal :=
  event s <|
    let s := s.passTo s.locks.secondTimer
    { s with locks := { s.locks with seconds := s.locks.seconds + 1, secondTimer := s.locks.secondTimer + 1000 } }

end Sys2Proof.Machine
end

