-- ==== Sys2Proof/Machine/TrackRequests.lean ====
section
/-! DEFINITION. TrackRequests.lean: the requests on a track stream: PUSH TRACK, FLUSH TRACK and CLEAR TRACK FAULT (R77 to R79,
R86, R87). -/

namespace Sys2Proof.Machine

/-- A stream's state as the three requests answer it (section 5.2). Its two marks take a byte each (log 11). -/
def Stream.endField (x : Stream) : List Byte :=
  u8 x.buffer.length ++ opt FaultLock.field x.lock ++ u8 x.coast ++ flag x.starved ++ flag x.finish

/-- A request on a stream served: the slot must hold a streaming group (section 5.2). -/
def State.onStream (s : State) (src : Sender) (r : Request) (g : SlotId) (take : State) : State :=
  if (s.group g).streaming then take else s.refuse src r .wrongState

/-! ## PUSH TRACK (R77) -/

/-- An entry as the buffer holds it, if its increments lie in range (R77, R178). -/
def entryOf (e : EntryFields) : Option TrackEntry :=
  if -400 ≤ e.az ∧ e.az ≤ 400 ∧ -400 ≤ e.el ∧ e.el ≤ 400 then some ⟨e.az, e.el, e.flags.getLsbD 0⟩ else none

/-- What the walk over a push has accepted, and the status with which it ended. -/
structure Pushed where
  accepted : List TrackEntry
  status : Status
  deriving DecidableEq, Repr

/-- The walk of a push into a buffer that holds the load given: the entries accepted, up to the first bad one or the 64th
place (R77). -/
def pushWalk : Nat → List EntryFields → Pushed
  | _, [] => ⟨[], .ok⟩
  | load, e :: es =>
    match entryOf e with
    | none => ⟨[], .badField⟩
    | some x =>
      if 64 ≤ load then ⟨[], .full⟩
      else
        let rest := pushWalk (load + 1) es
        ⟨x :: rest.accepted, rest.status⟩

/-- The first entry accepted revives a starved group (R77, R86). -/
def State.revive (s : State) (g : SlotId) : State :=
  if (s.group g).state = .trackHalted ∧ (s.stream g).starved then
    (s.setStream g fun x => { x with starved := false, coast := 0 }).setGroupState g .tracking
  else s

/-- Accepted entries join the buffer at its tail; a load above the low mark clears the low reported mark (R77, R87), in every state of
a streaming group (log 43). -/
def State.pushEntries (s : State) (g : SlotId) (es : List TrackEntry) : State :=
  if es = [] then s
  else
    (s.setStream g fun x =>
      { x with
        buffer := x.buffer ++ es
        lowReported := x.lowReported && decide (x.buffer.length + es.length ≤ s.settings.track.lowMark) }).revive g

/-- PUSH TRACK (R77). The entry count is judged before the streaming group is asked for (log 17). -/
def execPushTrack (src : Sender) (body : Body PushTrackFields) (s : State) : Host.Outcome State Fault Refusal :=
  serve src .pushTrack body s fun f => s.onSlot src .pushTrack f.slot fun g =>
    if f.count < 1 ∨ 16 < f.count ∨ f.count ≠ f.entries.length then s.refuse src .pushTrack .badField
    else
      s.onStream src .pushTrack g <|
        let p := pushWalk (s.stream g).buffer.length f.entries
        let s := s.pushEntries g p.accepted
        s.answer src .pushTrack p.status (u8 p.accepted.length ++ (s.stream g).endField)

/-! ## FLUSH TRACK (R78) -/

/-- The flush of a streaming group: buffer, fault lock and low reported mark cleared; a fault-locked TRACK_HALTED group
returns to TRACKING (R78). -/
def State.flush (s : State) (g : SlotId) : State :=
  let t := s.setStream g fun x => { x with buffer := [], lock := none, lowReported := false }
  if (s.group g).state = .trackHalted ∧ (s.stream g).lock.isSome then t.setGroupState g .tracking else t

/-- FLUSH TRACK (R78). -/
def execFlushTrack (src : Sender) (body : Body SlotFields) (s : State) : Host.Outcome State Fault Refusal :=
  serve src .flushTrack body s fun f => s.onSlot src .flushTrack f.slot fun g =>
    s.onStream src .flushTrack g <|
      let s := s.flush g
      s.answer src .flushTrack .ok (s.stream g).endField

/-! ## CLEAR TRACK FAULT (R79) -/

/-- The failed entry removed with its lock, the low reported mark set where the load is at or below the mark, and a
TRACK_HALTED group back in TRACKING (R79, R87). -/
def State.clearFault (s : State) (g : SlotId) : State :=
  let t := s.setStream g fun x =>
    { x with
      buffer := x.buffer.tail, lock := none
      lowReported := x.lowReported || decide (x.buffer.tail.length ≤ s.settings.track.lowMark) }
  if (s.group g).state = .trackHalted then t.setGroupState g .tracking else t

/-- CLEAR TRACK FAULT (R79). -/
def execClearTrackFault (src : Sender) (body : Body SlotFields) (s : State) : Host.Outcome State Fault Refusal :=
  serve src .clearTrackFault body s fun f => s.onSlot src .clearTrackFault f.slot fun g =>
    s.onStream src .clearTrackFault g <|
      if (s.stream g).lock = none then s.refuse src .clearTrackFault .wrongState
      else
        let s := s.clearFault g
        s.answer src .clearTrackFault .ok (s.stream g).endField

end Sys2Proof.Machine
end

