-- ==== Sys2Proof/Machine/WeatherRequests.lean ====
section
/-! DEFINITION. WeatherRequests.lean: WIND SAMPLE, STOW ARRAY, RELEASE STOW, RESET WEATHER SNAPSHOT and READ WEATHER (R92, R94,
R97, R99, R111, R114). -/

namespace Sys2Proof.Machine

/-! ## WIND SAMPLE (R92, R94) -/

/-- The level of a sample as taken (R94). -/
def levelOf (w : WindSettings) (mean gust : Nat) : Level :=
  if w.tripGust ≤ gust then .trip
  else if w.watchMean ≤ mean then .watch
  else if w.releaseGust ≤ gust then .elevated
  else .calm

/-- The mast of an index, if it is below 6 and the mast is configured (R92). -/
def State.sampledMast (s : State) (n : Nat) : Option MastId :=
  if h : n < 6 then if s.settings.mastConfigured[n] then some ⟨n, h⟩ else none else none

/-- The mean as taken (R92, step 1). -/
def takenMean (mean : Nat) : Nat := min 1000 mean

/-- The gust as taken (R92, steps 1 and 2). -/
def takenGust (mean gust : Nat) : Nat := max (min 1000 gust) (takenMean mean)

/-- A mast after a sample (R92, steps 3 to 6). -/
def State.sampled (s : State) (mean gust : Nat) : Mast :=
  { state := .live, mean := mean, gust := gust, level := some (levelOf s.settings.wind mean gust)
    timer := some (s.clock + s.settings.wind.staleness * 1000) }

/-- The Stow Controller's answer to a sample: the trip trigger where the mast enters TRIP, else the judgements of WATCH and of
the release condition where its state or level has changed (R98, R99, R110). -/
def State.answerSample (s : State) (m : MastId) (former : SnapEntry) : State :=
  if former.level ≠ some .trip ∧ s.wind.masts[m].level = some .trip then s.tripTrigger m
  else if former ≠ s.snapOf m then s.judgeWeather
  else s

/-- A sample taken (R92, R95, R96). -/
def State.takeSample (s : State) (m : MastId) (mean gust : Nat) : State :=
  let former := s.snapOf m
  (((s.setMast m (s.sampled mean gust)).offerSnapshot m former).noteTrip m former.level).answerSample m former

/-- WIND SAMPLE (R92). -/
def execWindSample (src : Sender) (body : Body WindSampleFields) (s : State) : Host.Outcome State Fault Refusal :=
  serve src .windSample body s fun f =>
    match s.sampledMast f.mast with
    | none => s.refuse src .windSample .badField
    | some m =>
      let mean := takenMean f.mean
      let gust := takenGust f.mean f.gust
      (s.takeSample m mean gust).settle.answer src .windSample .ok
        (u16 mean ++ u16 gust ++ u8 (levelOf s.settings.wind mean gust).place)

/-! ## STOW ARRAY and RELEASE STOW (R111) -/

/-- STOW ARRAY: the manual trigger; the response gives the stow state after the request (R111). -/
def execStowArray (src : Sender) (body : Body NoFields) (s : State) : Host.Outcome State Fault Refusal :=
  serve src .stowArray body s fun _ =>
    let s := s.plainTrigger.settle
    s.answer src .stowArray .ok (u8 s.stow.state.place)

/-- RELEASE STOW (R111). -/
def execReleaseStow (src : Sender) (body : Body NoFields) (s : State) : Host.Outcome State Fault Refusal :=
  serve src .releaseStow body s fun _ =>
    match s.stow.state with
    | .calmWait => s.enterClear.settle.answer src .releaseStow .ok []
    | .stowedHold => s.refuse src .releaseStow .conditionActive
    | .clear | .watch | .active => s.refuse src .releaseStow .wrongState

/-! ## RESET WEATHER SNAPSHOT (R97) -/

/-- The snapshot opened and every trip-seen flag cleared (R97). -/
def State.openSnapshot (s : State) : State :=
  { s with wind := { s.wind with snapOpen := true, tripSeen := Vector.replicate 6 false } }

/-- The lowest-numbered mast that differs from its snapshot entry (R97). -/
def State.differingMast (s : State) : Option MastId := allMasts.find? fun m => decide (s.wind.snapshot[m] ≠ s.snapOf m)

/-- RESET WEATHER SNAPSHOT: opened, and captured at once where some mast differs (R97). -/
def execResetWeatherSnapshot (src : Sender) (body : Body NoFields) (s : State) : Host.Outcome State Fault Refusal :=
  serve src .resetWeatherSnapshot body s fun _ =>
    let s := s.openSnapshot
    let s :=
      match s.differingMast with
      | some m => s.capture m s.wind.snapshot[m]
      | none => s
    s.answer src .resetWeatherSnapshot .ok (u8 (!s.wind.snapOpen).toNat)

/-! ## READ WEATHER (R114) -/

/-- A timer: the ms remaining, or none when stopped. -/
def State.timerField (s : State) (t : Option Nat) : List Byte := opt (fun x => u32 (s.msLeft x)) t

/-- A level that may be none. -/
def levelField (l : Option Level) : List Byte := opt (fun x => u8 (Level.place x)) l

/-- A mast record (R114). -/
def State.mastField (s : State) (m : MastId) : List Byte :=
  let x := s.wind.masts[m]
  flag s.settings.mastConfigured[m] ++ u8 x.state.place ++ u16 x.mean ++ u16 x.gust ++ levelField x.level
    ++ s.timerField x.timer

/-- A snapshot entry (R95). -/
def SnapEntry.field (x : SnapEntry) : List Byte := flag x.configured ++ u8 x.state.place ++ levelField x.level

/-- The snapshot, trip-seen flags and stale count (R114; open 0, closed 1, log 11). -/
def State.snapshotField (s : State) : List Byte :=
  u8 (!s.wind.snapOpen).toNat ++ frameField s.wind.captureFrame ++ s.wind.snapshot.toList.flatMap SnapEntry.field
    ++ u8 (maskField s.wind.tripSeen.toList) ++ u8 s.staleCount

/-- A STOWING dish with its start frame, or none, and its deadline (R114). -/
def State.stowMoveField (s : State) (d : DishId) : List Byte :=
  match s.stow.moves[d] with
  | none => []
  | some m => u8 d.val ++ opt frameField m.start ++ frameField m.deadline

/-- The STOWING dishes, ascending (log 45). -/
def State.stowingDishes (s : State) : List DishId :=
  allDishes.filter fun d => decide ((s.dish d).motion = .stowing) && s.stow.moves[d].isSome

/-- The marked dishes, BLOCKED and UNREACHABLE ones in one list, ascending (log 45). -/
def State.markedDishes (s : State) : List DishId := allDishes.filter fun d => decide (s.mark d ≠ .none)

/-- The Stow Controller's part of READ WEATHER (R114; the order within its lists, log 45). -/
def State.stowField (s : State) : List Byte :=
  u8 s.stow.state.place ++ s.timerField s.stow.holdOff ++ list (fun m : MastId => u8 m.val) s.stow.tripOrder
    ++ list (fun d : DishId => u8 d.val) s.stow.queue ++ list s.stowMoveField s.stowingDishes
    ++ list (fun d => u8 d.val ++ u8 (s.mark d).place) s.markedDishes

/-- READ WEATHER (R114). -/
def execReadWeather (src : Sender) (body : Body NoFields) (s : State) : Host.Outcome State Fault Refusal :=
  serve src .readWeather body s fun _ =>
    s.answer src .readWeather .ok (allMasts.flatMap s.mastField ++ s.snapshotField ++ s.stowField)

end Sys2Proof.Machine
end

