-- ==== Sys2Proof/Machine/Dispatch.lean ====
section
/-! DEFINITION. Dispatch.lean: the meaning of each step of the opcode table, one arm per constructor of Instr. -/

namespace Sys2Proof.Machine

/-- The effect of a step on everything but the queue of waiting steps. -/
def exec (i : Instr) (s : State) : Host.Outcome State Fault Refusal :=
  match i with
  | .powerOnReset => Sys2Proof.Machine.execPowerOnReset s
  | .frameStart => Sys2Proof.Machine.execFrameStart s
  | .commandSend dish => Sys2Proof.Machine.execCommandSend dish s
  | .validReport dish report => Sys2Proof.Machine.execValidReport dish report s
  | .miss dish => Sys2Proof.Machine.execMiss dish s
  | .lossOfDish dish => Sys2Proof.Machine.execLossOfDish dish s
  | .loadAckLimit slot => Sys2Proof.Machine.execLoadAckLimit slot s
  | .arrivalGrace slot => Sys2Proof.Machine.execArrivalGrace slot s
  | .orderExpiry tag => Sys2Proof.Machine.execOrderExpiry tag s
  | .stowMoveTimeout dish => Sys2Proof.Machine.execStowMoveTimeout dish s
  | .shedMoveTimeout dish => Sys2Proof.Machine.execShedMoveTimeout dish s
  | .admissionRound => Sys2Proof.Machine.execAdmissionRound s
  | .poweringScan => Sys2Proof.Machine.execPoweringScan s
  | .mastStalenessExpiry mast => Sys2Proof.Machine.execMastStalenessExpiry mast s
  | .holdOffExpiry => Sys2Proof.Machine.execHoldOffExpiry s
  | .meltSlotExpiry zone => Sys2Proof.Machine.execMeltSlotExpiry zone s
  | .meterTimerExpiry => Sys2Proof.Machine.execMeterTimerExpiry s
  | .secondsCountTick => Sys2Proof.Machine.execSecondsCountTick s
  | .linkTimeout link => Sys2Proof.Machine.execLinkTimeout link s
  | .maintenanceLinkTimeout station => Sys2Proof.Machine.execMaintenanceLinkTimeout station s
  | .fetchResponse src => Sys2Proof.Machine.execFetchResponse src s
  | .unknownRequest src code => Sys2Proof.Machine.execUnknownRequest src code s
  | .openOrder src body => Sys2Proof.Machine.execOpenOrder src body s
  | .addMembers src body => Sys2Proof.Machine.execAddMembers src body s
  | .commitOrder src body => Sys2Proof.Machine.execCommitOrder src body s
  | .cancelOrder src body => Sys2Proof.Machine.execCancelOrder src body s
  | .holdGroup src body => Sys2Proof.Machine.execHoldGroup src body s
  | .resumeGroup src body => Sys2Proof.Machine.execResumeGroup src body s
  | .releaseGroup src body => Sys2Proof.Machine.execReleaseGroup src body s
  | .abortGroup src body => Sys2Proof.Machine.execAbortGroup src body s
  | .pushTrack src body => Sys2Proof.Machine.execPushTrack src body s
  | .flushTrack src body => Sys2Proof.Machine.execFlushTrack src body s
  | .clearTrackFault src body => Sys2Proof.Machine.execClearTrackFault src body s
  | .readGroup src body => Sys2Proof.Machine.execReadGroup src body s
  | .readQueue src body => Sys2Proof.Machine.execReadQueue src body s
  | .windSample src body => Sys2Proof.Machine.execWindSample src body s
  | .stowArray src body => Sys2Proof.Machine.execStowArray src body s
  | .releaseStow src body => Sys2Proof.Machine.execReleaseStow src body s
  | .resetWeatherSnapshot src body => Sys2Proof.Machine.execResetWeatherSnapshot src body s
  | .readWeather src body => Sys2Proof.Machine.execReadWeather src body s
  | .setAllowance src body => Sys2Proof.Machine.execSetAllowance src body s
  | .setMeltGuard src body => Sys2Proof.Machine.execSetMeltGuard src body s
  | .readFeeder src body => Sys2Proof.Machine.execReadFeeder src body s
  | .meltOrder src body => Sys2Proof.Machine.execMeltOrder src body s
  | .cancelMelt src body => Sys2Proof.Machine.execCancelMelt src body s
  | .readMelt src body => Sys2Proof.Machine.execReadMelt src body s
  | .writeConfigDish src body => Sys2Proof.Machine.execWriteConfigDish src body s
  | .writeConfigMast src body => Sys2Proof.Machine.execWriteConfigMast src body s
  | .writeConfigWind src body => Sys2Proof.Machine.execWriteConfigWind src body s
  | .writeConfigTrack src body => Sys2Proof.Machine.execWriteConfigTrack src body s
  | .writeConfigMelt src body => Sys2Proof.Machine.execWriteConfigMelt src body s
  | .writeConfigStation src body => Sys2Proof.Machine.execWriteConfigStation src body s
  | .readConfig src body => Sys2Proof.Machine.execReadConfig src body s
  | .driveReset src body => Sys2Proof.Machine.execDriveReset src body s
  | .placeLock src body => Sys2Proof.Machine.execPlaceLock src body s
  | .releaseLock src body => Sys2Proof.Machine.execReleaseLock src body s
  | .readLocks src body => Sys2Proof.Machine.execReadLocks src body s
  | .censusComplete src body => Sys2Proof.Machine.execCensusComplete src body s
  | .readDish src body => Sys2Proof.Machine.execReadDish src body s
  | .takeAttention src body => Sys2Proof.Machine.execTakeAttention src body s
  | .endAttention src body => Sys2Proof.Machine.execEndAttention src body s
  | .setAttentionMask src body => Sys2Proof.Machine.execSetAttentionMask src body s
  | .readViolation src body => Sys2Proof.Machine.execReadViolation src body s
  | .portReset src body => Sys2Proof.Machine.execPortReset src body s
  | .resetPinAsserted => Sys2Proof.Machine.execResetPinAsserted s
  | .badFrame src first => Sys2Proof.Machine.execBadFrame src first s

end Sys2Proof.Machine
end

