-- ==== Sys2Proof/Machine/Step.lean ====
section
/-! DEFINITION. Step.lean: one step of the block: the step at the front of the queue, or 1 ms that passes. -/

namespace Sys2Proof.Machine

/-- 1 ms passes with no step taken: the timers run on, unless the reset pin is held (section 3.3, R171; log 21). -/
def State.idle (s : State) : State := if s.resetHeld then s else { s with clock := s.clock + 1 }

/-- One step: the front of the queue is taken and run on the queue's rest; on an empty queue the block idles (log 21). -/
def step (s : State) : Host.Outcome State Fault Refusal :=
  match s.pending with
  | [] => .next s.idle
  | i :: rest => exec i { s with pending := rest }

/-- The step that a table word spells, put at the front of the queue; the table spells none (log 1). -/
def State.withFetchWord (s : State) (nbits w : Nat) : State :=
  match decodeTableWord nbits w with
  | some i => { s with pending := i :: s.pending }
  | none => s

end Sys2Proof.Machine
end

