-- ==== Sys2Proof/Safety.lean ====
section
/-! DEFINITION. Safety.lean: the terms in which statements speak of a run: what one event's rounds and scans leave alone, who
waits for the feeder, what a frame start does to a stream, how long a request may be, and the invariants that every step keeps. -/

namespace Sys2Proof.Machine

/-! ## What the blocks' shared operations leave alone -/

/-- The reported fields of a dish record (R3). -/
structure Reported where
  az : Int
  el : Int
  moving : Bool
  brakesSet : Bool
  inPosition : Bool
  profileLoaded : Bool
  switchLock : Bool
  faultCode : Fin 16
  lastReport : Option Frame

/-- The reported fields of a record. -/
def Dish.reported (x : Dish) : Reported :=
  ⟨x.repAz, x.repEl, x.moving, x.brakesSet, x.inPosition, x.profileLoaded, x.switchLock, x.faultCode, x.lastReport⟩

/-- The state that the blocks' shared operations leave alone. -/
structure Fixed where
  settings : Settings
  reports : DishId → Reported
  frame : Frame
  framed : Vector Bool 48
  place : Nat
  window : Option DishId
  out : Option SentRecord
  miss : Vector Nat 48
  staging : Option Staging
  resetCommit : ResetCommit
  wind : Wind
  allowance : Nat
  guard : Nat
  locks : Locks
  ports : Ports
  clock : Nat
  resetHeld : Bool
  fresh : Nat
  waiting : List Instr
  meterTimer : Nat
  service : Source → Bool × Bool

/-- The fixed part of a state. -/
def State.fixed (s : State) : Fixed :=
  { settings := s.settings, reports := fun d => (s.dish d).reported, frame := s.ring.frame, framed := s.ring.framed
    place := s.ring.place, window := s.ring.window, out := s.ring.out, miss := s.ring.miss, staging := s.staging
    resetCommit := s.resetCommit
    wind := s.wind, allowance := s.feeder.allowance, guard := s.feeder.guard, locks := s.locks, ports := s.ports
    clock := s.clock, resetHeld := s.resetHeld, fresh := s.fresh, waiting := s.pending, meterTimer := s.melt.meterTimer
    service := fun x => ((s.source x).inService, (s.source x).enabled) }

/-- The second state is reached from the first by the blocks' shared operations: the fixed part is the same, orders leave the
queue at its head alone, no zone gains energy, no ice flag is set, no buffer grows, no overrun passes 15 and no pending flag is
cleared. -/
structure Within (s t : State) : Prop where
  fixed : t.fixed = s.fixed
  orders : t.orders <:+ s.orders
  energy : ∀ z, (t.zone z).remaining ≤ (s.zone z).remaining
  ice : ∀ d : DishId, t.melt.ice[d] = true → s.melt.ice[d] = true
  buffer : ∀ g, (t.stream g).buffer.length ≤ (s.stream g).buffer.length
  overrun : ∀ x, (s.source x).overrun ≤ 15 → (t.source x).overrun ≤ 15
  pending : ∀ x, (s.source x).pending = true → (t.source x).pending = true

/-! ## What rounds and scans spare -/

/-- A dish in this motion state is one that a round may set in motion. -/
def Motion.atCall : Motion → Bool
  | .idle | .engaged => true
  | .unknown | .stopping | .stowing | .stowed | .shedding | .fault | .offline => false

/-- A group in this state is one that a round may make or resume. -/
def GroupState.atCall : GroupState → Bool
  | .free | .resumeWait => true
  | .loading | .slewing | .tracking | .trackHalted | .positioned | .holding | .held => false

/-- All that the part holds on one dish's motion. -/
structure Hold where
  record : Dish
  slot : Command
  reservation : Option Reservation
  move : Option StowMove
  shedMove : Option ShedMove
  deriving DecidableEq, Repr

/-- What the part holds on a dish's motion: record, slot, reservation, move records. -/
def State.holdOf (s : State) (d : DishId) : Hold :=
  ⟨s.dish d, s.slot d, s.feeder.reservations[d], s.stow.moves[d], s.melt.shedMoves[d]⟩

/-- Between the two states nothing has happened to the dishes and groups that no round may take up, the lists of dishes and
groups apart; stow marks and trip order are the same, and so is the Stow Controller where it was not in ACTIVE. -/
structure SparesBut (ds : List DishId) (gs : List SlotId) (s t : State) : Prop where
  dish : ∀ d, d ∉ ds → (s.dish d).motion.atCall = false → t.holdOf d = s.holdOf d
  group : ∀ g, g ∉ gs → (s.group g).state.atCall = false → t.group g = s.group g ∧ t.stream g = s.stream g
  marks : t.stow.marks = s.stow.marks
  trips : t.stow.tripOrder = s.stow.tripOrder
  stow : s.stow.state ≠ .active → t.stow = s.stow

/-- Nothing is asked for any more within the step (log 7, log 38). -/
def State.Quiet (s : State) : Prop := s.judgeDue = false ∧ s.roundDue = false ∧ s.scanDue = false

/-- No contender but a stowing dish waits for the feeder: no order, no resumed group, no shed move (R119). -/
def State.NoContender (s : State) : Prop :=
  s.orders = [] ∧ s.melt.shedList = [] ∧ ∀ g, (s.group g).state ≠ .resumeWait

/-- The dish's report or miss is taken: the pin is released, the dish is present and framed, and its report window is open (R20, R31,
R171; log 22). -/
def ReportAwaited (d : DishId) (s : State) : Prop :=
  s.resetHeld = false ∧ (s.cfg d).present = true ∧ s.ring.framed[d] = true ∧ s.ring.window = some d

/-- A round would admit nobody: the stow is not in ACTIVE, and no contender waits or the census is INCOMPLETE (R104, R119, R155). -/
def NobodyAdmitted (s : State) : Prop := s.stow.state ≠ .active ∧ (s.NoContender ∨ s.censusDone = false)

/-! ## A frame start and the streams -/

/-- SPEED: an increment does not exceed the axis's vmax (R81). -/
def State.SpeedHolds (s : State) (d : DishId) : Axis → Int → Prop
  | .az, n => n.natAbs ≤ (s.cfg d).az.vmax
  | .el, n => n.natAbs ≤ (s.cfg d).el.vmax

/-- RANGE: the commanded position plus an increment lies within the axis range (R81). -/
def State.RangeHolds (s : State) (d : DishId) : Axis → Int → Prop
  | .az, n => -270000 ≤ (s.dish d).cmdAz + n ∧ (s.dish d).cmdAz + n ≤ 270000
  | .el, n => 15000 ≤ (s.dish d).cmdEl + n ∧ (s.dish d).cmdEl + n ≤ 90000

/-- Every question of the limits check about one dish is answered yes (R81). -/
def State.PassesCheck (s : State) (az el : Int) (d : DishId) : Prop :=
  s.SpeedHolds d .az az ∧ s.RangeHolds d .az az ∧ s.SpeedHolds d .el el ∧ s.RangeHolds d .el el

/-- The failure names the first no of the limits check over dishes in their order: AZ before EL, SPEED before RANGE (R81). -/
def State.FirstNo (s : State) (ds : List DishId) (az el : Int) (f : LimitFailure) : Prop :=
  (∃ before behind, ds = before ++ f.dish :: behind ∧ ∀ e ∈ before, s.PassesCheck az el e)
    ∧ match f.axis, f.kind with
      | .az, .speed => ¬ s.SpeedHolds f.dish .az az
      | .az, .range => s.SpeedHolds f.dish .az az ∧ ¬ s.RangeHolds f.dish .az az
      | .el, .speed => s.SpeedHolds f.dish .az az ∧ s.RangeHolds f.dish .az az ∧ ¬ s.SpeedHolds f.dish .el el
      | .el, .range =>
        s.SpeedHolds f.dish .az az ∧ s.RangeHolds f.dish .az az ∧ s.SpeedHolds f.dish .el el ∧ ¬ s.RangeHolds f.dish .el el

/-- Between the two states the source has been raised once, with the detail given: set pending, or its detail replaced and its
overrun counted to 15 (R166). -/
def RaisedOnce (x : Source) (d : Detail) (s t : State) : Prop :=
  t.source x = { s.source x with
    pending := true, detail := some d
    overrun := if (s.source x).pending = true then min 15 ((s.source x).overrun + 1) else (s.source x).overrun }

/-- The step from the first state to the second is a frame start that has changed nothing but the ring's frame, exchanges and slots,
the group and the stream of one slot, and the sources named (R19, R20; log 22). -/
structure StreamFrame (g : SlotId) (xs : List Source) (s t : State) : Prop where
  framed : ∀ d : DishId, t.ring.framed[d] = (s.cfg d).present
  others : ∀ k, k ≠ g → t.group k = s.group k ∧ t.stream k = s.stream k
  sources : ∀ x, x ∉ xs → t.source x = s.source x
  rest : t = { s with
    ring := { s.ring with
      frame := s.ring.frame + 1, framed := t.ring.framed, place := 0, window := none, slots := t.ring.slots }
    groups := t.groups, streams := t.streams, sources := t.sources }

/-! ## Requests -/

/-- The lengths, in bytes, that the fields of a request may have: R177's table, and R178's for the sections of WRITE CONFIG. -/
def lengthAllowed (r : Request) (fields : List Byte) : Bool :=
  let n := fields.length
  match r with
  | .fetchResponse | .readQueue | .stowArray | .releaseStow | .resetWeatherSnapshot | .readWeather | .readFeeder | .driveReset
  | .censusComplete | .takeAttention | .endAttention | .readViolation | .portReset => decide (n = 0)
  | .commitOrder | .holdGroup | .resumeGroup | .releaseGroup | .abortGroup | .flushTrack | .clearTrackFault | .readGroup
  | .readMelt | .readLocks | .readDish | .setAttentionMask => decide (n = 1)
  | .cancelOrder | .setAllowance | .setMeltGuard | .cancelMelt | .readConfig => decide (n = 2)
  | .releaseLock => decide (n = 4)
  | .openOrder | .windSample | .placeLock => decide (n = 5)
  | .meltOrder => decide (n = 6)
  | .addMembers => decide (n % 8 = 0 ∧ 8 ≤ n ∧ n ≤ 64)
  | .pushTrack => decide (2 ≤ n ∧ (n - 2) % 5 = 0 ∧ n ≤ 2 + 5 * 16)
  | .writeConfig => decide ((fields.head?.map BitVec.toNat, n) ∈ [(some 0, 24), (some 1, 3), (some 2, 12), (some 3, 4),
      (some 4, 10), (some 5, 7)])

/-! ## Invariants -/

/-- Every reported position, as stored, lies within its axis range (R1). -/
def State.PositionsInRange (s : State) : Prop :=
  ∀ d, -270000 ≤ (s.dish d).repAz ∧ (s.dish d).repAz ≤ 270000 ∧ 15000 ≤ (s.dish d).repEl ∧ (s.dish d).repEl ≤ 90000

/-- The feeder is not overdrawn: heaters and reservations together fit the allowance or no heater is powered (R118), and
reservations alone exceed it only while the over-commit mark is set (R123). The power order names the POWERED zones, each once
(R115). -/
def State.FeederLawful (s : State) : Prop :=
  (s.feeder.h = 0 ∨ s.feeder.d + s.feeder.h ≤ s.feeder.allowance)
    ∧ (s.feeder.allowance < s.feeder.d → s.feeder.overCommit ≠ none)
    ∧ (∀ z, (s.zone z).state = .powered ↔ z ∈ s.feeder.powerOrder.map (·.zone))
    ∧ (s.feeder.powerOrder.map (·.zone)).Nodup

/-- No dish has more than eight lock entries, and no two entries have the same dish and tag (R145). -/
def State.LocksLawful (s : State) : Prop :=
  (∀ d, s.countLocks (fun e => decide (e.dish = d)) ≤ 8)
    ∧ ∀ (i j : Fin 96) (a b : LockEntry), s.locks.entries[i] = some a → s.locks.entries[j] = some b → a.dish = b.dish →
        a.tag = b.tag → i = j

/-- Every list and count stands within its capacity. A list of dishes, masts or zones in which none stands twice holds no more than
there are: Stow Queue 48 and trip order 6 (R98), Shed List 48 (R138), Melt Rotation List 144 (R128). The others have their counts:
Order Queue (R37), member lists, also of an order held for a COMMIT ORDER (R36, R37, R45, R175), miss
counts (R32), track buffers and coast counters (R75), zone energies and
carries (R127), overrun counts (R166), violation counts (R164). Of the power order FeederLawful speaks, of the Lock Table
LocksLawful. -/
structure State.WithinCapacity (s : State) : Prop where
  orders : s.orders.length ≤ 16
  staged : ∀ g, s.staging = some g → g.members.length ≤ 48
  toCommit : ∀ g, s.resetCommit = .holds g → g.members.length ≤ 48
  ordered : ∀ o ∈ s.orders, o.members.length ≤ 48
  grouped : ∀ g, (s.group g).members.length ≤ 48
  miss : ∀ d : DishId, s.ring.miss[d] ≤ 20
  buffers : ∀ g, (s.stream g).buffer.length ≤ 64
  coast : s.settings.track.coastLimit ≤ 40 ∧ ∀ g, (s.stream g).coast ≤ 40
  queue : s.stow.queue.Nodup
  trips : s.stow.tripOrder.Nodup
  shedList : (s.melt.shedList.map (·.dish)).Nodup
  rotation : s.melt.rotation.Nodup
  energy : ∀ z, (s.zone z).remaining ≤ 1000000000
  carry : ∀ z, (s.zone z).carry ≤ 9
  overrun : ∀ x, (s.source x).overrun ≤ 15
  violations : ∀ p, (s.violation p).refused ≤ 255 ∧ (s.violation p).linkTimeouts ≤ 255

end Sys2Proof.Machine
end

