-- ==== Sys2Proof/WellFormed.lean ====
section
/-! DEFINITION. WellFormed.lean: which steps the part can meet: each unsigned field fits its width (R177, R178), counts of
records fit the lengths allowed (R177), and codes and first bytes are such as R157 and R158 leave to their row. -/

namespace Sys2Proof

/-! ## Sender and request of a step -/

/-- The request of the catalogue that a step carries, with its sender. A FETCH RESPONSE executes nothing (R157) and a frame
refused by cases 1 to 4 of R158 is no request of the catalogue. -/
def Instr.request : Instr → Option (Sender × Request)
  | .powerOnReset | .frameStart | .commandSend _ | .validReport _ _ | .miss _ | .lossOfDish _ | .loadAckLimit _
  | .arrivalGrace _ | .orderExpiry _ | .stowMoveTimeout _ | .shedMoveTimeout _ | .admissionRound | .poweringScan
  | .mastStalenessExpiry _ | .holdOffExpiry | .meltSlotExpiry _ | .meterTimerExpiry | .secondsCountTick
  | .linkTimeout _ | .maintenanceLinkTimeout _ | .resetPinAsserted => none
  | .fetchResponse _ | .unknownRequest _ _ | .badFrame _ _ => none
  | .openOrder src _ => some (src, .openOrder)
  | .addMembers src _ => some (src, .addMembers)
  | .commitOrder src _ => some (src, .commitOrder)
  | .cancelOrder src _ => some (src, .cancelOrder)
  | .holdGroup src _ => some (src, .holdGroup)
  | .resumeGroup src _ => some (src, .resumeGroup)
  | .releaseGroup src _ => some (src, .releaseGroup)
  | .abortGroup src _ => some (src, .abortGroup)
  | .pushTrack src _ => some (src, .pushTrack)
  | .flushTrack src _ => some (src, .flushTrack)
  | .clearTrackFault src _ => some (src, .clearTrackFault)
  | .readGroup src _ => some (src, .readGroup)
  | .readQueue src _ => some (src, .readQueue)
  | .windSample src _ => some (src, .windSample)
  | .stowArray src _ => some (src, .stowArray)
  | .releaseStow src _ => some (src, .releaseStow)
  | .resetWeatherSnapshot src _ => some (src, .resetWeatherSnapshot)
  | .readWeather src _ => some (src, .readWeather)
  | .setAllowance src _ => some (src, .setAllowance)
  | .setMeltGuard src _ => some (src, .setMeltGuard)
  | .readFeeder src _ => some (src, .readFeeder)
  | .meltOrder src _ => some (src, .meltOrder)
  | .cancelMelt src _ => some (src, .cancelMelt)
  | .readMelt src _ => some (src, .readMelt)
  | .writeConfigDish src _ | .writeConfigMast src _ | .writeConfigWind src _ | .writeConfigTrack src _
  | .writeConfigMelt src _ | .writeConfigStation src _ => some (src, .writeConfig)
  | .readConfig src _ => some (src, .readConfig)
  | .driveReset src _ => some (src, .driveReset)
  | .placeLock src _ => some (src, .placeLock)
  | .releaseLock src _ => some (src, .releaseLock)
  | .readLocks src _ => some (src, .readLocks)
  | .censusComplete src _ => some (src, .censusComplete)
  | .readDish src _ => some (src, .readDish)
  | .takeAttention src _ => some (src, .takeAttention)
  | .endAttention src _ => some (src, .endAttention)
  | .setAttentionMask src _ => some (src, .setAttentionMask)
  | .readViolation src _ => some (src, .readViolation)
  | .portReset src _ => some (src, .portReset)

/-! ## Widths -/

/-- A field of one byte. -/
def byte1 (n : Nat) : Bool := decide (n < 256)

/-- A field of two bytes. -/
def byte2 (n : Nat) : Bool := decide (n < 65536)

/-- A field of three bytes. -/
def byte3 (n : Nat) : Bool := decide (n < 16777216)

/-- A signed field of two bytes. -/
def signed2 (x : Int) : Bool := decide (-32768 ≤ x) && decide (x < 32768)

/-- A signed field of four bytes. -/
def signed4 (x : Int) : Bool := decide (-2147483648 ≤ x) && decide (x < 2147483648)

/-- An item of WRITE CONFIG fits its width where it is carried. -/
def itemFits (fits : Nat → Bool) (x : Option Nat) : Bool := x.all fits

/-- A body is well formed: a wrong length, or fields that fit their widths. -/
def Body.fits {α : Type} (ok : α → Bool) : Body α → Bool
  | .fields f => ok f
  | .wrongLength => true

/-- An order member record (R178). -/
def MemberFields.fits (f : MemberFields) : Bool := byte1 f.dish && byte3 f.skyAz && byte3 f.el && byte1 f.wrap

/-- ADD MEMBERS: one to eight records (R36, R177). -/
def AddMembersFields.fits (f : AddMembersFields) : Bool :=
  decide (1 ≤ f.records.length) && decide (f.records.length ≤ 8) && f.records.all MemberFields.fits

/-- A track entry (R178). -/
def EntryFields.fits (e : EntryFields) : Bool := signed2 e.az && signed2 e.el

/-- PUSH TRACK: at most 16 entries (R177). -/
def PushTrackFields.fits (f : PushTrackFields) : Bool :=
  byte1 f.slot && byte1 f.count && decide (f.entries.length ≤ 16) && f.entries.all EntryFields.fits

/-- WRITE CONFIG, section DISH (R178). -/
def DishConfigFields.fits (f : DishConfigFields) : Bool :=
  byte1 f.dish && itemFits byte1 f.present && itemFits byte2 f.azVmax && itemFits byte1 f.azA && itemFits byte2 f.azRamp
    && itemFits byte2 f.azTrack && itemFits byte2 f.elVmax && itemFits byte1 f.elA && itemFits byte2 f.elRamp
    && itemFits byte2 f.elTrack && itemFits byte1 f.mast && itemFits byte1 f.stowRank && itemFits byte3 f.shedEl

/-- WRITE CONFIG, section WIND (R178). -/
def WindConfigFields.fits (f : WindConfigFields) : Bool :=
  itemFits byte2 f.tripGust && itemFits byte2 f.watchMean && itemFits byte2 f.releaseGust && itemFits byte1 f.staleness
    && itemFits byte1 f.staleTrip && itemFits byte2 f.holdOff

/-- WRITE CONFIG, section MELT (R178). -/
def MeltConfigFields.fits (f : MeltConfigFields) : Bool :=
  itemFits byte2 f.rim && itemFits byte2 f.inner && itemFits byte2 f.subref && itemFits byte2 f.slot

/-- A code that R158 refuses at case 4: no code of the catalogue. The code 0x00 is a FETCH RESPONSE (R157). -/
def unknownCode (c : Byte) : Bool := (Request.ofCode c).isNone

/-- A bad frame's first byte: none received whole, or one other than 0x00, which is a FETCH RESPONSE (R157). -/
def badFirst : Option Byte → Bool
  | none => true
  | some c => decide (c ≠ 0)

/-- A step that the part can meet. -/
def Instr.wellFormed : Instr → Bool
  | .validReport _ r => signed4 r.az && signed4 r.el
  | .orderExpiry tag => decide (1 ≤ tag) && byte2 tag
  | .unknownRequest _ c => unknownCode c
  | .badFrame _ first => badFirst first
  | .openOrder _ b => b.fits fun f => byte2 f.tag && byte1 f.action && byte2 f.deadline
  | .addMembers _ b => b.fits AddMembersFields.fits
  | .commitOrder _ b => b.fits fun f => byte1 f.count
  | .cancelOrder _ b => b.fits fun f => byte2 f.tag
  | .holdGroup _ b | .resumeGroup _ b | .releaseGroup _ b | .abortGroup _ b | .flushTrack _ b | .clearTrackFault _ b
  | .readGroup _ b => b.fits fun f => byte1 f.slot
  | .pushTrack _ b => b.fits PushTrackFields.fits
  | .windSample _ b => b.fits fun f => byte1 f.mast && byte2 f.mean && byte2 f.gust
  | .setAllowance _ b | .setMeltGuard _ b => b.fits fun f => byte2 f.value
  | .meltOrder _ b => b.fits fun f => byte1 f.dish && byte3 f.energy
  | .cancelMelt _ b => b.fits fun f => byte1 f.dish
  | .readMelt _ b | .readLocks _ b | .readDish _ b => b.fits fun f => byte1 f.dish
  | .writeConfigDish _ b => b.fits DishConfigFields.fits
  | .writeConfigWind _ b => b.fits WindConfigFields.fits
  | .writeConfigTrack _ b => b.fits fun f => itemFits byte1 f.coastLimit && itemFits byte1 f.lowMark
  | .writeConfigMelt _ b => b.fits MeltConfigFields.fits
  | .writeConfigStation _ b => b.fits fun f => f.addresses.toList.all (itemFits byte1)
  | .readConfig _ b => b.fits fun f => byte1 f.section_ && byte1 f.dish
  | .placeLock _ b => b.fits fun f => byte1 f.dish && byte1 f.scope && byte3 f.tag
  | .releaseLock _ b => b.fits fun f => byte1 f.dish && byte3 f.tag
  | .powerOnReset | .frameStart | .commandSend _ | .miss _ | .lossOfDish _ | .loadAckLimit _ | .arrivalGrace _
  | .stowMoveTimeout _ | .shedMoveTimeout _ | .admissionRound | .poweringScan | .mastStalenessExpiry _ | .holdOffExpiry
  | .meltSlotExpiry _ | .meterTimerExpiry | .secondsCountTick | .linkTimeout _ | .maintenanceLinkTimeout _
  | .resetPinAsserted | .fetchResponse _ => true
  | .readQueue _ _ | .stowArray _ _ | .releaseStow _ _ | .resetWeatherSnapshot _ _ | .readWeather _ _ | .readFeeder _ _
  | .writeConfigMast _ _ | .driveReset _ _ | .censusComplete _ _ | .takeAttention _ _ | .endAttention _ _
  | .setAttentionMask _ _ | .readViolation _ _ | .portReset _ _ => true

end Sys2Proof
end

