-- ==== Sys2Proof/Certificates/Slice0/Obligations.lean ====
section
/-! DEFINITION. Obligations.lean: what is claimed of the A48, for the provers. A request is taken when its sender is heard
(State.hears): the reset pin is not held and a station can be addressed (R160, R171). An event is taken when the pin is not held. -/

open Sys2Proof Sys2Proof.Machine

/-! ## Steps, reset, the pin -/

/-- The step at the front of the queue is run on the queue's rest. -/
def Obligations.StepRunsFront : Prop :=
  ∀ (i : Instr) (q : List Instr) (s : State), s.pending = i :: q → step s = exec i { s with pending := q }

/-- Power-on reset, from every state, leaves each block at its power-on values: every detail record is empty but that of
CENSUS_REQUIRED, which gives 0 entries (R6, R7, R19 to R21, R32, R35, R38, R45, R75, R90, R91, R95, R96, R98, R115, R126 to R128, R130,
R136, R138, R144, R155, R157, R160, R164, R166, R171). The capture frame of the weather snapshot, which the spec gives no power-on value
(log 8), is left out; the place of the frame's exchanges is the model's field (log 22). -/
def Obligations.PowerOnResetValues : Prop :=
  ∀ s : State, ∃ t, exec .powerOnReset s = .next t ∧ t.resetHeld = false
    ∧ (∀ d, (t.dish d).motion = .unknown ∧ (t.dish d).group = none ∧ (t.dish d).repAz = 0 ∧ (t.dish d).repEl = 15000
        ∧ (t.dish d).moving = false ∧ (t.dish d).brakesSet = false ∧ (t.dish d).inPosition = false
        ∧ (t.dish d).profileLoaded = false ∧ (t.dish d).switchLock = false ∧ (t.dish d).faultCode = 0
        ∧ (t.dish d).lastReport = none ∧ (t.dish d).cmdAz = 0 ∧ (t.dish d).cmdEl = 0)
    ∧ (∀ d, (t.cfg d).present = true ∧ (t.cfg d).az = ⟨150, 4, 90, 15⟩ ∧ (t.cfg d).el = ⟨75, 2, 70, 10⟩
        ∧ (t.cfg d).mast.val = d.val / 8 ∧ (t.cfg d).stowRank = 0 ∧ (t.cfg d).shedEl = 25000)
    ∧ t.ring.frame = 0 ∧ (∀ d : DishId, t.slot d = .keep ∧ t.ring.miss[d] = 0 ∧ t.ring.framed[d] = true)
    ∧ t.ring.place = 0 ∧ t.ring.window = none
    ∧ t.staging = none ∧ t.orders = []
    ∧ (∀ g, (t.group g).state = .free ∧ (t.group g).tag = 0 ∧ (t.group g).action = .position ∧ (t.group g).heldFrom = none
        ∧ (t.group g).t = 0 ∧ (t.group g).loadFrame = none ∧ (t.group g).startFrame = none
        ∧ (t.group g).arrivalFrame = none ∧ (t.group g).lastResult = .none ∧ (t.group g).members = [])
    ∧ (∀ g, (t.stream g).buffer = [] ∧ (t.stream g).lock = none ∧ (t.stream g).coast = 0 ∧ (t.stream g).lastAz = 0
        ∧ (t.stream g).lastEl = 0 ∧ (t.stream g).starved = false ∧ (t.stream g).finish = false
        ∧ (t.stream g).lowReported = false)
    ∧ t.settings.track = ⟨10, 16⟩ ∧ t.settings.wind = ⟨200, 120, 150, 10, 3, 600⟩
    ∧ (∀ m : MastId, t.settings.mastConfigured[m] = true
        ∧ t.wind.masts[m] = { state := .notSeen, mean := 0, gust := 0, level := none, timer := some (t.clock + 10 * 1000) }
        ∧ t.wind.snapshot[m] = { configured := true, state := .notSeen, level := none } ∧ t.wind.tripSeen[m] = false)
    ∧ t.wind.snapOpen = true
    ∧ t.stow.state = .clear ∧ t.stow.queue = [] ∧ t.stow.tripOrder = [] ∧ t.stow.holdOff = none
    ∧ (∀ d : DishId, t.mark d = .none ∧ t.stow.moves[d] = none)
    ∧ t.feeder.allowance = 1200 ∧ t.feeder.guard = 200 ∧ t.feeder.d = 0 ∧ t.feeder.powerOrder = []
    ∧ t.feeder.overCommit = none ∧ (∀ d : DishId, t.feeder.reservations[d] = none)
    ∧ t.settings.melt = ⟨120, 80, 15, 60⟩ ∧ t.melt.rotation = [] ∧ t.melt.shedList = []
    ∧ (∀ z, t.zone z = { state := .idle, remaining := 0, carry := 0, power := none, timer := none, lastCharge := none })
    ∧ (∀ d : DishId, t.melt.ice[d] = false ∧ t.melt.shedResult[d] = .none ∧ t.melt.shedMoves[d] = none)
    ∧ t.melt.meterTimer = t.clock + 1000
    ∧ (∀ p : Fin 96, t.locks.entries[p] = none) ∧ t.locks.census = .incomplete ∧ t.locks.seconds = 0
    ∧ (∀ src, t.holder src = none ∧ t.hears src = true) ∧ (∀ p, t.violation p = ⟨none, none, 0, 0⟩)
    ∧ (∀ n : StationId, t.settings.station[n] = ⟨0x48 + n.val, true⟩)
    ∧ (∀ x, (t.source x).pending = decide (x = .censusRequired) ∧ (t.source x).inService = false
        ∧ (t.source x).enabled = true ∧ (t.source x).overrun = 0
        ∧ (t.source x).detail = if x = .censusRequired then some (.censusRequired 0) else none)

/-- The invariants of Safety.lean hold right after reset. -/
def Obligations.ResetMeetsInvariants : Prop :=
  State.reset.PositionsInRange ∧ State.reset.FeederLawful ∧ State.reset.LocksLawful ∧ State.reset.WithinCapacity
    ∧ State.reset.Quiet

/-- RESET_PIN_ASSERTED sets the holding of the pin alone, and while the pin is held no step but POWER_ON_RESET changes anything
(R171; that a step in between has no effect is the model's choice, log 12). -/
def Obligations.PinHeldNothingActs : Prop :=
  (∀ s : State, exec .resetPinAsserted s = .next { s with resetHeld := true })
    ∧ ∀ (i : Instr) (s : State), s.resetHeld = true → i ≠ .powerOnReset → exec i s = .next s

/-! ## Frames and records (chapter 12) -/

/-- A request frame with a code other than 0x00 is read back as the request of its code with its fields (R158, R176, R177). -/
def Obligations.RequestFrameDecodes : Prop :=
  ∀ (src : Sender) (r : Request) (fields : List Byte), r ≠ .fetchResponse → fields.length ≤ 255 →
    decodeTransaction src (requestFrame r.code fields) false = some (decodeRequest src r fields)

/-- A status report of the dish and frame asked for is read back as a valid report with its positions, flags and fault code (R31,
R180, R181). -/
def Obligations.ReportRecordDecodes : Prop :=
  ∀ (d : DishId) (frame : Frame) (r : Report) (high : Fin 16), -2147483648 ≤ r.az → r.az < 2147483648 →
    -2147483648 ≤ r.el → r.el < 2147483648 →
    let flags : Byte := BitVec.ofNat 8 (r.moving.toNat + 2 * r.brakesSet.toNat + 4 * r.inPosition.toNat
      + 8 * r.profileLoaded.toNat + 16 * r.switchLock.toNat)
    let body := reportBody d frame r.az r.el flags (BitVec.ofNat 8 (16 * high.val + r.fault.val))
    decodeReport d frame (body ++ u16 (crc16 body).toNat) = .validReport d r

/-- What the part reads from a transaction or a report window is a well-formed step (R177, R178, R180). -/
def Obligations.DecodedStepsWellFormed : Prop :=
  (∀ (src : Sender) (bytes : List Byte) (incomplete : Bool) (i : Instr),
      decodeTransaction src bytes incomplete = some i → i.wellFormed = true)
    ∧ ∀ (d : DishId) (frame : Frame) (bytes : List Byte), (decodeReport d frame bytes).wellFormed = true

/-! ## Drive ring -/

/-- Frame start: the frame number rises by 1, present dishes are framed, and nothing is touched but the groups in TRACKING or
TRACK_HALTED, their members, and what the rounds that follow may take up (R19, R20, R80). That the frame start answers no deadline,
each deadline having a step of its own, is the model's choice (log 14); so is that it sets the place of the exchanges to the first and
closes a report window still open, whatever exchanges of the former frame are left (log 22). -/
def Obligations.FrameStartCounts : Prop :=
  ∀ s : State, s.resetHeld = false →
    let tracking := allSlots.filter fun g => decide ((s.group g).state = .tracking ∨ (s.group g).state = .trackHalted)
    ∃ t, exec .frameStart s = .next t ∧ t.ring.frame = s.ring.frame + 1
      ∧ (∀ d : DishId, t.ring.framed[d] = (s.cfg d).present)
      ∧ Within { s with ring := { s.ring with frame := s.ring.frame + 1, framed := t.ring.framed, place := 0, window := none } } t
      ∧ SparesBut (tracking.flatMap fun g => (s.group g).activeDishes) tracking s t

/-- The one TRACKING group at a frame start, its finish mark clear. The exit entry, where no fault lock is set: where every active member
passes SPEED and RANGE on both axes it is removed and written to them as TRACK STEP, a move-locked member's slot keeping its content
(R23), its LAST flag sets the finish mark, and a fall to the low mark raises TRACK_LOW once; else the lock is set with the first failure in
member order, AZ before EL, SPEED before RANGE, the entry stays, the group enters TRACK_HALTED with TRACK_FAULT, and no step is written.
A lock that is set already returns the group to TRACK_HALTED with TRACK_FAULT raised again, and no step is written (R80 to R83, R87,
R88). That the frame start changes nothing else, deadlines having steps of their own, is the model's choice (log 14), as are the place
and the window of its exchanges (log 22). -/
def Obligations.ExitEntryConsumed : Prop :=
  ∀ (s : State) (g : SlotId), s.resetHeld = false → s.Quiet → (s.group g).state = .tracking →
    (∀ k, k ≠ g → (s.group k).state ≠ .tracking ∧ (s.group k).state ≠ .trackHalted) → (s.stream g).finish = false →
    (∀ (e : TrackEntry) (rest : List TrackEntry), (s.stream g).lock = none → (s.stream g).buffer = e :: rest →
      let low := s.settings.track.lowMark
      let falls := low < rest.length + 1 ∧ rest.length ≤ low ∧ (s.stream g).lowReported = false
      ∃ t, exec .frameStart s = .next t
        ∧ ((∀ d ∈ (s.group g).activeDishes, s.PassesCheck e.az e.el d) →
            StreamFrame g [.trackLow] s t ∧ t.group g = s.group g
            ∧ t.stream g = { s.stream g with
                buffer := rest, lastAz := e.az, lastEl := e.el, coast := 0, finish := e.last
                lowReported := (s.stream g).lowReported || decide falls }
            ∧ (falls → RaisedOnce .trackLow (.trackLow g (s.group g).tag rest.length) s t)
            ∧ (¬ falls → t.source .trackLow = s.source .trackLow)
            ∧ ∀ d, t.slot d = if d ∈ (s.group g).activeDishes ∧ s.moveLocked d = false then .trackStep e.az e.el else s.slot d)
        ∧ ((∃ d ∈ (s.group g).activeDishes, ¬ s.PassesCheck e.az e.el d) →
            ∃ f, s.FirstNo (s.group g).activeDishes e.az e.el f
              ∧ StreamFrame g [.trackFault] s t ∧ t.group g = { s.group g with state := .trackHalted }
              ∧ t.stream g = { s.stream g with lock := some ⟨f, e.az, e.el⟩ } ∧ (∀ d, t.slot d = s.slot d)
              ∧ RaisedOnce .trackFault (.trackFault g (s.group g).tag ⟨f, e.az, e.el⟩ (rest.length + 1)) s t))
    ∧ ∀ l, (s.stream g).lock = some l →
      ∃ t, exec .frameStart s = .next t
        ∧ StreamFrame g [.trackFault] s t ∧ t.group g = { s.group g with state := .trackHalted }
        ∧ t.stream g = s.stream g ∧ (∀ d, t.slot d = s.slot d)
        ∧ RaisedOnce .trackFault (.trackFault g (s.group g).tag l (s.stream g).buffer.length) s t

/-- The one TRACKING or TRACK_HALTED group at a frame start. TRACKING with an empty buffer it repeats its last sent step while its coast
counter is below the coast limit and the step passes the check, and starves otherwise with zero steps and TRACK_STARVED (R80, R85, R86;
a counter above a limit lowered since taken as one at the limit, log 51).
TRACKING with the finish mark set it passes to POSITIONED: HOLD BRAKE to its active members, their reservations removed in one release,
after which the over-commit mark is judged, and the scan may power zones that wait (R80, R84, R123; judged once for all of them, log 38;
the scan within the step, log 7). TRACK_HALTED it is sent zero steps while its starved mark is set, and nothing else (R80). A move-locked
member's slot keeps its content where a step is written (R23). That the frame start changes nothing else, deadlines having steps of their
own, is the model's choice (log 14), as are the place and the window of its exchanges (log 22). -/
def Obligations.EmptyStreamCoastsStarvesOrFinishes : Prop :=
  ∀ (s : State) (g : SlotId), s.resetHeld = false →
    (∀ k, k ≠ g → (s.group k).state ≠ .tracking ∧ (s.group k).state ≠ .trackHalted) →
    let ds := (s.group g).activeDishes
    let steps := fun (t : State) (az el : Int) =>
      ∀ d, t.slot d = if d ∈ ds ∧ s.moveLocked d = false then .trackStep az el else s.slot d
    ((s.group g).state = .tracking → s.Quiet → (s.stream g).finish = false → (s.stream g).lock = none →
      (s.stream g).buffer = [] →
      let x := s.stream g
      let coasts := x.coast < s.settings.track.coastLimit
      let starves := fun (t : State) (cause : StarveCause) =>
        StreamFrame g [.trackStarved] s t ∧ t.group g = { s.group g with state := .trackHalted }
        ∧ t.stream g = { x with starved := true } ∧ steps t 0 0
        ∧ RaisedOnce .trackStarved (.trackStarved g (s.group g).tag cause x.coast) s t
      ∃ t, exec .frameStart s = .next t
        ∧ (coasts → (∀ d ∈ ds, s.PassesCheck x.lastAz x.lastEl d) →
            StreamFrame g [] s t ∧ t.group g = s.group g ∧ t.stream g = { x with coast := x.coast + 1 }
            ∧ steps t x.lastAz x.lastEl)
        ∧ (coasts → (∃ d ∈ ds, ¬ s.PassesCheck x.lastAz x.lastEl d) →
            ∃ f, s.FirstNo ds x.lastAz x.lastEl f ∧ starves t (.coastRange f))
        ∧ (¬ coasts → starves t .coastLimit))
    ∧ ((s.group g).state = .tracking → (s.stream g).finish = true →
      ∃ t, exec .frameStart s = .next t
        ∧ t.group g = { s.group g with state := .positioned }
        ∧ t.stream g = { s.stream g with buffer := [], finish := false }
        ∧ (t.source .groupArrived).pending = true
        ∧ (s.Quiet → NobodyAdmitted s →
            (∀ d, t.slot d = if d ∈ ds then .holdBrake else s.slot d)
            ∧ (∀ d : DishId, t.feeder.reservations[d] = if d ∈ ds then none else s.feeder.reservations[d])
            ∧ RaisedOnce .groupArrived (.groupArrived g (s.group g).tag .positioned (s.group g).active.length
                ((s.group g).members.length - (s.group g).active.length)) s t
            ∧ (let restored := (∃ d ∈ ds, s.feeder.reservations[d] ≠ none) ∧ t.feeder.d ≤ s.feeder.allowance
              (∀ c, s.feeder.overCommit = some c → restored →
                t.feeder.overCommit = none ∧ RaisedOnce .power (.powerRestored s.feeder.allowance t.feeder.d c) s t)
              ∧ (s.feeder.overCommit = none ∨ ¬ restored →
                t.feeder.overCommit = s.feeder.overCommit ∧ t.source .power = s.source .power))
            ∧ s.feeder.powerOrder <+: t.feeder.powerOrder
            ∧ (∀ z, t.zone z = s.zone z ∨ (s.zone z).state = .waiting ∧ (t.zone z).state = .powered)
            ∧ (∀ d : DishId, t.ring.framed[d] = (s.cfg d).present)
            ∧ (∀ k, k ≠ g → t.group k = s.group k ∧ t.stream k = s.stream k)
            ∧ (∀ y, y ≠ .groupArrived → y ≠ .power → t.source y = s.source y)
            ∧ t = { s with
                ring := { s.ring with
                  frame := s.ring.frame + 1, framed := t.ring.framed, place := 0, window := none, slots := t.ring.slots }
                groups := t.groups, streams := t.streams, sources := t.sources
                feeder := { s.feeder with
                  reservations := t.feeder.reservations, powerOrder := t.feeder.powerOrder
                  overCommit := t.feeder.overCommit }
                melt := { s.melt with zones := t.melt.zones } }))
    ∧ ((s.group g).state = .trackHalted → s.Quiet →
      ∃ t, exec .frameStart s = .next t
        ∧ StreamFrame g [] s t ∧ t.group g = s.group g ∧ t.stream g = s.stream g
        ∧ ((s.stream g).starved = true → steps t 0 0) ∧ ((s.stream g).starved = false → ∀ d, t.slot d = s.slot d))

/-- COMMAND_SEND to the present and framed dish whose exchange is the frame's next, no report window being open: its slot's command is
sent with the frame number, HOLD BRAKE in its place where the dish is move-locked and the slot holds KEEP, LOAD, GO or TRACK STEP; a
one-shot command returns the slot to KEEP; a TRACK STEP sent advances the commanded positions; the dish's report window opens; nothing
else changes (R4, R20, R22, R24). At any other time nothing is sent: that such a step changes nothing is the model's choice (log 22). -/
def Obligations.SendTakesTheSlot : Prop :=
  ∀ (d : DishId) (s : State), s.resetHeld = false →
    let exchanges := fun e : DishId => (s.cfg e).present = true ∧ s.ring.framed[e] = true
    let next := s.ring.window = none ∧ exchanges d ∧ s.ring.place ≤ d.val ∧ ∀ e, e < d → exchanges e → e.val < s.ring.place
    (next →
      let c := match s.slot d with
        | .keep | .load _ _ _ | .go _ | .trackStep _ _ => if s.moveLocked d then .holdBrake else s.slot d
        | .stop | .holdBrake => s.slot d
      ∃ t, exec (.commandSend d) s = .next t
        ∧ t.ring.out = some ⟨d, s.ring.frame, c⟩
        ∧ t.slot d = (match c with
            | .load _ _ _ | .go _ | .trackStep _ _ => .keep
            | .keep | .stop | .holdBrake => c)
        ∧ t.dish d = (match c with
            | .trackStep az el => { s.dish d with cmdAz := (s.dish d).cmdAz + az, cmdEl := (s.dish d).cmdEl + el }
            | .keep | .load _ _ _ | .go _ | .stop | .holdBrake => s.dish d)
        ∧ (∀ e, e ≠ d → t.slot e = s.slot e ∧ t.dish e = s.dish e)
        ∧ t = { s with
            ring := { s.ring with slots := t.ring.slots, out := t.ring.out, place := d.val + 1, window := some d }
            dishes := t.dishes })
    ∧ (¬ next → exec (.commandSend d) s = .next s)

/-- Only STOP or HOLD BRAKE is sent to a move-locked dish, whatever the step (R24). -/
def Obligations.LockedDishHearsStopOrHold : Prop :=
  ∀ (i : Instr) (s t : State) (r : SentRecord), exec i s = .next t → t.ring.out = some r → s.ring.out ≠ some r →
    s.moveLocked r.dish = true → r.command = .stop ∨ r.command = .holdBrake

/-- A valid report that comes in its dish's report window closes it and is stored: positions clamped to the axis ranges, flags and code
as reported, the present frame as last report frame, miss count 0. No other dish's report changes; of the lock entries only PENDING ones
of the dish change, to APPLIED; every other part that reports do not reach is kept (R1, R12, R20, R31, R148). A report outside its
dish's window is not taken; that such a step changes nothing is the model's choice (log 22). -/
def Obligations.ReportStored : Prop :=
  ∀ (d : DishId) (r : Report) (s : State),
    (ReportAwaited d s →
      ∃ t, exec (.validReport d r) s = .next t
        ∧ (t.dish d).reported = ⟨max (-270000) (min 270000 r.az), max 15000 (min 90000 r.el), r.moving, r.brakesSet,
            r.inPosition, r.profileLoaded, r.switchLock, r.fault, some s.ring.frame⟩
        ∧ t.ring.miss[d] = 0
        ∧ (∀ e : DishId, e ≠ d → (t.dish e).reported = (s.dish e).reported ∧ t.ring.miss[e] = s.ring.miss[e])
        ∧ (∀ p : Fin 96, t.locks.entries[p] = s.locks.entries[p]
            ∨ ∃ e, s.locks.entries[p] = some e ∧ e.dish = d ∧ e.state = .pending
                ∧ t.locks.entries[p] = some { e with state := .applied })
        ∧ t.fixed = { s.fixed with
            reports := t.fixed.reports, miss := t.ring.miss, window := none, locks := { s.locks with entries := t.locks.entries }
            fresh := t.fresh }
        ∧ t.orders <:+ s.orders ∧ (∀ z, (t.zone z).remaining ≤ (s.zone z).remaining))
    ∧ (¬ ReportAwaited d s → exec (.validReport d r) s = .next s)

/-! ## Reports, misses, losses -/

/-- A report with code 0 decides what a dish does next. A dish in no group: the first report of one UNKNOWN or OFFLINE, not braked and
still, stops it; braked and still, and nobody admitted, one UNKNOWN, STOPPING, in FAULT or OFFLINE stands in IDLE with its commanded
positions at the reported ones and KEEP, or HOLD BRAKE where it is move-locked, in its slot; one STOPPING or in FAULT that is not so stays
as it is; one IDLE seen moving is stopped, and one IDLE and not moving stays; one STOWED stays STOWED, STOP in its slot while it moves, HOLD
BRAKE again once it has braked; an OFFLINE dish's heat block ends (R11, R13 to R15, R17, R132). One UNREACHABLE that becomes STOPPING or
IDLE so in ACTIVE or STOWED_HOLD loses its mark and joins the tail of the Stow Queue, which returns STOWED_HOLD to ACTIVE; an IDLE one may
be taken to its stow move at once; a move-locked one is marked BLOCKED and does not join; in CALM_WAIT the mark is kept (R109). A member of
a POSITIONED, HELD or RESUME_WAIT group seen moving is stopped without leaving its group, its braked mark cleared (R54). A member stopped
so, or by a hold, and seen braked and still returns to ENGAGED with HOLD BRAKE and its braked mark, and a HOLDING group whose active members
all bear theirs is HELD (R14, R53). -/
def Obligations.ReportsStopOrReturn : Prop :=
  ∀ (d : DishId) (r : Report) (s : State), ReportAwaited d s → r.fault = 0 →
    let still := r.brakesSet = true ∧ r.moving = false
    let m := (s.dish d).motion
    ((s.dish d).group = none →
      ∃ t, exec (.validReport d r) s = .next t
        ∧ (m = .unknown ∨ m = .offline → ¬ still →
            (t.dish d).motion = .stopping ∧ t.slot d = .stop ∧ t.feeder.reservations[d] = none)
        ∧ (m = .unknown ∨ m = .stopping ∨ m = .fault ∨ m = .offline → still → NobodyAdmitted s → s.mark d = .none →
            (t.dish d).motion = .idle ∧ (t.dish d).cmdAz = (t.dish d).repAz ∧ (t.dish d).cmdEl = (t.dish d).repEl
              ∧ t.slot d = if t.moveLocked d then .holdBrake else .keep)
        ∧ (m = .stopping ∨ m = .fault → ¬ still → (t.dish d).motion = m ∧ t.slot d = s.slot d)
        ∧ (m = .idle → r.moving = true →
            (t.dish d).motion = .stopping ∧ t.slot d = .stop ∧ t.feeder.reservations[d] = none)
        ∧ (m = .idle → r.moving = false → s.Quiet → r.switchLock = (s.dish d).switchLock → s.lockRequested d = false →
            (t.dish d).motion = .idle ∧ t.slot d = s.slot d)
        ∧ (m = .stowed → (t.dish d).motion = .stowed
            ∧ (r.moving = true → t.slot d = .stop ∧ t.feeder.reservations[d] = none)
            ∧ (r.moving = false →
                t.slot d = if r.brakesSet = true ∧ s.slot d = .stop then .holdBrake else s.slot d))
        ∧ (m = .offline → r.switchLock = false → s.lockRequested d = false → s.appliedHeat d = 0 → s.censusDone = true →
            s.stow.state ≠ .active → s.mark d = .none → ∀ z : ZoneId, z.dish = d → (t.zone z).state ≠ .blocked)
        ∧ (s.mark d = .unreachable → s.queued d = false → s.lockRequested d = false →
            r.switchLock = (s.dish d).switchLock →
            let stops := (m = .unknown ∨ m = .offline) ∧ ¬ still
            let rests := (m = .unknown ∨ m = .stopping ∨ m = .fault ∨ m = .offline) ∧ still
            let rejoins := s.stow.state = .active ∨ s.stow.state = .stowedHold
            (stops → rejoins → s.moveLocked d = false →
              t.mark d = .none ∧ t.stow.state = .active ∧ ∃ q, q.Sublist s.stow.queue ∧ t.stow.queue = q ++ [d])
            ∧ (rests → rejoins → s.moveLocked d = false →
              t.mark d = .none ∧ ∃ q, q.Sublist s.stow.queue
                ∧ (t.stow.queue = q ++ [d] ∧ t.stow.state = .active ∧ (t.dish d).motion = .idle
                  ∨ t.stow.queue = q ∧ ((t.dish d).motion = .stowing ∨ (t.dish d).motion = .stowed)))
            ∧ (stops ∨ rests → rejoins → s.moveLocked d = true → t.mark d = .blocked ∧ t.queued d = false)
            ∧ (stops ∨ rests → s.stow.state = .calmWait → s.moveLocked d = false → t.stow = s.stow)))
    ∧ ∀ g, (s.dish d).group = some g → d ∈ (s.group g).activeDishes → r.switchLock = (s.dish d).switchLock →
      let marked := fun b : Bool => (s.group g).members.map fun m => if m.order.dish = d then { m with braked := b } else m
      ((s.group g).state = .positioned ∨ (s.group g).state = .held ∨ (s.group g).state = .resumeWait →
          (s.dish d).motion = .engaged → r.moving = true →
          ∃ t, exec (.validReport d r) s = .next t ∧ t.group g = { s.group g with members := marked false }
            ∧ (t.dish d).motion = .stopping ∧ (t.dish d).group = some g ∧ t.slot d = .stop
            ∧ t.feeder.reservations[d] = none)
      ∧ ((s.dish d).motion = .stopping → still → s.lockRequested d = false → s.mark d = .none →
          (s.group g).state = .holding ∨ (s.group g).state = .positioned ∨ (s.group g).state = .held
            ∨ (s.group g).state = .resumeWait ∧ NobodyAdmitted s →
          ∃ t, exec (.validReport d r) s = .next t
            ∧ t.group g = { s.group g with
                state := if (s.group g).state = .holding ∧ ∀ m ∈ (s.group g).active, m.order.dish = d ∨ m.braked = true then .held
                  else (s.group g).state
                members := marked true }
            ∧ (NobodyAdmitted s → (t.dish d).motion = .engaged ∧ (t.dish d).group = some g ∧ t.slot d = .holdBrake
                ∧ (t.dish d).cmdAz = (t.dish d).repAz ∧ (t.dish d).cmdEl = (t.dish d).repEl))

/-- Reports that end a dish's motion or change its locks. A fault code takes the dish from every motion state to FAULT, with STOP in its
slot, no reservation and no group (R10, R15, R49). A report braked and still of a dish neither STOWING nor queued applies every PENDING
entry of the dish, with LOCK_APPLIED, and holds an IDLE dish (R148). A switch lock newly set excludes a member with LOCAL_SWITCH, stops a
STOWING dish and marks it BLOCKED as it does a queued one, holds an IDLE dish and blocks the dish's zones (R152). One newly clear, with
no entry left, returns an IDLE dish's slot to KEEP, takes a BLOCKED dish back to the tail of the Stow Queue in ACTIVE and
STOWED_HOLD, from where it may be taken at once, and ends the block of the zones (R109, R153). R12 offers a report to the blocks in no
order. The model's choice of one (log 13) is that pending locks apply before a change of the switch is answered, and that a switch newly
set is answered before an arrival, an acknowledgement or a motion of a member that the same report shows: a STOWING dish then in position
is BLOCKED and not STOWED, and an excluded member's marks stay as they stood. -/
def Obligations.FaultLockAndSwitchReports : Prop :=
  ∀ (d : DishId) (r : Report) (s : State), ReportAwaited d s →
    ∃ t, exec (.validReport d r) s = .next t
      ∧ (r.fault ≠ 0 → (t.dish d).motion = .fault ∧ t.slot d = .stop ∧ t.feeder.reservations[d] = none
          ∧ (t.dish d).group = none)
      ∧ (r.brakesSet = true → r.moving = false → (s.dish d).motion ≠ .stowing → s.queued d = false →
          s.mark d ≠ .unreachable → s.lockRequested d = true →
          (∀ p : Fin 96, t.locks.entries[p] = s.locks.entries[p].map fun e =>
              if e.dish = d ∧ e.state = .pending then { e with state := .applied } else e)
          ∧ (t.source .lockApplied).pending = true
          ∧ (r.fault = 0 → (s.dish d).motion = .idle → (s.dish d).group = none → r.switchLock = (s.dish d).switchLock →
              NobodyAdmitted s → (t.dish d).motion = .idle ∧ t.slot d = .holdBrake))
      ∧ (r.fault = 0 → (s.dish d).switchLock = false → r.switchLock = true →
          (∀ g, (s.dish d).group = some g → (s.dish d).motion = .engaged →
              (t.dish d).group = none ∧ (t.dish d).motion = .stopping ∧ t.slot d = .stop ∧ t.feeder.reservations[d] = none
              ∧ (s.orders = [] → (s.group g).state ≠ .resumeWait →
                  (t.group g).members = (s.group g).members.map fun m =>
                    if m.order.dish = d then { m with status := .excluded .localSwitch s.ring.frame } else m))
          ∧ ((s.dish d).group = none → (s.dish d).motion = .stowing →
              (t.dish d).motion = .stopping ∧ t.slot d = .stop ∧ t.feeder.reservations[d] = none ∧ t.stow.moves[d] = none
              ∧ t.mark d = .blocked ∧ (t.source .stowProblem).pending = true)
          ∧ ((s.dish d).group = none → (s.dish d).motion = .idle → r.moving = false → s.mark d ≠ .unreachable →
              (s.stowInForce = true → s.queued d = true → t.queued d = false ∧ t.mark d = .blocked)
              ∧ (NobodyAdmitted s → s.queued d = false → t.slot d = .holdBrake))
          ∧ (s.FeederLawful → ∀ z : ZoneId, z.dish = d → (t.zone z).state = .idle ∨ (t.zone z).state = .blocked))
      ∧ (r.fault = 0 → (s.dish d).switchLock = true → r.switchLock = false → (s.dish d).group = none →
          (s.dish d).motion = .idle → r.moving = false → s.lockRequested d = false →
          (s.appliedMove d = 0 → NobodyAdmitted s → s.stowInForce = false → t.slot d = .keep)
          ∧ (s.appliedMove d = 0 → s.mark d = .blocked → s.stow.state = .active ∨ s.stow.state = .stowedHold →
              t.mark d = .none ∧ (s.queued d = false → ∃ q, q.Sublist s.stow.queue
                ∧ (t.stow.queue = q ++ [d] ∧ t.stow.state = .active ∧ (t.dish d).motion = .idle
                  ∨ t.stow.queue = q ∧ ((t.dish d).motion = .stowing ∨ (t.dish d).motion = .stowed))))
          ∧ (s.appliedHeat d = 0 → s.censusDone = true → s.stowInForce = false →
              ∀ z : ZoneId, z.dish = d → (t.zone z).state ≠ .blocked))

/-- A miss closes the dish's report window. Where it does not bring the count to 20, or finds the dish OFFLINE, it raises the dish's miss
count by 1 up to 20 and changes nothing else (R16, R20, R32). No miss is counted outside the window; that such a step changes nothing is
the model's choice (log 22). -/
def Obligations.MissCounts : Prop :=
  ∀ (d : DishId) (s : State),
    (ReportAwaited d s → s.ring.miss[d] < 19 ∨ (s.dish d).motion = .offline →
      ∃ t, exec (.miss d) s = .next t ∧ t.ring.miss[d] = min 20 (s.ring.miss[d] + 1)
        ∧ (∀ e : DishId, e ≠ d → t.ring.miss[e] = s.ring.miss[e])
        ∧ t = { s with ring := { s.ring with miss := t.ring.miss, window := none } })
    ∧ (¬ ReportAwaited d s → exec (.miss d) s = .next s)

/-- The twentieth miss, and LOSS_OF_DISH where the count stands at 20, take the dish OFFLINE: STOP in its slot, no reservation, no
group, its last report and the other dishes' reports kept (R10, R16, R32, R49; the loss taken by the miss itself, log 15; the window that
the miss closes, log 22). -/
def Obligations.LossTakesOffline : Prop :=
  ∀ (d : DishId) (i : Instr) (s : State), s.resetHeld = false → (s.cfg d).present = true →
    (s.dish d).motion ≠ .offline →
    ((i = .miss d ∧ ReportAwaited d s ∧ 19 ≤ s.ring.miss[d]) ∨ (i = .lossOfDish d ∧ s.ring.miss[d] = 20)) →
    ∃ t, exec i s = .next t ∧ (t.dish d).motion = .offline ∧ t.slot d = .stop ∧ t.feeder.reservations[d] = none
      ∧ (t.dish d).group = none ∧ t.ring.miss[d] = 20
      ∧ t.fixed = { s.fixed with miss := t.ring.miss, window := if i = .miss d then none else s.ring.window }
      ∧ (∀ e : DishId, e ≠ d → t.ring.miss[e] = s.ring.miss[e])

/-! ## Deadlines -/

/-- A LOADING group's acknowledgements and its load acknowledge limit. A report with profile-loaded set acknowledges its dish, alone, and
once every active member is acknowledged each is sent GO for the present frame plus 2 (a move-locked one keeps its slot) and the group
enters SLEWING, to arrive T frames after the start. At the limit each active member not acknowledged is excluded, and stopped unless it
is FAULT or OFFLINE; the rest are sent GO in the same way (R23, R46, R49). -/
def Obligations.LoadingGroupStarts : Prop :=
  ∀ (g : SlotId) (s : State), (s.group g).state = .loading →
    (∀ (d : DishId) (r : Report), ReportAwaited d s → s.Quiet → r.fault = 0 → r.profileLoaded = true →
      r.switchLock = (s.dish d).switchLock → (s.dish d).motion = .engaged → (s.dish d).group = some g →
      s.lockRequested d = false →
      let members := (s.group g).members.map fun m => if m.order.dish = d then { m with acked := true } else m
      let whole := ∀ m ∈ (s.group g).active, m.order.dish = d ∨ m.acked = true
      ∃ t, exec (.validReport d r) s = .next t
        ∧ (whole → t.group g = { s.group g with
              state := .slewing, startFrame := some (s.ring.frame + 2)
              arrivalFrame := some (s.ring.frame + 2 + BitVec.ofNat 32 (s.group g).t), members := members }
            ∧ ∀ e, t.slot e = if e ∈ (s.group g).activeDishes ∧ s.moveLocked e = false then .go (s.ring.frame + 2)
                else s.slot e)
        ∧ (¬ whole → t.group g = { s.group g with members := members } ∧ ∀ e, t.slot e = s.slot e)
        ∧ (∀ e, (t.dish e).motion = (s.dish e).motion ∧ (t.dish e).group = (s.dish e).group)
        ∧ (∀ k, k ≠ g → t.group k = s.group k) ∧ t.streams = s.streams ∧ t.orders = s.orders ∧ t.feeder = s.feeder
        ∧ t.stow = s.stow ∧ t.melt = s.melt ∧ t.locks = s.locks ∧ t.sources = s.sources)
    ∧ ∀ f : Frame, s.resetHeld = false → (s.group g).loadFrame = some f → f + 10 = s.ring.frame →
      ∃ t, exec (.loadAckLimit g) s = .next t
        ∧ (∀ m ∈ (s.group g).active, m.acked = false →
            (t.dish m.order.dish).group = none
            ∧ ((s.dish m.order.dish).motion ≠ .fault → (s.dish m.order.dish).motion ≠ .offline →
                (t.dish m.order.dish).motion = .stopping ∧ t.slot m.order.dish = .stop
                ∧ t.feeder.reservations[m.order.dish] = none))
        ∧ (((s.group g).members.map (·.order.dish)).Nodup → (∃ m ∈ (s.group g).active, m.acked = false) →
            (∃ m ∈ (s.group g).active, m.acked = true) →
            t.group g = { s.group g with
              state := .slewing, startFrame := some (s.ring.frame + 2)
              arrivalFrame := some (s.ring.frame + 2 + BitVec.ofNat 32 (s.group g).t)
              members := (s.group g).members.map fun m =>
                if m.isActive ∧ m.acked = false then { m with status := .excluded .noAck s.ring.frame } else m }
            ∧ (s.NoContender → s.stow.state ≠ .active → ∀ m ∈ (s.group g).active, m.acked = true →
                s.moveLocked m.order.dish = false → t.slot m.order.dish = .go (s.ring.frame + 2)))
        ∧ t.fixed = s.fixed

/-- A SLEWING group's arrivals and its arrival grace. A report in position and not moving, at or after the start frame, makes an ACTIVE
member ARRIVED; any other changes nothing of the group. Once every active member is ARRIVED the group passes to its on-arrival state with
GROUP_ARRIVED raised: POSITIONED, with HOLD BRAKE to its active members and their reservations removed, or TRACKING. At the grace each
member still ACTIVE is excluded, and stopped unless it is FAULT or OFFLINE; with a member ARRIVED the group passes on in the same way
(R47 to R49). -/
def Obligations.SlewingGroupArrives : Prop :=
  ∀ (g : SlotId) (s : State), (s.group g).state = .slewing →
    let onArrival : GroupState := match (s.group g).action with
      | .position => .positioned
      | .track => .tracking
    (∀ (d : DishId) (r : Report), ReportAwaited d s → r.fault = 0 → r.switchLock = (s.dish d).switchLock →
      (s.dish d).motion = .engaged → (s.dish d).group = some g → s.lockRequested d = false →
      let shows := r.inPosition = true ∧ r.moving = false
        ∧ ∃ start, (s.group g).startFrame = some start ∧ (s.ring.frame - start).toNat < 2147483648
      let members := (s.group g).members.map fun m =>
        if m.order.dish = d ∧ m.status = .active then { m with status := .arrived } else m
      let all := ∀ m ∈ members, m.status ≠ .active
      ∃ t, exec (.validReport d r) s = .next t
        ∧ (¬ shows → t.group g = s.group g)
        ∧ (shows → ¬ all → t.group g = { s.group g with members := members })
        ∧ (shows → all → t.group g = { s.group g with state := onArrival, members := members }
            ∧ (t.source .groupArrived).pending = true
            ∧ (NobodyAdmitted s → (s.group g).action = .position → ∀ e ∈ (s.group g).activeDishes,
                t.slot e = .holdBrake ∧ t.feeder.reservations[e] = none
                ∧ (t.dish e).motion = (s.dish e).motion ∧ (t.dish e).group = (s.dish e).group)))
    ∧ ∀ f : Frame, s.resetHeld = false → (s.group g).arrivalFrame = some f → f + 40 = s.ring.frame →
      ∃ t, exec (.arrivalGrace g) s = .next t
        ∧ (∀ m ∈ (s.group g).members, m.status = .active →
            (t.dish m.order.dish).group = none
            ∧ ((s.dish m.order.dish).motion ≠ .fault → (s.dish m.order.dish).motion ≠ .offline →
                (t.dish m.order.dish).motion = .stopping ∧ t.slot m.order.dish = .stop
                ∧ t.feeder.reservations[m.order.dish] = none))
        ∧ (((s.group g).members.map (·.order.dish)).Nodup → (∃ m ∈ (s.group g).members, m.status = .active) →
            (∃ m ∈ (s.group g).members, m.status = .arrived) →
            t.group g = { s.group g with
              state := onArrival
              members := (s.group g).members.map fun m =>
                if m.status = .active then { m with status := .excluded .arrivalTimeout s.ring.frame } else m }
            ∧ (t.source .groupArrived).pending = true)
        ∧ t.fixed = s.fixed

/-- At its expiry frame a queued order is removed and ORDER_REFUSED is raised with its tag and EXPIRED (R38, R40). That the step of a tag
with no such order, or at another frame, has nothing happen is the model's choice (log 14). -/
def Obligations.OrderExpires : Prop :=
  ∀ (s : State), s.resetHeld = false →
    (∀ o ∈ s.orders, o.deadline ≠ 0 → o.commitFrame + BitVec.ofNat 32 o.deadline = s.ring.frame →
      ∃ t, exec (.orderExpiry o.tag) s = .next t
        ∧ Within { s with orders := s.orders.filter fun x => decide (x.tag ≠ o.tag) } t
        ∧ (t.source .orderRefused).pending = true
        ∧ (s.Quiet → (∀ x, s.orders.head? = some x → x.tag ≠ o.tag) →
            t.orders = s.orders.filter (fun x => decide (x.tag ≠ o.tag))
            ∧ (t.source .orderRefused).detail = some (.orderRefused o.tag .expired)
            ∧ t = { s with orders := t.orders, sources := t.sources }))
    ∧ ∀ tag, (∀ o ∈ s.orders, o.tag = tag →
        ¬ (o.deadline ≠ 0 ∧ o.commitFrame + BitVec.ofNat 32 o.deadline = s.ring.frame)) →
      exec (.orderExpiry tag) s = .next s

/-- A stow move and a shed move after their LOAD. The report with profile-loaded set has GO written for the present frame plus 2 (a
move-locked dish keeps its slot) and sets the move's start and its deadline T and 40 frames on. At or after the start, a STOWING dish
still, in position at 89900 md or above is STOWED: HOLD BRAKE, no reservation, no record; the last of an empty Stow Queue takes ACTIVE to
STOWED_HOLD, and on to CALM_WAIT where the release condition holds. A SHEDDING dish still and in position gets HOLD BRAKE and its settle
mark; seen braked and still after that it enters IDLE with DONE, no reservation, no record, and its commanded positions at the reported
ones. At the deadline a dish of either kind is stopped: FAULT, no reservation, its record discarded, and its mark UNREACHABLE with
STOW_PROBLEM raised, or its last shed result FAILED (R11, R23, R106, R107, R140, R141). That the step of a deadline has no effect at
another frame is the model's choice (log 14). -/
def Obligations.StowAndShedMovesRun : Prop :=
  ∀ (d : DishId) (s : State),
    (∀ r : Report, ReportAwaited d s → s.Quiet → r.fault = 0 → r.switchLock = (s.dish d).switchLock →
      let reached := fun start : Frame => (s.ring.frame - start).toNat < 2147483648
      (∀ m : StowMove, (s.dish d).motion = .stowing → (s.dish d).group = none → s.stow.moves[d] = some m →
        ∃ t, exec (.validReport d r) s = .next t
          ∧ (m.start = none → r.profileLoaded = true →
              t.stow.moves[d] = some { m with
                start := some (s.ring.frame + 2), deadline := s.ring.frame + BitVec.ofNat 32 m.t + 40 }
              ∧ (t.dish d).motion = .stowing
              ∧ t.slot d = if s.moveLocked d then s.slot d else .go (s.ring.frame + 2))
          ∧ ((∃ start, m.start = some start ∧ reached start) → r.moving = false → r.inPosition = true → 89900 ≤ r.el →
              (t.dish d).motion = .stowed ∧ t.slot d = .holdBrake ∧ t.feeder.reservations[d] = none
              ∧ t.stow.moves[d] = none
              ∧ (s.stow.state = .active → s.stow.queue = [] → (∀ e, e ≠ d → (s.dish e).motion ≠ .stowing) →
                  t.stow.state = if s.releaseCondition then .calmWait else .stowedHold)))
      ∧ ∀ m : ShedMove, (s.dish d).motion = .shedding → (s.dish d).group = none → s.lockRequested d = false →
          s.melt.shedMoves[d] = some m →
        ∃ t, exec (.validReport d r) s = .next t
          ∧ (m.start = none → r.profileLoaded = true →
              t.melt.shedMoves[d] = some { m with
                start := some (s.ring.frame + 2), deadline := s.ring.frame + BitVec.ofNat 32 m.t + 40 }
              ∧ (t.dish d).motion = .shedding
              ∧ t.slot d = if s.moveLocked d then s.slot d else .go (s.ring.frame + 2))
          ∧ ((∃ start, m.start = some start ∧ reached start) → m.settled = false → r.moving = false → r.inPosition = true →
              t.melt.shedMoves[d] = some { m with settled := true } ∧ (t.dish d).motion = .shedding
              ∧ t.slot d = .holdBrake)
          ∧ (m.start ≠ none → m.settled = true → r.moving = false → r.brakesSet = true → s.mark d = .none →
              NobodyAdmitted s →
              (t.dish d).motion = .idle ∧ (t.dish d).cmdAz = (t.dish d).repAz ∧ (t.dish d).cmdEl = (t.dish d).repEl
              ∧ t.slot d = (if s.moveLocked d then .holdBrake else .keep) ∧ t.feeder.reservations[d] = none
              ∧ t.melt.shedMoves[d] = none ∧ t.melt.shedResult[d] = .done))
    ∧ (s.resetHeld = false →
      (∀ m : StowMove, (s.dish d).motion = .stowing → s.stow.moves[d] = some m → m.deadline = s.ring.frame →
        ∃ t, exec (.stowMoveTimeout d) s = .next t ∧ (t.dish d).motion = .fault ∧ t.slot d = .stop
          ∧ t.feeder.reservations[d] = none ∧ t.stow.moves[d] = none ∧ t.mark d = .unreachable
          ∧ (t.source .stowProblem).pending = true ∧ t.fixed = s.fixed)
      ∧ (∀ m : ShedMove, (s.dish d).motion = .shedding → s.melt.shedMoves[d] = some m → m.deadline = s.ring.frame →
        s.shedListed d = false →
        ∃ t, exec (.shedMoveTimeout d) s = .next t ∧ (t.dish d).motion = .fault ∧ t.slot d = .stop
          ∧ t.feeder.reservations[d] = none ∧ t.melt.shedMoves[d] = none ∧ t.melt.shedResult[d] = .failed
          ∧ t.fixed = s.fixed)
      ∧ ((∀ m : StowMove, s.stow.moves[d] = some m → m.deadline ≠ s.ring.frame) → exec (.stowMoveTimeout d) s = .next s)
      ∧ ((∀ m : ShedMove, s.melt.shedMoves[d] = some m → m.deadline ≠ s.ring.frame) → exec (.shedMoveTimeout d) s = .next s))

/-! ## Feeder: rounds and scans -/

/-- An admission round, place by place. The Stow Queue's head, IDLE: already stowed, or with a move of no frames that fits, it is STOWED
with HOLD BRAKE; fitting, it is STOWING with LOAD for 90000 md, its draw reserved and its deadline 10 frames on; not fitting beside a
STOWING dish, it waits and the round ends; not fitting with none STOWING, it goes all the same, with STOW_PROBLEM and the over-commit mark
(R104 to R106, R120, R121, R123). The one RESUME_WAIT group held from SLEWING whose members are all ENGAGED and braked and that fits:
profiles anew, LOAD, draws reserved, LOADING (R56, R64). The head order, census COMPLETE, no stow in force and a slot FREE: each member is
judged LOCKED, ICED, FAULT, OFFLINE, to be waited for, or taken; one to be waited for, or no fit, and nothing changes; all excluded, the
order leaves with ORDER_REFUSED and no slot, and the next is tried as if it had stood there first; the one order that waits, some taken
and a fit: lowest FREE slot, excluded members entered with reason and frame, their dishes untouched, the taken ones ENGAGED under a common
arrival time, with LOAD and draws reserved, or at T 0 at once in the on-arrival state (R41 to R44, R48, R69 to R72, R116, R119). The Shed
List's head, no order or one that waits before it: unfit, it leaves with SKIPPED; a move of no frames that fits is DONE; fitting, it is
SHEDDING with LOAD, draw and deadline; not fitting, it waits (R139, R140). The model's choices and readings: the last result NONE of a slot
just taken (log 41), the further rounds of the same step (log 7), that a resumed group keeps its former start and arrival frames (log 28),
and that a member taken at T 0 has status ACTIVE, where R43 passes the group as if all had arrived (log 27). -/
def Obligations.RoundAdmitsInRank : Prop :=
  ∀ s : State, s.resetHeld = false →
    let reserved := fun (t : State) (d : DishId) (draw : Nat) (p : Purpose) =>
      draw ≠ 0 → t.feeder.reservations[d] = some ⟨draw, p⟩
    let groupFits := fun draw : Nat => s.feeder.d + draw + min s.feeder.h s.feeder.guard ≤ s.feeder.allowance
    let verdict := fun d : DishId =>
      if s.moveLocked d = true ∨ s.lockRequested d = true then some ExclReason.locked
      else if s.melt.ice[d] = true then some .iced
      else if (s.dish d).motion = .fault then some .fault
      else if (s.dish d).motion = .offline then some .offline
      else none
    let waitsFor := fun o : Order => ∃ m ∈ o.members, verdict m.dish = none
      ∧ ((s.dish m.dish).group ≠ none ∨ (s.dish m.dish).motion ≠ .idle ∨ s.shedListed m.dish = true)
    (∀ (d : DishId) (rest : List DishId), s.stow.state = .active → s.stow.queue = d :: rest → (s.dish d).motion = .idle →
      let already := (s.dish d).brakesSet = true ∧ 89900 ≤ (s.dish d).repEl
      let p := (s.planInput d).move 90000
      let fits := s.feeder.d + p.draw ≤ s.feeder.allowance
      let loaded := fun t : State => (t.dish d).motion = .stowing
        ∧ t.slot d = .load ⟨(s.dish d).repAz, 0, 0⟩ ⟨90000, p.r, p.vc⟩ p.t
        ∧ t.stow.moves[d] = some ⟨p.t, none, s.ring.frame + 10⟩ ∧ d ∉ t.stow.queue
      ∃ t, exec .admissionRound s = .next t
        ∧ (already ∨ fits ∧ p.t = 0 → (t.dish d).motion = .stowed ∧ t.slot d = .holdBrake ∧ d ∉ t.stow.queue)
        ∧ (¬ already → fits → p.t ≠ 0 → s.moveLocked d = false → loaded t ∧ reserved t d p.draw .stow)
        ∧ (¬ already → ¬ fits → (∃ e, (s.dish e).motion = .stowing) → s.Quiet → t = s)
        ∧ (¬ already → ¬ fits → (∀ e, (s.dish e).motion ≠ .stowing) → p.t ≠ 0 → s.moveLocked d = false →
            s.feeder.reservations[d] = none →
            loaded t ∧ reserved t d p.draw .stow ∧ (t.source .stowProblem).pending = true
            ∧ t.feeder.overCommit = some (s.feeder.overCommit.getD .stowFloor)))
    ∧ (∀ g : SlotId, s.censusDone = true → s.stowInForce = false → s.orders = [] → s.melt.shedList = [] →
      (s.group g).state = .resumeWait → (∀ k, k ≠ g → (s.group k).state ≠ .resumeWait) →
      (s.group g).heldFrom = some .slewing → ((s.group g).activeDishes).Nodup →
      (∀ m ∈ (s.group g).active, (s.dish m.order.dish).motion = .engaged ∧ m.braked = true ∧ m.plan ≠ none
        ∧ s.moveLocked m.order.dish = false) →
      let target := fun m : Member => (m.plan.map fun p => Targets.mk p.az p.el).getD ⟨0, 0⟩
      let time := commonTime ((s.group g).active.map fun m => (s.planInput m.order.dish, target m))
      let draw := fun m : Member => (s.planInput m.order.dish).groupDraw (target m) (s.group g).action
      0 < time → groupFits ((s.group g).active.map draw).sum →
      ∃ t, exec .admissionRound s = .next t
        ∧ t.group g = { s.group g with
            state := .loading, heldFrom := none, t := time, loadFrame := some s.ring.frame
            members := (s.group g).members.map fun m =>
              if m.isActive then
                { m with status := .active, acked := false, plan := some ((s.planInput m.order.dish).plan (target m) time) }
              else m }
        ∧ (∀ m ∈ (s.group g).active,
            let p := (s.planInput m.order.dish).plan (target m) time
            t.slot m.order.dish = .load ⟨p.az, p.azPlan.r, p.azPlan.vc⟩ ⟨p.el, p.elPlan.r, p.elPlan.vc⟩ time
            ∧ (t.dish m.order.dish).motion = .engaged ∧ reserved t m.order.dish (draw m) .group)
        ∧ t.fixed = s.fixed ∧ t.stow = s.stow ∧ (∀ d, d ∉ (s.group g).activeDishes → t.holdOf d = s.holdOf d))
    ∧ (∀ (e : ShedEntry) (rest : List ShedEntry), s.censusDone = true → s.stowInForce = false →
      (s.orders = [] ∨ (∀ k, (s.group k).state ≠ .free) ∨ ∃ o behind, s.orders = o :: behind ∧ waitsFor o) →
      (∀ k, (s.group k).state ≠ .resumeWait) → s.melt.shedList = e :: rest →
      let d := e.dish
      let unfit := (s.cfg d).present = false ∨ s.moveLocked d = true ∨ s.lockRequested d = true ∨ (s.dish d).motion ≠ .idle
      let p := (s.planInput d).move (s.cfg d).shedEl
      ∃ t, exec .admissionRound s = .next t
        ∧ (unfit → t.shedListed d = false ∧ t.melt.shedResult[d] = .skipped)
        ∧ (¬ unfit → groupFits p.draw → t.shedListed d = false
            ∧ (p.t = 0 → t.melt.shedResult[d] = .done)
            ∧ (p.t ≠ 0 → (t.dish d).motion = .shedding
                ∧ t.slot d = .load ⟨(s.dish d).repAz, 0, 0⟩ ⟨(s.cfg d).shedEl, p.r, p.vc⟩ p.t
                ∧ t.melt.shedMoves[d] = some ⟨p.t, none, false, s.ring.frame + 10⟩ ∧ reserved t d p.draw .shed))
        ∧ (¬ unfit → ¬ groupFits p.draw → s.Quiet → t = s))
    ∧ ∀ (o : Order) (rest : List Order) (g : SlotId), s.censusDone = true → s.stowInForce = false →
      s.orders = o :: rest → (∀ k, (s.group k).state ≠ .resumeWait) →
      (s.group g).state = .free → (∀ k, k < g → (s.group k).state ≠ .free) →
      let taken := o.members.filter fun m => decide (verdict m.dish = none)
      let target := fun m : MemberRecord => Targets.mk (resolveWrap (s.dish m.dish).repAz m.skyAz m.wrap) m.el
      let time := commonTime (taken.map fun m => (s.planInput m.dish, target m))
      let draw := fun m : MemberRecord => (s.planInput m.dish).groupDraw (target m) o.action
      let fits := groupFits (taken.map draw).sum
      (waitsFor o → s.melt.shedList = [] → s.Quiet → exec .admissionRound s = .next s)
      ∧ (¬ waitsFor o → taken ≠ [] → ¬ fits → s.Quiet → exec .admissionRound s = .next s)
      ∧ (taken = [] → ∃ u, RaisedOnce .orderRefused (.orderRefused o.tag .allExcluded) s u
          ∧ (∀ x, x ≠ .orderRefused → u.source x = s.source x) ∧ u = { s with orders := rest, sources := u.sources }
          ∧ exec .admissionRound s = exec .admissionRound u
          ∧ (rest = [] → s.melt.shedList = [] → s.Quiet → exec .admissionRound s = .next u))
      ∧ (¬ waitsFor o → taken ≠ [] → fits → rest = [] → s.melt.shedList = [] → (o.members.map (·.dish)).Nodup →
          ∃ t, exec .admissionRound s = .next t
            ∧ t.orders = []
            ∧ t.group g =
                { state := if time ≠ 0 then .loading else match o.action with
                    | .position => .positioned
                    | .track => .tracking
                  tag := o.tag, action := o.action, heldFrom := none, t := time
                  loadFrame := if time ≠ 0 then some s.ring.frame else none
                  startFrame := none, arrivalFrame := none, lastResult := .none
                  members := o.members.map fun m => match verdict m.dish with
                    | some r =>
                      { order := m, status := .excluded r s.ring.frame, plan := none, acked := false, braked := false }
                    | none =>
                      { order := m, status := .active, plan := some ((s.planInput m.dish).plan (target m) time)
                        acked := false, braked := false } }
            ∧ (∀ m ∈ taken,
                let p := (s.planInput m.dish).plan (target m) time
                (t.dish m.dish).motion = .engaged ∧ (t.dish m.dish).group = some g
                ∧ (time ≠ 0 →
                    t.slot m.dish = .load ⟨p.az, p.azPlan.r, p.azPlan.vc⟩ ⟨p.el, p.elPlan.r, p.elPlan.vc⟩ time
                    ∧ (t.dish m.dish).cmdAz = (if p.azPlan.r = 0 ∧ p.azPlan.vc = 0 then (s.dish m.dish).cmdAz else p.az)
                    ∧ (t.dish m.dish).cmdEl = (if p.elPlan.r = 0 ∧ p.elPlan.vc = 0 then (s.dish m.dish).cmdEl else p.el)
                    ∧ reserved t m.dish (draw m) .group)
                ∧ (time = 0 → (t.source .groupArrived).pending = true
                    ∧ (t.dish m.dish).cmdAz = (s.dish m.dish).cmdAz ∧ (t.dish m.dish).cmdEl = (s.dish m.dish).cmdEl
                    ∧ (o.action = .position → t.slot m.dish = .holdBrake ∧ t.feeder.reservations[m.dish] = none)
                    ∧ (o.action = .track → t.slot m.dish = s.slot m.dish ∧ reserved t m.dish (draw m) .group)))
            ∧ t.fixed = s.fixed ∧ t.stow = s.stow
            ∧ (∀ d, d ∉ taken.map (·.dish) → t.holdOf d = s.holdOf d)
            ∧ (∀ k, k ≠ g → t.group k = s.group k ∧ t.stream k = s.stream k))

/-- The powering scan walks the Melt Rotation List from its head. The zones it powers, each with the power configured for its kind and a
slot timer of its own, join the tail of the power order in the order of the list; they are the first of the list's WAITING zones, the
others being passed over, and the next WAITING zone, if there is one, does not fit: no zone behind it is powered, be it small enough.
Every zone powered has fitted the allowance beside what stood there, and nothing else changes (R117, R133). That no zone stands twice in
the list (R128), which the first of these clauses asks for, is part of the invariant WithinCapacity. -/
def Obligations.ScanPowersInRotation : Prop :=
  ∀ s : State, s.resetHeld = false →
    ∃ (t : State) (new : List PoweredZone), exec .poweringScan s = .next t
      ∧ t.feeder.powerOrder = s.feeder.powerOrder ++ new
      ∧ (s.melt.rotation.Nodup →
          ∃ rest, (s.melt.rotation.filter fun z => decide ((s.zone z).state = .waiting)) = new.map (·.zone) ++ rest
            ∧ ∀ z behind, rest = z :: behind →
                s.feeder.allowance < s.feeder.d + (s.feeder.h + (new.map (·.power)).sum) + s.settings.melt.power z.kind)
      ∧ (∀ x ∈ new, x.zone ∈ s.melt.rotation ∧ (s.zone x.zone).state = .waiting
          ∧ x.power = s.settings.melt.power x.zone.kind
          ∧ t.zone x.zone = { s.zone x.zone with
              state := .powered, power := some x.power, timer := some (s.clock + s.settings.melt.slot * 1000)
              lastCharge := some s.clock })
      ∧ (∀ z, z ∉ new.map (·.zone) → t.zone z = s.zone z)
      ∧ (new ≠ [] → t.feeder.d + t.feeder.h ≤ t.feeder.allowance)
      ∧ (∀ z, (t.melt.rotation.find? fun y => decide ((t.zone y).state = .waiting)) = some z →
          t.feeder.allowance < t.feeder.d + t.feeder.h + t.settings.melt.power z.kind)
      ∧ t = { s with
          feeder := { s.feeder with powerOrder := t.feeder.powerOrder }, melt := { s.melt with zones := t.melt.zones } }

/-! ## Profiles (chapter 4) -/

/-- The ramp length, minimum time and cruise speed of an axis: idle at distance 0; else trapezoid or triangle, with a cruise speed
that passes neither the effective maximum nor what the ramp allows and covers the distance, by less than one md a frame too far
(R65 to R68, R70, R71, R74). -/
def Obligations.ProfilesWithinLimits : Prop :=
  (∀ vmax, effectiveMax vmax false = vmax ∧ effectiveMax vmax true = max 1 (vmax / 2))
    ∧ ∀ v a d t : Nat, 1 ≤ v → 1 ≤ a → (axisTime v a d).tMin ≤ t →
      let r := (axisTime v a d).r
      let vc := cruise d t r
      let full := (v + a - 1) / a
      (d = 0 → r = 0 ∧ (axisTime v a d).tMin = 0 ∧ vc = 0)
      ∧ (1 ≤ d → 1 ≤ r ∧ r ≤ full ∧ 2 * r ≤ (axisTime v a d).tMin ∧ vc ≤ v ∧ vc ≤ a * r
          ∧ d ≤ vc * (t - r) ∧ vc * (t - r) < d + (t - r))
      ∧ (1 ≤ d → v * full ≤ d → r = full ∧ (axisTime v a d).tMin = full + (d + v - 1) / v)
      ∧ (1 ≤ d → d < v * full → (axisTime v a d).tMin = 2 * r ∧ d ≤ a * r * r ∧ ∀ q, 1 ≤ q → q < r → a * q * q < d)
      ∧ (v ≤ 400 → d ≤ 540000 → r ≤ 400 ∧ (axisTime v a d).tMin ≤ 540001)

/-- Wrap resolution: the resolved AZ target is the sky target or lies 360000 md below it, within the AZ range; with two such
candidates CW takes the larger, CCW the smaller, AUTO the nearer to the reported AZ, and of equally near ones that of 0 or more (R63). -/
def Obligations.WrapResolved : Prop :=
  ∀ (p : Int) (sky : Nat) (wrap : Wrap), sky ≤ 359999 →
    let r := resolveWrap p sky wrap
    let upper : Int := sky
    let lower : Int := sky - 360000
    r ≤ 270000 ∧ -270000 ≤ r ∧ (r = upper ∨ r = lower)
    ∧ (sky < 90000 → r = upper) ∧ (270000 < sky → r = lower)
    ∧ (90000 ≤ sky → sky ≤ 270000 →
        (wrap = .cw → r = upper) ∧ (wrap = .ccw → r = lower)
        ∧ (wrap = .auto → (upper - p).natAbs ≤ (lower - p).natAbs → r = upper)
        ∧ (wrap = .auto → (lower - p).natAbs < (upper - p).natAbs → r = lower))

/-! ## Timers -/

/-- The staleness expiry of a configured mast that is LIVE or NOT_SEEN: STALE, level none, timer stopped, mean and gust kept; the
stow is in force where the stale count then stands at the trip; a mast with no running timer is left (R93, R96, R98, R99). That the clock
then stands at the expiry, or later where it has passed it, and that the step of a stopped timer has no effect, is the model's choice
(log 16, with the model's clock, log 9). -/
def Obligations.MastFallsStale : Prop :=
  ∀ (m : MastId) (s : State), s.resetHeld = false →
    (∀ x, s.settings.mastConfigured[m] = true → s.wind.masts[m].state ≠ .stale → s.wind.masts[m].timer = some x →
      ∃ t, exec (.mastStalenessExpiry m) s = .next t
        ∧ t.wind.masts[m] = { s.wind.masts[m] with state := .stale, level := none, timer := none }
        ∧ (∀ k : MastId, k ≠ m → t.wind.masts[k] = s.wind.masts[k])
        ∧ (s.wind.masts[m].level = some .trip → t.wind.tripSeen[m] = true)
        ∧ (t.settings.wind.staleTrip ≤ t.staleCount → t.stowInForce = true)
        ∧ t.fixed = { s.fixed with wind := t.wind, clock := max s.clock x })
    ∧ (s.wind.masts[m].timer = none → exec (.mastStalenessExpiry m) s = .next s)

/-- The hold-off expiry and RELEASE STOW in CALM_WAIT end the stow: CLEAR, or WATCH where a configured LIVE mast is at WATCH; no
mark, no trip order, the timer stopped; while the census is INCOMPLETE the STOWED dishes stand in IDLE. In the other states RELEASE STOW
is refused and the expiry has no effect, nor has it while the timer is stopped (R110 to R112; the step of a timer that is not running,
log 16). -/
def Obligations.StowEndsFromCalmWait : Prop :=
  ∀ (i : Instr) (s : State),
    ((i = .holdOffExpiry ∧ s.resetHeld = false) ∨ (i = .releaseStow .safety (.fields {}) ∧ s.hears .safety = true)) →
    (s.stow.state = .calmWait → (i = .holdOffExpiry → s.stow.holdOff ≠ none) →
      ∃ t, exec i s = .next t ∧ t.stow.state = (if s.someWatch then .watch else .clear)
        ∧ (∀ d, t.mark d = .none) ∧ t.stow.tripOrder = [] ∧ t.stow.holdOff = none ∧ t.stow.queue = s.stow.queue
        ∧ (s.censusDone = false → ∀ d, (s.dish d).motion = .stowed →
            t.dish d = { s.dish d with motion := .idle, cmdAz := (s.dish d).repAz, cmdEl := (s.dish d).repEl }
            ∧ t.slot d = if s.moveLocked d then .holdBrake else .keep)
        ∧ (i = .releaseStow .safety (.fields {}) → t.holder .safety = some ⟨0x22, .ok, []⟩)
        ∧ t.fixed = { s.fixed with
            clock := t.clock
            ports := if i = .holdOffExpiry then s.ports else (s.putHolder .safety (t.holder .safety)).ports })
    ∧ (i = .holdOffExpiry → s.stow.state ≠ .calmWait ∨ s.stow.holdOff = none → exec i s = .next s)
    ∧ (i = .releaseStow .safety (.fields {}) → s.stow.state = .stowedHold →
        exec i s = .next (s.putHolder .safety (some ⟨0x22, .conditionActive, []⟩)))
    ∧ (i = .releaseStow .safety (.fields {}) →
        s.stow.state = .clear ∨ s.stow.state = .watch ∨ s.stow.state = .active →
        exec i s = .next (s.putHolder .safety (some ⟨0x22, .wrongState, []⟩)))

/-- A slot expiry with no other zone of the list WAITING restarts the zone's timer and changes nothing else; with another WAITING the
zone is charged: with energy left, and nothing else to admit, it moves to the tail of the list; spent, it is IDLE, out of the list and out
of the power order, and where it was the last of an iced dish the ice flag is cleared with MELT_DONE (R134 to R137). That the clock then
stands at the expiry, or later where it has passed it, the charge reaching up to that time, is the model's choice (log 16, with the
model's clock, log 9). -/
def Obligations.MeltSlotExpires : Prop :=
  ∀ (z : ZoneId) (x p c : Nat) (s : State), s.resetHeld = false → (s.zone z).state = .powered → (s.zone z).timer = some x →
    (s.zone z).power = some p → (s.zone z).lastCharge = some c →
    let now := max s.clock x
    let given := (p * (now - c) + (s.zone z).carry) / 10
    ((∀ w ∈ s.melt.rotation, w ≠ z → (s.zone w).state ≠ .waiting) →
      ∃ t, exec (.meltSlotExpiry z) s = .next t
        ∧ t.zone z = { s.zone z with timer := some (now + s.settings.melt.slot * 1000) }
        ∧ (∀ w, w ≠ z → t.zone w = s.zone w)
        ∧ t = { s with clock := now, melt := { s.melt with zones := t.melt.zones } })
    ∧ ((∃ w ∈ s.melt.rotation, w ≠ z ∧ (s.zone w).state = .waiting) → z ∈ s.melt.rotation → given < (s.zone z).remaining →
        s.NoContender → s.stow.state ≠ .active →
        ∃ t, exec (.meltSlotExpiry z) s = .next t
          ∧ t.melt.rotation = s.melt.rotation.filter (fun w => decide (w ≠ z)) ++ [z]
          ∧ (t.zone z).remaining = (s.zone z).remaining - given
          ∧ (t.zone z).carry = (p * (now - c) + (s.zone z).carry) % 10
          ∧ (∀ w, w ≠ z → (t.zone w).remaining = (s.zone w).remaining ∧ (t.zone w).carry = (s.zone w).carry)
          ∧ t.fixed = { s.fixed with clock := now } ∧ t.dishes = s.dishes ∧ t.groups = s.groups ∧ t.stow = s.stow)
    ∧ ((∃ w ∈ s.melt.rotation, w ≠ z ∧ (s.zone w).state = .waiting) → (s.zone z).remaining ≤ given →
        ∃ t, exec (.meltSlotExpiry z) s = .next t
          ∧ t.zone z = { state := .idle, remaining := 0, carry := 0, power := none, timer := none, lastCharge := none }
          ∧ z ∉ t.melt.rotation ∧ z ∉ t.feeder.powerOrder.map (·.zone)
          ∧ (s.melt.ice[z.dish] = true → (∀ w : ZoneId, w.dish = z.dish → w ≠ z → (s.zone w).remaining = 0) →
              t.melt.ice[z.dish] = false ∧ (t.source .meltDone).pending = true)
          ∧ t.fixed = { s.fixed with clock := now })

/-- The meter expiry charges every POWERED zone by its powered power over the time since its last charge, tenths of a joule
carried; where no zone is spent nothing else changes; a zone spent is IDLE, out of the list and out of the power order. The tick of
the seconds count raises it by 1, 2^32 - 1 being followed by 0, and changes nothing else (R136, R137, R144). That the clock then stands at
the expiry, or later where it has passed it, the charge reaching up to that time, is the model's choice (log 16, with the model's clock,
log 9). -/
def Obligations.MeterAndSecondsRun : Prop :=
  ∀ s : State, s.resetHeld = false →
    let now := max s.clock s.melt.meterTimer
    let given := fun (z : ZoneId) (p c : Nat) => (p * (now - c) + (s.zone z).carry) / 10
    (s.Quiet → (∀ z, (s.zone z).state = .powered → ∃ p c, (s.zone z).power = some p ∧ (s.zone z).lastCharge = some c
        ∧ given z p c < (s.zone z).remaining) →
      ∃ t, exec .meterTimerExpiry s = .next t
        ∧ (∀ z p c, (s.zone z).state = .powered → (s.zone z).power = some p → (s.zone z).lastCharge = some c →
            t.zone z = { s.zone z with
              remaining := (s.zone z).remaining - given z p c, carry := (p * (now - c) + (s.zone z).carry) % 10
              lastCharge := some now })
        ∧ (∀ z, (s.zone z).state ≠ .powered → t.zone z = s.zone z)
        ∧ t = { s with
            clock := now, melt := { s.melt with zones := t.melt.zones, meterTimer := s.melt.meterTimer + 1000 } })
    ∧ (∀ z p c, (s.zone z).state = .powered → (s.zone z).power = some p → (s.zone z).lastCharge = some c →
        (s.zone z).remaining ≤ given z p c →
        ∃ t, exec .meterTimerExpiry s = .next t
          ∧ t.zone z = { state := .idle, remaining := 0, carry := 0, power := none, timer := none, lastCharge := none }
          ∧ z ∉ t.melt.rotation ∧ z ∉ t.feeder.powerOrder.map (·.zone)
          ∧ t.fixed = { s.fixed with clock := now, meterTimer := s.melt.meterTimer + 1000 })
    ∧ exec .secondsCountTick s = .next { s with
        clock := max s.clock s.locks.secondTimer
        locks := { s.locks with
          seconds := BitVec.ofNat 32 ((s.locks.seconds.toNat + 1) % 4294967296), secondTimer := s.locks.secondTimer + 1000 } }

/-! ## Ports -/

/-- A link timeout raises the port's link timeout count by 1, up to 255, and changes no holder and no other port: until select rises, or
until the next start condition, the abandoned transaction goes on without a response (0xFF on a four-wire port, nothing on the
maintenance bus), and a transaction begun anew is answered as before; after a maintenance timeout the stations that can be addressed are
the enabled ones. A station that is not heard counts none. READ VIOLATION answers with the port's record, of which the maintenance port's
alone has a station, and clears it. FETCH_RESPONSE, and a bad frame whose first byte is 0x00, complete the transaction and change no
holder and no record; a code that is not in the catalogue and another bad frame place a response with no fields in the sender's holder and
change nothing else, but that a bad frame with no whole first byte draws a free value for the code (R157 to R160, R162, R164, R179; the
echoed byte, log 4; the abandoned marks and the stations that can be addressed, log 40; the station's presence byte, log 33). -/
def Obligations.PortEventsCounted : Prop :=
  (∀ (l : FourWire) (s : State), s.resetHeld = false →
      ∃ t, exec (.linkTimeout l) s = .next t
        ∧ t.violation l.port
            = { s.violation l.port with linkTimeouts := min 255 ((s.violation l.port).linkTimeouts + 1) }
        ∧ (∀ p, p ≠ l.port → t.violation p = s.violation p ∧ t.abandoned p = s.abandoned p)
        ∧ (∀ src, t.holder src = s.holder src ∧ t.hears src = s.hears src)
        ∧ (∀ src : Sender, src.port = l.port → ∀ n,
            t.dataOut src false n = some 0xFF ∧ t.dataOut src true n = s.dataOut src true n)
        ∧ t = { s with ports := t.ports })
    ∧ (∀ (n : StationId) (s : State), s.hears (.station n) = true →
      ∃ t, exec (.maintenanceLinkTimeout n) s = .next t
        ∧ t.violation .maintenance
            = { s.violation .maintenance with linkTimeouts := min 255 ((s.violation .maintenance).linkTimeouts + 1) }
        ∧ (∀ p, p ≠ .maintenance → t.violation p = s.violation p ∧ t.abandoned p = s.abandoned p)
        ∧ (∀ src, t.holder src = s.holder src)
        ∧ (∀ (m : StationId) (k : Nat), t.hears (.station m) = s.settings.station[m].enabled
            ∧ t.dataOut (.station m) false k = none ∧ t.dataOut (.station m) true k = s.dataOut (.station m) true k)
        ∧ t = { s with ports := t.ports })
    ∧ (∀ (n : StationId) (s : State), s.hears (.station n) = false → exec (.maintenanceLinkTimeout n) s = .next s)
    ∧ ∀ (src : Sender) (s : State), s.hears src = true →
      let kept := fun t : State => (∀ other, t.holder other = s.holder other) ∧ (∀ p, t.violation p = s.violation p)
        ∧ t.abandoned src.port = false ∧ t = s.endTransaction src.port
      (∃ t, exec (.readViolation src (.fields {})) s = .next t
        ∧ t.holder src = some ⟨0x44, .ok,
            (match (s.violation src.port).firstCode with
              | none => [0x00]
              | some c => [0x01, c])
            ++ (match src.port, (s.violation src.port).firstStation with
              | .maintenance, none => [0x00]
              | .maintenance, some n => [0x01, BitVec.ofNat 8 n.val]
              | .scheduler, _ => []
              | .safety, _ => [])
            ++ [BitVec.ofNat 8 (s.violation src.port).refused, BitVec.ofNat 8 (s.violation src.port).linkTimeouts]⟩
        ∧ t.violation src.port = ⟨none, none, 0, 0⟩ ∧ (∀ p, p ≠ src.port → t.violation p = s.violation p)
        ∧ (∀ other, other ≠ src → t.holder other = s.holder other)
        ∧ t = (s.setViolation src.port ⟨none, none, 0, 0⟩).putHolder src (t.holder src))
      ∧ (∀ c : Byte, exec (.unknownRequest src c) s = .next (s.putHolder src (some ⟨c, .unknownRequest, []⟩))
          ∧ (c ≠ 0 → exec (.badFrame src (some c)) s = .next (s.putHolder src (some ⟨c, .badFrame, []⟩))))
      ∧ (∃ c n, exec (.badFrame src none) s = .next { s.putHolder src (some ⟨c, .badFrame, []⟩) with fresh := n })
      ∧ (∃ t, exec (.badFrame src (some 0)) s = .next t ∧ kept t)
      ∧ ∃ t, exec (.fetchResponse src) s = .next t ∧ kept t

/-- The requests that each port may carry (R163). -/
def portTable : Port → List Request
  | .scheduler =>
    [.openOrder, .addMembers, .commitOrder, .cancelOrder, .holdGroup, .resumeGroup, .releaseGroup, .abortGroup, .pushTrack,
     .flushTrack, .clearTrackFault, .readGroup, .readQueue,
     .readDish, .takeAttention, .endAttention, .setAttentionMask, .readViolation, .portReset, .fetchResponse]
  | .safety =>
    [.windSample, .stowArray, .releaseStow, .resetWeatherSnapshot, .readWeather, .setAllowance, .setMeltGuard, .readFeeder,
     .meltOrder, .cancelMelt, .readMelt, .writeConfig, .readConfig, .driveReset,
     .readDish, .takeAttention, .endAttention, .setAttentionMask, .readViolation, .portReset, .fetchResponse]
  | .maintenance =>
    [.placeLock, .releaseLock, .readLocks, .censusComplete,
     .readDish, .takeAttention, .endAttention, .setAttentionMask, .readViolation, .portReset, .fetchResponse]

/-- In every state a request outside its port's table is refused with NOT_PERMITTED, recorded in the port's violation record and
changes nothing else; one inside it is answered with its code and never with NOT_PERMITTED; one inside it whose field bytes have a length
that its format does not allow is answered with BAD_FIELD and changes nothing else (R158, R163, R164, R177). -/
def Obligations.PermissionsFollowTheTable : Prop :=
  (∀ (i : Instr) (src : Sender) (r : Request) (s : State), i.request = some (src, r) → s.hears src = true →
    (r ∉ portTable src.port →
      ∃ t, exec i s = .next t ∧ t.holder src = some ⟨r.code, .notPermitted, []⟩
        ∧ (∀ other, other ≠ src → t.holder other = s.holder other)
        ∧ (t.violation src.port).refused = min 255 ((s.violation src.port).refused + 1)
        ∧ (t.violation src.port).linkTimeouts = (s.violation src.port).linkTimeouts
        ∧ (t.violation src.port).firstCode = some ((s.violation src.port).firstCode.getD r.code)
        ∧ (t.violation src.port).firstStation =
            (if (s.violation src.port).firstCode = none then
              (match src with
                | .station n => some n
                | .scheduler | .safety => none)
            else (s.violation src.port).firstStation)
        ∧ (∀ p, p ≠ src.port → t.violation p = s.violation p)
        ∧ t = (s.setViolation src.port (t.violation src.port)).putHolder src (t.holder src))
    ∧ (r ∈ portTable src.port →
      ∃ t resp, exec i s = .next t ∧ t.holder src = some resp ∧ resp.code = r.code ∧ resp.status ≠ .notPermitted))
    ∧ ∀ (src : Sender) (r : Request) (fields : List Byte) (s : State), s.hears src = true → r ∈ portTable src.port →
      r ≠ .fetchResponse → lengthAllowed r fields = false →
      exec (decodeRequest src r fields) s = .next (s.putHolder src (some ⟨r.code, .badField, []⟩))

/-! ## Orders -/

/-- OPEN ORDER with fields in range fills the header and empties the member list in either state of the staging area; else it is
refused with BAD_FIELD; nothing else changes (R35). -/
def Obligations.OpenOrderStages : Prop :=
  ∀ (f : OpenOrderFields) (s : State), s.hears .scheduler = true →
    (∀ a, 1 ≤ f.tag ∧ f.tag ≤ 65535 ∧ f.deadline ≤ 65535 →
        (a = .position ∧ f.action = 0) ∨ (a = .track ∧ f.action = 1) →
        ∃ t, exec (.openOrder .scheduler (.fields f)) s = .next t ∧ t.holder .scheduler = some ⟨0x10, .ok, []⟩
          ∧ t.staging = some { tag := f.tag, action := a, deadline := f.deadline, members := [] }
          ∧ t = { s with staging := t.staging, ports := (s.putHolder .scheduler (t.holder .scheduler)).ports })
    ∧ (¬ (1 ≤ f.tag ∧ f.tag ≤ 65535 ∧ f.deadline ≤ 65535 ∧ f.action ≤ 1) →
        exec (.openOrder .scheduler (.fields f)) s = .next (s.putHolder .scheduler (some ⟨0x10, .badField, []⟩)))

/-- ADD MEMBERS is judged as a whole, in the order of its cases: WRONG_STATE, BAD_FIELD, DUPLICATE, FULL, or all its records join
the tail of the staged list (R36). -/
def Obligations.AddMembersJudged : Prop :=
  ∀ (f : AddMembersFields) (s : State), s.hears .scheduler = true →
    let refused := fun st => exec (.addMembers .scheduler (.fields f)) s
      = .next (s.putHolder .scheduler (some ⟨0x11, st, []⟩))
    let good := fun m : MemberFields => (∃ h : m.dish < 48, (s.cfg ⟨m.dish, h⟩).present = true) ∧ m.skyAz ≤ 359999
      ∧ 15000 ≤ m.el ∧ m.el ≤ 90000 ∧ m.wrap ≤ 2
    (s.staging = none → refused .wrongState)
    ∧ ∀ g, s.staging = some g →
      ((∃ m ∈ f.records, ¬ good m) → refused .badField)
      ∧ ((∀ m ∈ f.records, good m) →
          ((∃ m ∈ f.records, ∃ x ∈ g.members, x.dish.val = m.dish) ∨ ¬ (f.records.map (·.dish)).Nodup →
            refused .duplicate)
          ∧ ((∀ m ∈ f.records, ∀ x ∈ g.members, x.dish.val ≠ m.dish) → (f.records.map (·.dish)).Nodup →
            (48 < g.members.length + f.records.length → refused .full)
            ∧ (g.members.length + f.records.length ≤ 48 →
                ∃ t ms, exec (.addMembers .scheduler (.fields f)) s = .next t
                  ∧ ms.map (fun m : MemberRecord => MemberFields.mk m.dish.val m.skyAz m.el m.wrap.place) = f.records
                  ∧ t = { s with staging := some { g with members := g.members ++ ms } }.putHolder .scheduler
                      (some ⟨0x11, .ok, [BitVec.ofNat 8 (g.members.length + f.records.length)]⟩))))

/-- COMMIT ORDER: the four refusals change nothing but the response, and a commit otherwise moves the staged order, stamped with
the present frame, to the tail of the queue and answers with its tag and place; behind another order nothing else changes (R37,
R38). One that falls together with a DRIVE RESET taken before it finds the order that the reset discarded (R175); the field that holds
it, and that every COMMIT ORDER clears, is the model's reading of R175 beside R35 and R60 (log 50). That the place answered is the one at
which the order joined, even where a round admits it in the same step, is the model's choice (log 11). -/
def Obligations.CommitOrderQueues : Prop :=
  ∀ (f : CountFields) (s : State), s.hears .scheduler = true →
    let taken := { s with resetCommit := .none }
    let refused := fun st => exec (.commitOrder .scheduler (.fields f)) s
      = .next (taken.putHolder .scheduler (some ⟨0x12, st, []⟩))
    let used := fun tag => (∃ o ∈ s.orders, o.tag = tag) ∨ ∃ k, (s.group k).state ≠ .free ∧ (s.group k).tag = tag
    (s.staging = none → (∀ g, s.resetCommit ≠ .holds g) → refused .wrongState)
    ∧ ∀ g, s.staging = some g ∨ s.staging = none ∧ s.resetCommit = .holds g →
      (f.count ≠ g.members.length ∨ g.members.length = 0 → refused .badField)
      ∧ (f.count = g.members.length → 0 < g.members.length →
          (used g.tag → refused .duplicate)
          ∧ (¬ used g.tag →
            (16 ≤ s.orders.length → refused .full)
            ∧ (s.orders.length < 16 →
                let joined := s.orders ++ [Order.mk g.tag g.action g.deadline g.members s.ring.frame]
                ∃ t, exec (.commitOrder .scheduler (.fields f)) s = .next t
                  ∧ t.holder .scheduler = some ⟨0x12, .ok, [BitVec.ofNat 8 (g.tag / 256), BitVec.ofNat 8 g.tag,
                      BitVec.ofNat 8 (s.orders.length + 1)]⟩
                  ∧ Within ({ taken with staging := none, orders := joined }.putHolder .scheduler (t.holder .scheduler)) t
                  ∧ (s.Quiet → s.orders ≠ [] →
                      t = { taken with staging := none, orders := joined }.putHolder .scheduler (t.holder .scheduler)))))

/-- CANCEL ORDER removes the queued order of its tag, the others keeping their order, and is answered OK; a group's tag is refused
with WRONG_STATE, another tag with NOT_FOUND; a cancellation raises nothing of its own (R39). -/
def Obligations.CancelOrderRemoves : Prop :=
  ∀ (f : TagFields) (s : State), s.hears .scheduler = true →
    let left := s.orders.filter fun o => decide (o.tag ≠ f.tag)
    ((∃ o ∈ s.orders, o.tag = f.tag) →
        ∃ t, exec (.cancelOrder .scheduler (.fields f)) s = .next t
          ∧ t.holder .scheduler = some ⟨0x13, .ok, []⟩
          ∧ Within ({ s with orders := left }.putHolder .scheduler (t.holder .scheduler)) t
          ∧ (s.Quiet → (∀ x, s.orders.head? = some x → x.tag ≠ f.tag) →
              t = { s with orders := left }.putHolder .scheduler (t.holder .scheduler)))
    ∧ ((∀ o ∈ s.orders, o.tag ≠ f.tag) →
        ((∃ k, (s.group k).state ≠ .free ∧ (s.group k).tag = f.tag) →
          exec (.cancelOrder .scheduler (.fields f)) s = .next (s.putHolder .scheduler (some ⟨0x13, .wrongState, []⟩)))
        ∧ ((∀ k, (s.group k).state ≠ .free → (s.group k).tag ≠ f.tag) →
          exec (.cancelOrder .scheduler (.fields f)) s = .next (s.putHolder .scheduler (some ⟨0x13, .notFound, []⟩))))

/-! ## Groups -/

/-- HOLD GROUP: a LOADING, SLEWING, TRACKING or TRACK_HALTED group enters HOLDING with held-from noted, STOP to each active member,
which keeps its group, and its stream frozen where it tracked; RESUME_WAIT returns to HELD; other states and slots are refused
(R52, R88). -/
def Obligations.HoldGroupStops : Prop :=
  ∀ (g : SlotId) (s : State), s.hears .scheduler = true →
    (∀ from_ : HeldFrom,
        (from_ = .slewing ∧ ((s.group g).state = .loading ∨ (s.group g).state = .slewing))
          ∨ (from_ = .tracking ∧ ((s.group g).state = .tracking ∨ (s.group g).state = .trackHalted)) →
        ∃ t, exec (.holdGroup .scheduler (.fields ⟨g.val⟩)) s = .next t
          ∧ t.holder .scheduler = some ⟨0x14, .ok, []⟩
          ∧ t.group g = { s.group g with
              state := .holding, heldFrom := some from_
              members := (s.group g).members.map fun m => { m with braked := false } }
          ∧ t.stream g = (match from_ with
              | .slewing => s.stream g
              | .tracking => { s.stream g with coast := 0, lastAz := 0, lastEl := 0, starved := false })
          ∧ (∀ d ∈ (s.group g).activeDishes, t.dish d = { s.dish d with motion := .stopping } ∧ t.slot d = .stop
              ∧ t.feeder.reservations[d] = none)
          ∧ Within (s.putHolder .scheduler (t.holder .scheduler)) t
          ∧ SparesBut (s.group g).activeDishes [g] s t)
    ∧ ((s.group g).state = .resumeWait →
        ∃ t, exec (.holdGroup .scheduler (.fields ⟨g.val⟩)) s = .next t
          ∧ t.group g = { s.group g with state := .held } ∧ (∀ k, k ≠ g → t.group k = s.group k)
          ∧ t = { s with groups := t.groups }.putHolder .scheduler (some ⟨0x14, .ok, []⟩))
    ∧ ((s.group g).state = .free ∨ (s.group g).state = .positioned ∨ (s.group g).state = .holding
          ∨ (s.group g).state = .held →
        exec (.holdGroup .scheduler (.fields ⟨g.val⟩)) s = .next (s.putHolder .scheduler (some ⟨0x14, .wrongState, []⟩)))
    ∧ ∀ n, 4 ≤ n →
        exec (.holdGroup .scheduler (.fields ⟨n⟩)) s = .next (s.putHolder .scheduler (some ⟨0x14, .badField, []⟩))

/-- RESUME GROUP: a HELD group enters RESUME_WAIT and admission is asked for, unless a stow is in force; where it may be resumed
from TRACKING and fits, it tracks again at once; the other answers change nothing but the response (R55, R56). That the round is run
within the same step is the model's reading (log 7). The resume from SLEWING is stated with the rounds (RoundAdmitsInRank). -/
def Obligations.ResumeGroupAsks : Prop :=
  ∀ (g : SlotId) (s : State), s.hears .scheduler = true →
    let refused := fun st => exec (.resumeGroup .scheduler (.fields ⟨g.val⟩)) s
      = .next (s.putHolder .scheduler (some ⟨0x15, st, []⟩))
    ((s.group g).state = .held → s.stowInForce = false →
        ∃ t, exec (.resumeGroup .scheduler (.fields ⟨g.val⟩)) s = .next t
          ∧ t.holder .scheduler = some ⟨0x15, .ok, []⟩
          ∧ Within (s.putHolder .scheduler (t.holder .scheduler)) t
          ∧ ((t.group g).state = .resumeWait ∨ (t.group g).state = .loading ∨ (t.group g).state = .tracking
              ∨ (t.group g).state = .positioned)
          ∧ (s.censusDone = false → t.group g = { s.group g with state := .resumeWait })
          ∧ (s.censusDone = true → (∀ k, k ≠ g → (s.group k).state ≠ .resumeWait) → (s.group g).heldFrom = some .tracking →
              (∀ m ∈ (s.group g).active, (s.dish m.order.dish).motion = .engaged ∧ m.braked = true) →
              s.feeder.d + ((s.group g).activeDishes.map fun d => (s.cfg d).az.trackDraw + (s.cfg d).el.trackDraw).sum
                + min s.feeder.h s.feeder.guard ≤ s.feeder.allowance →
              t.group g = { s.group g with state := .tracking, heldFrom := none }))
    ∧ ((s.group g).state = .held → s.stowInForce = true → refused .conditionActive)
    ∧ ((s.group g).state = .holding → refused .busy)
    ∧ ((s.group g).state ≠ .held → (s.group g).state ≠ .holding → refused .wrongState)
    ∧ ∀ n, 4 ≤ n →
        exec (.resumeGroup .scheduler (.fields ⟨n⟩)) s = .next (s.putHolder .scheduler (some ⟨0x15, .badField, []⟩))

/-- RELEASE GROUP of a tracking group and ABORT GROUP of any group: each active member leaves the group and is stopped unless it is
FAULT or OFFLINE; with no order waiting the slot is FREE with its last result and its stream at the power-on values. RELEASE is refused in
FREE, LOADING, SLEWING, HOLDING and RESUME_WAIT, ABORT in FREE (R57, R58, R76). -/
def Obligations.EndedGroupsAreStopped : Prop :=
  ∀ (g : SlotId) (s : State), s.hears .scheduler = true →
    (∀ (i : Instr) (code : Byte) (result : GroupResult),
      ((i = .releaseGroup .scheduler (.fields ⟨g.val⟩) ∧ code = 0x16 ∧ result = .done
          ∧ ((s.group g).state = .tracking ∨ (s.group g).state = .trackHalted))
        ∨ (i = .abortGroup .scheduler (.fields ⟨g.val⟩) ∧ code = 0x17 ∧ result = .aborted ∧ (s.group g).state ≠ .free)) →
      ∃ t, exec i s = .next t ∧ t.holder .scheduler = some ⟨code, .ok, []⟩
        ∧ (∀ d ∈ (s.group g).activeDishes,
            ((s.dish d).motion = .fault ∨ (s.dish d).motion = .offline → t.holdOf d = { s.holdOf d with
              record := { s.dish d with group := none } })
            ∧ ((s.dish d).motion ≠ .fault → (s.dish d).motion ≠ .offline →
              t.dish d = { s.dish d with motion := .stopping, group := none } ∧ t.slot d = .stop
              ∧ t.feeder.reservations[d] = none))
        ∧ (s.orders = [] → t.group g = { s.group g with state := .free, lastResult := result } ∧ t.stream g = Stream.reset)
        ∧ Within (s.putHolder .scheduler (t.holder .scheduler)) t
        ∧ SparesBut (s.group g).activeDishes [g] s t)
    ∧ ((s.group g).state = .free ∨ (s.group g).state = .loading ∨ (s.group g).state = .slewing
          ∨ (s.group g).state = .holding ∨ (s.group g).state = .resumeWait →
        exec (.releaseGroup .scheduler (.fields ⟨g.val⟩)) s
          = .next (s.putHolder .scheduler (some ⟨0x16, .wrongState, []⟩)))
    ∧ ((s.group g).state = .free →
        exec (.abortGroup .scheduler (.fields ⟨g.val⟩)) s = .next (s.putHolder .scheduler (some ⟨0x17, .wrongState, []⟩)))

/-- RELEASE GROUP of a POSITIONED or HELD group: ENGAGED members enter IDLE, a STOPPING one stays so, and the slot is FREE with
DONE, where no stow is in force and nothing else waits; RELEASE and ABORT are refused in the states that do not take them and for
slots above 3 (R11, R57, R58). -/
def Obligations.BrakedGroupsAreReleased : Prop :=
  ∀ (g : SlotId) (s : State), s.hears .scheduler = true →
    ((s.group g).state = .positioned ∨ (s.group g).state = .held → s.stowInForce = false → s.NoContender →
        ∃ t, exec (.releaseGroup .scheduler (.fields ⟨g.val⟩)) s = .next t
          ∧ t.holder .scheduler = some ⟨0x16, .ok, []⟩
          ∧ t.group g = { s.group g with state := .free, lastResult := .done } ∧ t.stream g = Stream.reset
          ∧ (∀ d ∈ (s.group g).activeDishes,
              ((s.dish d).motion = .engaged →
                t.dish d = { s.dish d with
                  motion := .idle, group := none, cmdAz := (s.dish d).repAz, cmdEl := (s.dish d).repEl }
                ∧ t.slot d = if s.moveLocked d then .holdBrake else .keep)
              ∧ ((s.dish d).motion = .stopping → t.dish d = { s.dish d with group := none } ∧ t.slot d = s.slot d))
          ∧ (∀ d, d ∉ (s.group g).activeDishes → t.holdOf d = s.holdOf d)
          ∧ (∀ k, k ≠ g → t.group k = s.group k ∧ t.stream k = s.stream k)
          ∧ t.feeder.reservations = s.feeder.reservations ∧ t.stow = s.stow)
    ∧ ((s.group g).state = .free ∨ (s.group g).state = .loading ∨ (s.group g).state = .slewing
          ∨ (s.group g).state = .holding ∨ (s.group g).state = .resumeWait →
        exec (.releaseGroup .scheduler (.fields ⟨g.val⟩)) s
          = .next (s.putHolder .scheduler (some ⟨0x16, .wrongState, []⟩)))
    ∧ ((s.group g).state = .free →
        exec (.abortGroup .scheduler (.fields ⟨g.val⟩)) s = .next (s.putHolder .scheduler (some ⟨0x17, .wrongState, []⟩)))
    ∧ ∀ n, 4 ≤ n →
        exec (.releaseGroup .scheduler (.fields ⟨n⟩)) s = .next (s.putHolder .scheduler (some ⟨0x16, .badField, []⟩))
        ∧ exec (.abortGroup .scheduler (.fields ⟨n⟩)) s = .next (s.putHolder .scheduler (some ⟨0x17, .badField, []⟩))

/-! ## Track streams -/

/-- PUSH TRACK to a streaming group takes the first k entries, those before the first entry out of range and the 64th place, and
answers with k and with what ended the walk; a starved group is revived; a slot above 3, a bad count and a slot without a streaming group
are refused whole (section 5.2, R77, R86, R87). That a bad count is judged before the streaming group, and that a load above the low mark
clears the low reported mark in every streaming state, are the model's choices (log 17, log 43). -/
def Obligations.PushTrackWalks : Prop :=
  (∀ (f : PushTrackFields) (s : State), s.hears .scheduler = true → 4 ≤ f.slot →
      exec (.pushTrack .scheduler (.fields f)) s = .next (s.putHolder .scheduler (some ⟨0x18, .badField, []⟩)))
    ∧ ∀ (g : SlotId) (f : PushTrackFields) (s : State), s.hears .scheduler = true → f.slot = g.val →
    let inRange := fun e : EntryFields => -400 ≤ e.az ∧ e.az ≤ 400 ∧ -400 ≤ e.el ∧ e.el ≤ 400
    let load := (s.stream g).buffer.length
    let refused := fun st => exec (.pushTrack .scheduler (.fields f)) s
      = .next (s.putHolder .scheduler (some ⟨0x18, st, []⟩))
    (f.count < 1 ∨ 16 < f.count ∨ f.count ≠ f.entries.length → refused .badField)
    ∧ (1 ≤ f.count → f.count ≤ 16 → f.count = f.entries.length →
        ((s.group g).streaming = false → refused .wrongState)
        ∧ ((s.group g).streaming = true →
            ∃ (t : State) (k : Nat) (st : Status) (rest : List Byte), k ≤ f.count
              ∧ exec (.pushTrack .scheduler (.fields f)) s = .next t
              ∧ t.holder .scheduler = some ⟨0x18, st, BitVec.ofNat 8 k :: rest⟩
              ∧ (∀ e ∈ f.entries.take k, inRange e) ∧ (0 < k → load + k ≤ 64)
              ∧ (t.stream g).buffer = (s.stream g).buffer
                  ++ ((f.entries.take k).map fun e => TrackEntry.mk e.az e.el (e.flags.getLsbD 0))
              ∧ (st = .ok ↔ k = f.count)
              ∧ (st = .badField ↔ ∃ e, f.entries[k]? = some e ∧ ¬ inRange e)
              ∧ (st = .full ↔ ∃ e, f.entries[k]? = some e ∧ inRange e ∧ 64 ≤ load + k)
              ∧ (t.stream g).lowReported
                  = ((s.stream g).lowReported && decide (k = 0 ∨ load + k ≤ s.settings.track.lowMark))
              ∧ (let revived := 0 < k ∧ (s.group g).state = .trackHalted ∧ (s.stream g).starved = true
                (t.group g).state = (if revived then .tracking else (s.group g).state)
                ∧ (t.stream g).starved = ((s.stream g).starved && !decide revived)
                ∧ (t.stream g).coast = (if revived then 0 else (s.stream g).coast))
              ∧ (t.stream g).lock = (s.stream g).lock ∧ (t.stream g).finish = (s.stream g).finish
              ∧ (∀ j, j ≠ g → t.group j = s.group j ∧ t.stream j = s.stream j)
              ∧ t = { s with groups := t.groups, streams := t.streams }.putHolder .scheduler (t.holder .scheduler)))

/-- FLUSH TRACK empties the buffer and clears the fault lock and the low reported mark; CLEAR TRACK FAULT removes the failed entry
with its lock; each returns a fault-locked TRACK_HALTED group to TRACKING; a slot above 3, a slot without a streaming group and, for CLEAR,
a stream without a lock are refused (section 5.2, R78, R79, R87). -/
def Obligations.FlushAndClearFault : Prop :=
  ∀ (g : SlotId) (s : State), s.hears .scheduler = true →
    ((s.group g).streaming = true →
        ∃ (t : State) (fields : List Byte), exec (.flushTrack .scheduler (.fields ⟨g.val⟩)) s = .next t
          ∧ t.holder .scheduler = some ⟨0x19, .ok, fields⟩
          ∧ t.stream g = { s.stream g with buffer := [], lock := none, lowReported := false }
          ∧ (t.group g) = { s.group g with
              state := if (s.group g).state = .trackHalted ∧ (s.stream g).lock ≠ none then .tracking
                else (s.group g).state }
          ∧ (∀ k, k ≠ g → t.group k = s.group k ∧ t.stream k = s.stream k)
          ∧ t = { s with groups := t.groups, streams := t.streams }.putHolder .scheduler (t.holder .scheduler))
    ∧ ((s.group g).streaming = true → (s.stream g).lock ≠ none →
        ∃ (t : State) (fields : List Byte), exec (.clearTrackFault .scheduler (.fields ⟨g.val⟩)) s = .next t
          ∧ t.holder .scheduler = some ⟨0x1A, .ok, fields⟩
          ∧ t.stream g = { s.stream g with
              buffer := (s.stream g).buffer.tail, lock := none
              lowReported := (s.stream g).lowReported
                || decide ((s.stream g).buffer.tail.length ≤ s.settings.track.lowMark) }
          ∧ (t.group g) = { s.group g with
              state := if (s.group g).state = .trackHalted then .tracking else (s.group g).state }
          ∧ (∀ k, k ≠ g → t.group k = s.group k ∧ t.stream k = s.stream k)
          ∧ t = { s with groups := t.groups, streams := t.streams }.putHolder .scheduler (t.holder .scheduler))
    ∧ ((s.group g).streaming = true → (s.stream g).lock = none →
        exec (.clearTrackFault .scheduler (.fields ⟨g.val⟩)) s
          = .next (s.putHolder .scheduler (some ⟨0x1A, .wrongState, []⟩)))
    ∧ (∀ n, 4 ≤ n →
        exec (.flushTrack .scheduler (.fields ⟨n⟩)) s = .next (s.putHolder .scheduler (some ⟨0x19, .badField, []⟩))
        ∧ exec (.clearTrackFault .scheduler (.fields ⟨n⟩)) s = .next (s.putHolder .scheduler (some ⟨0x1A, .badField, []⟩)))
    ∧ ((s.group g).streaming = false →
        exec (.flushTrack .scheduler (.fields ⟨g.val⟩)) s = .next (s.putHolder .scheduler (some ⟨0x19, .wrongState, []⟩))
        ∧ exec (.clearTrackFault .scheduler (.fields ⟨g.val⟩)) s
          = .next (s.putHolder .scheduler (some ⟨0x1A, .wrongState, []⟩)))

/-! ## Weather and stow -/

/-- WIND SAMPLE: the mast takes mean and gust as limited, the level of R94 and a new staleness timer. A change of its state or level
closes an open snapshot with every mast copied and the present frame; its entry to TRIP or its leaving sets its trip-seen flag, and its
entry brings the stow in force and the mast into the trip order; a sample that changes no level of a LIVE mast changes the mast alone. A
mast that is not there or not configured is refused (R92, R94 to R96, R99). That the answer's byte of the level is its place in R91's list
is the model's choice (log 54). -/
def Obligations.WindSampleTaken : Prop :=
  ∀ (f : WindSampleFields) (s : State), s.hears .safety = true →
    let w := s.settings.wind
    let mean := min 1000 f.mean
    let gust := max (min 1000 f.gust) mean
    let level := if w.tripGust ≤ gust then Level.trip else if w.watchMean ≤ mean then .watch
      else if w.releaseGust ≤ gust then .elevated else .calm
    ((∀ m : MastId, f.mast = m.val → s.settings.mastConfigured[m] = false) →
        exec (.windSample .safety (.fields f)) s = .next (s.putHolder .safety (some ⟨0x20, .badField, []⟩)))
    ∧ ∀ m : MastId, f.mast = m.val → s.settings.mastConfigured[m] = true →
        let former := s.wind.masts[m]
        let changed := former.state ≠ .live ∨ former.level ≠ some level
        let crossed := former.level ≠ some level ∧ (former.level = some .trip ∨ level = .trip)
        ∃ t, exec (.windSample .safety (.fields f)) s = .next t
          ∧ t.holder .safety = some ⟨0x20, .ok, u16 mean ++ u16 gust ++ [BitVec.ofNat 8 level.place]⟩
          ∧ t.wind.masts[m] = { state := .live, mean := mean, gust := gust, level := some level
                                timer := some (s.clock + w.staleness * 1000) }
          ∧ (∀ k : MastId, k ≠ m → t.wind.masts[k] = s.wind.masts[k] ∧ t.wind.tripSeen[k] = s.wind.tripSeen[k])
          ∧ (crossed → t.wind.tripSeen[m] = true) ∧ (¬ crossed → t.wind.tripSeen[m] = s.wind.tripSeen[m])
          ∧ (s.wind.snapOpen = true ∧ changed → t.wind.snapOpen = false ∧ t.wind.captureFrame = s.ring.frame
              ∧ ∀ k : MastId, t.wind.snapshot[k]
                  = SnapEntry.mk s.settings.mastConfigured[k] t.wind.masts[k].state t.wind.masts[k].level)
          ∧ (¬ (s.wind.snapOpen = true ∧ changed) → t.wind.snapOpen = s.wind.snapOpen
              ∧ t.wind.captureFrame = s.wind.captureFrame ∧ t.wind.snapshot = s.wind.snapshot)
          ∧ t.fixed = { s.fixed with wind := t.wind, ports := (s.putHolder .safety (t.holder .safety)).ports }
          ∧ (level = .trip → former.level ≠ some .trip → t.stowInForce = true ∧ m ∈ t.stow.tripOrder)
          ∧ (s.Quiet → ¬ changed →
              t = { s with wind := { s.wind with masts := t.wind.masts } }.putHolder .safety (t.holder .safety))

/-- STOW ARRAY: in ACTIVE nothing but the response; else the stow is in force, every group dissolved with STOW_ABORT and its active
members stopped, SHEDDING dishes stopped and the Shed List empty, marks set on dishes that cannot go, braked dishes already stowed
in STOWED, and in ACTIVE no zone POWERED or WAITING (R59, R99 to R101, R111, R132, R142). That the response's stow state is the one after
the rounds of the same step, and not the ACTIVE entered first, is the model's reading (log 32). -/
def Obligations.StowArrayTriggers : Prop :=
  ∀ s : State, s.hears .safety = true →
    (s.stow.state = .active → s.Quiet →
        exec (.stowArray .safety (.fields {})) s = .next (s.putHolder .safety (some ⟨0x21, .ok, [0x02]⟩)))
    ∧ (s.stow.state ≠ .active → s.FeederLawful →
        ∃ t, exec (.stowArray .safety (.fields {})) s = .next t ∧ t.stowInForce = true
          ∧ t.holder .safety = some ⟨0x21, .ok, [BitVec.ofNat 8 t.stow.state.place]⟩
          ∧ (∀ g, (t.group g).state = .free
              ∧ ((s.group g).state ≠ .free → (t.group g).lastResult = .stowAbort ∧ t.stream g = Stream.reset
                ∧ (t.source .groupAbort).pending = true
                ∧ ∀ d ∈ (s.group g).activeDishes, (t.dish d).group = none
                  ∧ ((s.dish d).motion ≠ .fault → (s.dish d).motion ≠ .offline →
                    (t.dish d).motion = .stopping ∧ t.slot d = .stop ∧ t.feeder.reservations[d] = none)))
          ∧ t.melt.shedList = []
          ∧ (∀ d, (s.dish d).motion = .shedding →
              (t.dish d).motion = .stopping ∧ t.slot d = .stop ∧ t.feeder.reservations[d] = none)
          ∧ (∀ d, (s.cfg d).present = true → (s.dish d).motion = .fault ∨ (s.dish d).motion = .offline →
              t.mark d = if s.moveLocked d then .blocked else .unreachable)
          ∧ (∀ d, (s.cfg d).present = true → (s.dish d).motion = .idle → (s.dish d).brakesSet = true →
              89900 ≤ (s.dish d).repEl → (∀ g, (s.group g).state ≠ .free → d ∉ (s.group g).activeDishes) →
              (t.dish d).motion = .stowed ∧ t.slot d = .holdBrake ∧ t.mark d = .none)
          ∧ (t.stow.state = .active →
              t.feeder.powerOrder = [] ∧ ∀ z, (t.zone z).state ≠ .powered ∧ (t.zone z).state ≠ .waiting)
          ∧ t.stow.tripOrder = s.stow.tripOrder ∧ t.orders = s.orders
          ∧ t.fixed = { s.fixed with ports := (s.putHolder .safety (t.holder .safety)).ports })

/-- RESET WEATHER SNAPSHOT opens the snapshot and clears the trip-seen flags; where a mast differs from its entry it captures at
once, the lowest-numbered differing mast naming the change; nothing else changes (R95, R97). That the answer's byte is 0 for open and 1
for closed is the model's choice (R179 gives the byte of a flag; log 11). -/
def Obligations.SnapshotReset : Prop :=
  ∀ s : State, s.hears .safety = true →
    let now := fun m : MastId =>
      SnapEntry.mk s.settings.mastConfigured[m] s.wind.masts[m].state s.wind.masts[m].level
    ∃ t, exec (.resetWeatherSnapshot .safety (.fields {})) s = .next t
      ∧ (∀ m : MastId, t.wind.tripSeen[m] = false) ∧ t.wind.masts = s.wind.masts
      ∧ ((∀ m : MastId, s.wind.snapshot[m] = now m) →
          t.wind.snapOpen = true ∧ t.wind.snapshot = s.wind.snapshot ∧ t.wind.captureFrame = s.wind.captureFrame
            ∧ t.sources = s.sources ∧ t.holder .safety = some ⟨0x23, .ok, [0]⟩)
      ∧ (∀ m : MastId, s.wind.snapshot[m] ≠ now m → (∀ k : MastId, k < m → s.wind.snapshot[k] = now k) →
          t.wind.snapOpen = false ∧ (∀ k : MastId, t.wind.snapshot[k] = now k)
            ∧ t.wind.captureFrame = s.ring.frame ∧ (t.source .weather).pending = true
            ∧ (t.source .weather).detail = some (.weatherCapture m s.wind.snapshot[m].state s.wind.snapshot[m].level
                s.wind.masts[m].state s.wind.masts[m].level)
            ∧ t.holder .safety = some ⟨0x23, .ok, [1]⟩)
      ∧ (∀ x, x ≠ .weather → t.source x = s.source x)
      ∧ t = { s with wind := t.wind, sources := t.sources }.putHolder .safety (t.holder .safety)

/-! ## Feeder -/

/-- SET ALLOWANCE and SET MELT GUARD. The value held already changes nothing but the response. A lower allowance sheds heaters until
the rest fits; a reservation total above it sets the over-commit mark, which keeps its cause; a new guard alone asks for a round
(R118, R122 to R124). That the response's D and H are those after the rounds of the same step is the model's choice (log 32). -/
def Obligations.AllowanceAndGuardSet : Prop :=
  ∀ (v : Nat) (s : State), s.hears .safety = true →
    (v = s.feeder.allowance → ∃ fields, exec (.setAllowance .safety (.fields ⟨v⟩)) s
        = .next (s.putHolder .safety (some ⟨0x25, .ok, u16 v ++ u16 s.feeder.d ++ u16 s.feeder.h ++ [0] ++ fields⟩)))
    ∧ (v ≠ s.feeder.allowance →
        ∃ t fields, exec (.setAllowance .safety (.fields ⟨v⟩)) s = .next t
          ∧ t.holder .safety = some ⟨0x25, .ok, u16 v ++ u16 t.feeder.d ++ u16 t.feeder.h ++ fields⟩
          ∧ Within ({ s with feeder := { s.feeder with allowance := v } }.putHolder .safety (t.holder .safety)) t
          ∧ SparesBut [] [] s t
          ∧ (v < s.feeder.allowance → t.feeder.h = 0 ∨ t.feeder.d + t.feeder.h ≤ v)
          ∧ (v < t.feeder.d → t.feeder.overCommit ≠ none)
          ∧ (s.NoContender → s.stow.state ≠ .active →
              t.feeder.reservations = s.feeder.reservations
              ∧ t.feeder.overCommit = if v < s.feeder.d then some (s.feeder.overCommit.getD .allowance) else none))
    ∧ (v = s.feeder.guard → exec (.setMeltGuard .safety (.fields ⟨v⟩)) s
        = .next (s.putHolder .safety (some ⟨0x26, .ok, u16 v⟩)))
    ∧ (v ≠ s.feeder.guard →
        ∃ t, exec (.setMeltGuard .safety (.fields ⟨v⟩)) s = .next t ∧ t.holder .safety = some ⟨0x26, .ok, u16 v⟩
          ∧ Within ({ s with feeder := { s.feeder with guard := v } }.putHolder .safety (t.holder .safety)) t
          ∧ SparesBut [] [] s t
          ∧ (s.Quiet → s.NoContender → s.stow.state ≠ .active →
              t = { s with feeder := { s.feeder with guard := v } }.putHolder .safety (t.holder .safety)))

/-! ## Melt -/

/-- MELT ORDER: each zone named gains the energy up to 10^9 J, an IDLE one joining the tail of the Melt Rotation List, BLOCKED where a
block condition holds; the ice bit sets the ice flags; the other zones and flags keep theirs. A flag newly set excludes an active member
from its group with ICED and the present frame: its dish is in no group, and stopped unless it is FAULT or OFFLINE; a group left with no
active member is FREE with ALL_EXCLUDED and GROUP_ABORT; groups and dishes not so struck are left to the rounds alone (R49 to R51). The
shed bit offers each dish named to the Shed List: outside a stow, one that is not listed, not locked, not lock-requested and IDLE joins the
tail with the present frame, and the others are left as they are. A dish, mask or energy out of range is refused (R127 to R130, R132,
R138). -/
def Obligations.MeltOrderAdds : Prop :=
  ∀ (f : MeltOrderFields) (s : State), s.hears .safety = true →
    let named := fun d : DishId => (s.cfg d).present = true ∧ (f.dish = 255 ∨ f.dish = d.val)
    let asked := fun k : ZoneKind => match k with
      | .rim => f.mask.getLsbD 0 = true
      | .inner => f.mask.getLsbD 1 = true
      | .subref => f.mask.getLsbD 2 = true
    let valid := (f.dish = 255 ∨ ∃ d, named d) ∧ (∃ k, asked k) ∧ 1 ≤ f.energy ∧ f.energy ≤ 1000000
    let iced := fun d : DishId => named d ∧ f.flags.getLsbD 0 = true ∧ s.melt.ice[d] = false
    let struck := fun g : SlotId => ∃ d, iced d ∧ (s.dish d).group = some g
    (¬ valid → exec (.meltOrder .safety (.fields f)) s = .next (s.putHolder .safety (some ⟨0x28, .badField, []⟩)))
    ∧ (valid →
        ∃ t fields, exec (.meltOrder .safety (.fields f)) s = .next t ∧ t.holder .safety = some ⟨0x28, .ok, fields⟩
          ∧ t.fixed = { s.fixed with ports := (s.putHolder .safety (t.holder .safety)).ports } ∧ t.orders <:+ s.orders
          ∧ (f.flags.getLsbD 0 = false → SparesBut [] [] s t)
          ∧ SparesBut (allDishes.filter fun d => decide (iced d ∨ ∃ g, struck g ∧ d ∈ (s.group g).activeDishes))
              (allSlots.filter fun g => decide (struck g)) s t
          ∧ (∀ d g, iced d → (s.dish d).group = some g →
              (t.dish d).group = none ∧ t.melt.ice[d] = true
              ∧ ((s.dish d).motion ≠ .fault → (s.dish d).motion ≠ .offline →
                  (t.dish d).motion = .stopping ∧ t.feeder.reservations[d] = none
                  ∧ ((∀ k, k ≠ g → d ∉ (s.group k).activeDishes) → t.slot d = .stop))
              ∧ (s.orders = [] → (s.group g).state ≠ .resumeWait →
                  (t.group g).members = (s.group g).members.map fun m =>
                    if iced m.order.dish ∧ (s.dish m.order.dish).group = some g then
                      { m with status := .excluded .iced s.ring.frame }
                    else m)
              ∧ (s.orders = [] → (∀ e ∈ (s.group g).activeDishes, iced e ∧ (s.dish e).group = some g) →
                  (t.group g).state = .free ∧ (t.group g).lastResult = .allExcluded
                  ∧ (t.source .groupAbort).pending = true))
          ∧ (s.NoContender → s.stow.state ≠ .active → f.flags.getLsbD 1 = false →
              (∀ z : ZoneId, named z.dish → asked z.kind →
                (t.zone z).remaining = min 1000000000 ((s.zone z).remaining + f.energy * 1000)
                ∧ ((s.zone z).state ≠ .idle → (t.zone z).carry = (s.zone z).carry)
                ∧ ((s.zone z).state = .idle → s.blocks z.dish = true → (t.zone z).state = .blocked)
                ∧ ((s.zone z).state = .idle → s.blocks z.dish = false →
                    (t.zone z).state = .waiting ∨ (t.zone z).state = .powered))
              ∧ (∀ z : ZoneId, ¬ (named z.dish ∧ asked z.kind) → (t.zone z).remaining = (s.zone z).remaining)
              ∧ (∃ new, t.melt.rotation = s.melt.rotation ++ new
                ∧ ∀ z : ZoneId, z ∈ new ↔ named z.dish ∧ asked z.kind ∧ (s.zone z).state = .idle ∧ z ∉ s.melt.rotation)
              ∧ ∀ d : DishId, t.melt.ice[d] = (s.melt.ice[d] || (f.flags.getLsbD 0 && decide (named d))))
          ∧ (s.censusDone = false → s.stow.state ≠ .active → f.flags.getLsbD 0 = false → f.flags.getLsbD 1 = true →
              t.melt.shedList = s.melt.shedList ++ (allDishes.filter fun d => decide (named d) && !s.shedListed d
                  && !s.stowInForce && !s.moveLocked d && !s.lockRequested d && decide ((s.dish d).motion = .idle)).map
                    (ShedEntry.mk · s.ring.frame)
              ∧ t.melt.shedResult = s.melt.shedResult ∧ t.melt.shedMoves = s.melt.shedMoves))

/-- CANCEL MELT: each zone named that is not IDLE is IDLE with nothing left, out of the list and the power order; an ice flag with
no energy left under it is cleared; the dishes named leave the Shed List with SKIPPED (R131, R138). -/
def Obligations.CancelMeltClears : Prop :=
  ∀ (f : CancelMeltFields) (s : State), s.hears .safety = true → s.FeederLawful →
    let named := fun d : DishId => (s.cfg d).present = true ∧ (f.dish = 255 ∨ f.dish = d.val)
    let asked := fun k : ZoneKind => match k with
      | .rim => f.mask.getLsbD 0 = true
      | .inner => f.mask.getLsbD 1 = true
      | .subref => f.mask.getLsbD 2 = true
    let valid := (f.dish = 255 ∨ ∃ d, named d) ∧ ∃ k, asked k
    (¬ valid → exec (.cancelMelt .safety (.fields f)) s = .next (s.putHolder .safety (some ⟨0x29, .badField, []⟩)))
    ∧ (valid →
        ∃ t fields, exec (.cancelMelt .safety (.fields f)) s = .next t ∧ t.holder .safety = some ⟨0x29, .ok, fields⟩
          ∧ (∀ z : ZoneId, named z.dish → asked z.kind → (s.zone z).state ≠ .idle →
              t.zone z = { state := .idle, remaining := 0, carry := 0, power := none, timer := none, lastCharge := none }
              ∧ z ∉ t.melt.rotation ∧ z ∉ t.feeder.powerOrder.map (·.zone))
          ∧ (∀ d : DishId, named d →
              (∀ k, (s.zone ⟨d, k⟩).remaining = 0 ∨ asked k ∧ (s.zone ⟨d, k⟩).state ≠ .idle) → t.melt.ice[d] = false)
          ∧ (∀ d : DishId, named d → s.shedListed d = true →
              t.shedListed d = false ∧ t.melt.shedResult[d] = .skipped)
          ∧ Within (s.putHolder .safety (t.holder .safety)) t ∧ SparesBut [] [] s t)

/-! ## Configuration and DRIVE RESET -/

/-- WRITE CONFIG, section DISH: a dish index of 48 or more, no item, an item out of range or track draws above the smaller ramp draw are
refused with BAD_FIELD, a present flag cleared on a dish in use with BUSY; else the items carried stand in the record. A flag cleared
leaves the dish UNKNOWN, not framed, its miss count 0, its reported fields at their power-on values, its mark lost, its zones cancelled and
its ice flag clear, and keeps its lock entries; a flag set leaves it UNKNOWN, and UNREACHABLE where a stow is in force (R8, R9, R109, R131,
R172). The model's readings and choices: the 0 or 1 of the flag (log 19), the byte that names an item (log 6), a report window that a
cleared flag closes (log 22), and that the mark UNREACHABLE comes without STOW_PROBLEM (log 36). -/
def Obligations.DishConfigWritten : Prop :=
  (∀ (f : DishConfigFields) (s : State), s.hears .safety = true → 48 ≤ f.dish →
    ∃ b n, exec (.writeConfigDish .safety (.fields f)) s
      = .next { s.putHolder .safety (some ⟨0x2B, .badField, [b]⟩) with fresh := n })
  ∧ ∀ (d : DishId) (f : DishConfigFields) (s : State), s.hears .safety = true → f.dish = d.val →
    let c := s.cfg d
    let within := fun lo hi (x : Option Nat) => ∀ n, x = some n → lo ≤ n ∧ n ≤ hi
    let valid := f ≠ ⟨f.dish, none, none, none, none, none, none, none, none, none, none, none, none⟩
      ∧ within 0 1 f.present
      ∧ within 1 400 f.azVmax ∧ within 1 50 f.azA ∧ within 1 1000 f.azRamp ∧ within 0 1000 f.azTrack
      ∧ within 1 400 f.elVmax ∧ within 1 50 f.elA ∧ within 1 1000 f.elRamp ∧ within 0 1000 f.elTrack
      ∧ within 0 5 f.mast ∧ within 0 255 f.stowRank ∧ within 15000 45000 f.shedEl
      ∧ f.azTrack.getD c.az.trackDraw + f.elTrack.getD c.el.trackDraw
          ≤ min (f.azRamp.getD c.az.rampDraw) (f.elRamp.getD c.el.rampDraw)
    let clears := c.present = true ∧ f.present = some 0
    let sets := c.present = false ∧ f.present = some 1
    let used := (s.dish d).motion = .engaged ∨ (s.dish d).motion = .stopping ∨ (s.dish d).motion = .stowing
      ∨ (s.dish d).motion = .shedding ∨ s.feeder.reservations[d] ≠ none ∨ d ∈ s.stow.queue
      ∨ (∃ e ∈ s.melt.shedList, e.dish = d) ∨ (∃ g, s.staging = some g ∧ ∃ m ∈ g.members, m.dish = d)
      ∨ ∃ o ∈ s.orders, ∃ m ∈ o.members, m.dish = d
    (¬ valid → ∃ b n, exec (.writeConfigDish .safety (.fields f)) s
        = .next { s.putHolder .safety (some ⟨0x2B, .badField, [b]⟩) with fresh := n })
    ∧ (valid → clears → used → exec (.writeConfigDish .safety (.fields f)) s
        = .next (s.putHolder .safety (some ⟨0x2B, .busy, [0]⟩)))
    ∧ (valid → ¬ (clears ∧ used) →
        ∃ t fields, exec (.writeConfigDish .safety (.fields f)) s = .next t
          ∧ t.holder .safety = some ⟨0x2B, .ok, fields⟩
          ∧ ((t.cfg d).present = true ↔ f.present = some 1 ∨ f.present = none ∧ c.present = true)
          ∧ (t.cfg d).az = ⟨f.azVmax.getD c.az.vmax, f.azA.getD c.az.a, f.azRamp.getD c.az.rampDraw,
              f.azTrack.getD c.az.trackDraw⟩
          ∧ (t.cfg d).el = ⟨f.elVmax.getD c.el.vmax, f.elA.getD c.el.a, f.elRamp.getD c.el.rampDraw,
              f.elTrack.getD c.el.trackDraw⟩
          ∧ (t.cfg d).mast.val = f.mast.getD c.mast.val ∧ (t.cfg d).stowRank = f.stowRank.getD c.stowRank
          ∧ (t.cfg d).shedEl = (f.shedEl.map Int.ofNat).getD c.shedEl
          ∧ (∀ e, e ≠ d → t.cfg e = s.cfg e)
          ∧ t.settings = { s.settings with dish := t.settings.dish }
          ∧ t.ports = (s.putHolder .safety (t.holder .safety)).ports
          ∧ (s.Quiet → ¬ clears → ¬ sets →
              t = { s with settings := t.settings }.putHolder .safety (t.holder .safety))
          ∧ (clears → t.dish d = { Dish.reset with cmdAz := (s.dish d).cmdAz, cmdEl := (s.dish d).cmdEl }
              ∧ t.slot d = .keep ∧ t.ring.miss[d] = 0 ∧ t.ring.framed[d] = false ∧ t.ring.window ≠ some d ∧ t.mark d = .none
              ∧ (∀ e, e ≠ d → t.mark e = s.mark e ∧ ((s.dish e).motion.atCall = false → t.holdOf e = s.holdOf e))
              ∧ t.locks = s.locks
              ∧ (s.FeederLawful → ∀ z : ZoneId, z.dish = d → (s.zone z).state ≠ .idle →
                  t.zone z = { state := .idle, remaining := 0, carry := 0, power := none, timer := none, lastCharge := none }
                  ∧ z ∉ t.melt.rotation ∧ z ∉ t.feeder.powerOrder.map (·.zone))
              ∧ (s.FeederLawful → ∀ z : ZoneId, z.dish = d → (s.zone z).state = .idle → t.zone z = s.zone z)
              ∧ ((∀ z : ZoneId, z.dish = d → (s.zone z).state = .idle → (s.zone z).remaining = 0) → t.melt.ice[d] = false))
          ∧ (sets → s.Quiet → t.dish d = { s.dish d with motion := .unknown }
              ∧ (∀ e, e ≠ d → t.dish e = s.dish e)
              ∧ t.mark d = (if s.stowInForce then .unreachable else s.mark d)
              ∧ (∀ e, e ≠ d → t.mark e = s.mark e)
              ∧ t = { s with
                  settings := t.settings, dishes := t.dishes, stow := { s.stow with marks := t.stow.marks }
                  ports := (s.putHolder .safety (t.holder .safety)).ports }))

/-- WRITE CONFIG, sections TRACK, MELT, STATION, WIND and MAST: what is out of range, against the section's constraint or carries no
item is refused with BAD_FIELD and changes no value; else the items carried stand in the section. A station enabled can be addressed from
then on, and one disabled until its bus's present transaction has ended. A mast set is NOT_SEEN with its timer started; one cleared has no
level and no timer; a stale count brought to the trip brings the stow in force (R75, R90, R91, R98, R126, R160, R172). The model's
readings: the one byte that names the failed item (log 6), the flags of one MAST write judged together (log 20), and the stations that can
be addressed as a field (log 40). -/
def Obligations.SectionsWritten : Prop :=
  ∀ s : State, s.hears .safety = true →
    let within := fun lo hi (x : Option Nat) => ∀ n, x = some n → lo ≤ n ∧ n ≤ hi
    let refused := fun i => ∃ b n, exec i s = .next { s.putHolder .safety (some ⟨0x2B, .badField, [b]⟩) with fresh := n }
    let written := fun i (c : Settings) => ∃ fields,
      exec i s = .next ({ s with settings := c }.putHolder .safety (some ⟨0x2B, .ok, fields⟩))
    (∀ f : TrackConfigFields,
        let valid := f ≠ ⟨none, none⟩ ∧ within 0 40 f.coastLimit ∧ within 0 63 f.lowMark
        (valid → written (.writeConfigTrack .safety (.fields f)) { s.settings with
          track := ⟨f.coastLimit.getD s.settings.track.coastLimit, f.lowMark.getD s.settings.track.lowMark⟩ })
        ∧ (¬ valid → refused (.writeConfigTrack .safety (.fields f))))
    ∧ (∀ f : MeltConfigFields,
        let valid := f ≠ ⟨none, none, none, none⟩ ∧ within 1 1000 f.rim ∧ within 1 1000 f.inner ∧ within 1 1000 f.subref
          ∧ within 10 600 f.slot
        (valid → written (.writeConfigMelt .safety (.fields f)) { s.settings with
          melt := ⟨f.rim.getD s.settings.melt.rim, f.inner.getD s.settings.melt.inner,
            f.subref.getD s.settings.melt.subref, f.slot.getD s.settings.melt.slot⟩ })
        ∧ (¬ valid → refused (.writeConfigMelt .safety (.fields f))))
    ∧ (∀ f : StationConfigFields,
        let after := Vector.ofFn fun n : StationId =>
          StationSettings.mk (f.addresses[n].getD s.settings.station[n].address)
            (f.enabled[n].getD s.settings.station[n].enabled)
        let valid := (∃ n : StationId, f.addresses[n] ≠ none ∨ f.enabled[n] ≠ none)
          ∧ (∀ n : StationId, within 0x08 0x77 f.addresses[n])
          ∧ ∀ a b : StationId, after[a].enabled = true → after[b].enabled = true → after[a].address = after[b].address →
              a = b
        (valid → ∃ fields, exec (.writeConfigStation .safety (.fields f)) s = .next ({ s with
            settings := { s.settings with station := after }
            ports := { s.ports with addressable := Vector.ofFn fun n : StationId => s.ports.addressable[n] || after[n].enabled }
          }.putHolder .safety (some ⟨0x2B, .ok, fields⟩)))
        ∧ (¬ valid → refused (.writeConfigStation .safety (.fields f))))
    ∧ (∀ f : WindConfigFields,
        let w := s.settings.wind
        let after := WindSettings.mk (f.tripGust.getD w.tripGust) (f.watchMean.getD w.watchMean)
          (f.releaseGust.getD w.releaseGust) (f.staleness.getD w.staleness) (f.staleTrip.getD w.staleTrip)
          (f.holdOff.getD w.holdOff)
        let valid := f ≠ ⟨none, none, none, none, none, none⟩ ∧ within 1 1000 f.tripGust ∧ within 1 1000 f.watchMean
          ∧ within 1 1000 f.releaseGust ∧ within 2 60 f.staleness ∧ within 1 6 f.staleTrip ∧ within 60 3600 f.holdOff
          ∧ after.releaseGust < after.tripGust
        (valid →
          (∃ t fields, exec (.writeConfigWind .safety (.fields f)) s = .next t
            ∧ t.holder .safety = some ⟨0x2B, .ok, fields⟩
            ∧ t.fixed = { s.fixed with
                settings := { s.settings with wind := after }
                ports := (s.putHolder .safety (t.holder .safety)).ports }
            ∧ (s.staleCount < w.staleTrip → after.staleTrip ≤ s.staleCount → t.stowInForce = true))
          ∧ (s.Quiet → after.staleTrip = w.staleTrip →
              written (.writeConfigWind .safety (.fields f)) { s.settings with wind := after }))
        ∧ (¬ valid → refused (.writeConfigWind .safety (.fields f))))
    ∧ ∀ f : MastConfigFields,
        let valid := ∃ m : MastId, f.flags[m] ≠ none
        (valid →
          ∃ t fields, exec (.writeConfigMast .safety (.fields f)) s = .next t
            ∧ t.holder .safety = some ⟨0x2B, .ok, fields⟩
            ∧ (∀ m : MastId,
                t.settings.mastConfigured[m] = f.flags[m].getD s.settings.mastConfigured[m]
                ∧ (t.settings.mastConfigured[m] = s.settings.mastConfigured[m] → t.wind.masts[m] = s.wind.masts[m])
                ∧ (s.settings.mastConfigured[m] = false → t.settings.mastConfigured[m] = true →
                    t.wind.masts[m] = { state := .notSeen, mean := 0, gust := 0, level := none
                                        timer := some (s.clock + s.settings.wind.staleness * 1000) })
                ∧ (s.settings.mastConfigured[m] = true → t.settings.mastConfigured[m] = false →
                    t.wind.masts[m] = { s.wind.masts[m] with level := none, timer := none }))
            ∧ t.fixed = { s.fixed with
                settings := { s.settings with mastConfigured := t.settings.mastConfigured }, wind := t.wind
                ports := (s.putHolder .safety (t.holder .safety)).ports }
            ∧ (s.staleCount < s.settings.wind.staleTrip → s.settings.wind.staleTrip ≤ t.staleCount →
                t.stowInForce = true))
        ∧ (¬ valid → refused (.writeConfigMast .safety (.fields f)))

/-- DRIVE RESET: staging area, Order Queue and Shed List empty; every group dissolved with RESET and its active members stopped;
every SHEDDING dish, and in ACTIVE every STOWING one, stopped; a stow that is not in ACTIVE is left alone (R60, R113, R142, R175). That
the order staged is kept for a COMMIT ORDER that falls together with it, and for no other, is the model's reading of R175 beside R35 and
R60 (log 50). -/
def Obligations.DriveResetEmpties : Prop :=
  ∀ s : State, s.hears .safety = true →
    let stopped := fun (t : State) d =>
      (t.dish d).motion = .stopping ∧ t.slot d = .stop ∧ t.feeder.reservations[d] = none
    ∃ t fields, exec (.driveReset .safety (.fields {})) s = .next t ∧ t.holder .safety = some ⟨0x2D, .ok, fields⟩
      ∧ t.staging = none ∧ t.orders = [] ∧ t.melt.shedList = []
      ∧ (∀ g, ((s.group g).state = .free → t.group g = s.group g ∧ t.stream g = s.stream g)
          ∧ ((s.group g).state ≠ .free →
            t.group g = { s.group g with state := .free, lastResult := .reset } ∧ t.stream g = Stream.reset
            ∧ (t.source .groupAbort).pending = true
            ∧ ∀ d ∈ (s.group g).activeDishes, (t.dish d).group = none
              ∧ ((s.dish d).motion ≠ .fault → (s.dish d).motion ≠ .offline → stopped t d)))
      ∧ (∀ d, (s.dish d).motion = .shedding → stopped t d)
      ∧ (∀ d : DishId, (s.dish d).motion = .shedding →
          (∀ g, (s.group g).state ≠ .free → d ∉ (s.group g).activeDishes) → s.shedListed d = false →
          t.melt.shedResult[d] = .reset ∧ t.melt.shedMoves[d] = none)
      ∧ (s.stow.state = .active → ∀ d : DishId, (s.dish d).motion = .stowing →
          stopped t d
          ∧ ((∀ g, (s.group g).state ≠ .free → d ∉ (s.group g).activeDishes) → t.stow.moves[d] = none))
      ∧ (s.stow.state ≠ .active → t.stow = s.stow)
      ∧ t.fixed = { s.fixed with
          staging := none, resetCommit := t.resetCommit, ports := (s.putHolder .safety (t.holder .safety)).ports }
      ∧ (∀ g, t.resetCommit = .holds g ↔ s.resetCommit = .falls ∧ s.staging = some g)
      ∧ t.resetCommit ≠ .falls

/-! ## Locks and census -/

/-- PLACE LOCK: BAD_FIELD, DUPLICATE and FULL are judged in that order; else the entry stands at the lowest free position, APPLIED at
once where its scope is HEAT or the dish is braked and still in IDLE, STOWED or FAULT, and PENDING else. A first move lock holds an
IDLE dish, excludes an ENGAGED one and stops a SHEDDING one; a heat lock blocks the dish's zones (R132, R145 to R147). FULL's detail byte, 0
for DISH and 1 for TABLE, is the model's choice (log 11). -/
def Obligations.PlaceLockEnters : Prop :=
  ∀ (n : StationId) (f : PlaceLockFields) (s : State), s.hears (.station n) = true →
    let answered := fun st fields => exec (.placeLock (.station n) (.fields f)) s
      = .next (s.putHolder (.station n) (some ⟨0x30, st, fields⟩))
    let valid := (∃ d : DishId, f.dish = d.val ∧ (s.cfg d).present = true) ∧ f.scope ≤ 2 ∧ 1 ≤ f.tag ∧ f.tag ≤ 999999
    (¬ valid → answered .badField [])
    ∧ ∀ (d : DishId) (scope : Scope), valid → f.dish = d.val → f.scope = scope.place →
      let same := ∃ (p : Fin 96) (e : LockEntry), s.locks.entries[p] = some e ∧ e.dish = d ∧ e.tag = f.tag
      let count := s.countLocks fun e => decide (e.dish = d)
      (same → answered .duplicate [])
      ∧ (¬ same → 8 ≤ count → answered .full [0])
      ∧ (¬ same → count < 8 → (∀ p : Fin 96, s.locks.entries[p] ≠ none) → answered .full [1])
      ∧ ∀ p : Fin 96, ¬ same → count < 8 → s.locks.entries[p] = none → (∀ q : Fin 96, q < p → s.locks.entries[q] ≠ none) →
          let m := (s.dish d).motion
          let st : LockState := if scope = .heat ∨ (m = .idle ∨ m = .stowed ∨ m = .fault)
            ∧ (s.dish d).brakesSet = true ∧ (s.dish d).moving = false then .applied else .pending
          let locks := { s.locks with
            entries := s.locks.entries.set p (some ⟨d, scope, f.tag, n, st, s.locks.seconds⟩) }
          ∃ t fields, exec (.placeLock (.station n) (.fields f)) s = .next t
            ∧ t.holder (.station n) = some ⟨0x30, .ok, BitVec.ofNat 8 p.val :: BitVec.ofNat 8 st.place :: fields⟩
            ∧ t.locks = locks
            ∧ Within ({ s with locks := locks }.putHolder (.station n) (t.holder (.station n))) t
            ∧ (scope ≠ .heat → s.appliedMove d = 0 → st = .applied → m = .idle → (s.dish d).group = none →
                t.slot d = .holdBrake)
            ∧ (scope ≠ .heat → s.appliedMove d = 0 → m = .engaged → (s.dish d).group ≠ none →
                (t.dish d).group = none ∧ (t.dish d).motion = .stopping ∧ t.slot d = .stop
                  ∧ t.feeder.reservations[d] = none)
            ∧ (scope ≠ .heat → s.appliedMove d = 0 → m = .shedding →
                (t.dish d).motion = .stopping ∧ t.slot d = .stop ∧ t.melt.shedMoves[d] = none
                  ∧ t.melt.shedResult[d] = .aborted)
            ∧ (scope ≠ .move → s.FeederLawful → ∀ z : ZoneId, z.dish = d →
                (t.zone z).state = .idle ∨ (t.zone z).state = .blocked)

/-- RELEASE LOCK: BAD_FIELD for a dish or tag out of range, NOT_FOUND where no entry has the dish and tag; else the entry is removed,
and the others stay. Where an applied move lock is left and the round that is asked for admits nobody, nothing more changes; the last
move lock's end returns an IDLE dish's slot to KEEP, the last heat lock's end unblocks zones that nothing else blocks (R38, R132, R150,
R151). That every removal asks for a round is the model's reading of R38 (log 18). -/
def Obligations.ReleaseLockRemoves : Prop :=
  ∀ (n : StationId) (f : ReleaseLockFields) (s : State), s.hears (.station n) = true →
    let answered := fun st => exec (.releaseLock (.station n) (.fields f)) s
      = .next (s.putHolder (.station n) (some ⟨0x31, st, []⟩))
    let named := fun (p : Fin 96) (e : LockEntry) => s.locks.entries[p] = some e ∧ e.dish.val = f.dish ∧ e.tag = f.tag
    (48 ≤ f.dish ∨ f.tag < 1 ∨ 999999 < f.tag → answered .badField)
    ∧ (f.dish < 48 → 1 ≤ f.tag → f.tag ≤ 999999 → (∀ p e, ¬ named p e) → answered .notFound)
    ∧ ∀ p e, 1 ≤ f.tag → f.tag ≤ 999999 → named p e → (∀ q x, q < p → ¬ named q x) →
        let locks := { s.locks with entries := s.locks.entries.set p none }
        let d := e.dish
        ∃ t fields, exec (.releaseLock (.station n) (.fields f)) s = .next t
          ∧ t.holder (.station n) = some ⟨0x31, .ok, BitVec.ofNat 8 p.val :: BitVec.ofNat 8 e.scope.place
              :: BitVec.ofNat 8 e.state.place :: fields⟩
          ∧ t.locks = locks
          ∧ Within ({ s with locks := locks }.putHolder (.station n) (t.holder (.station n))) t
          ∧ (s.Quiet → NobodyAdmitted s → e.scope = .move → e.state = .applied → 2 ≤ s.appliedMove d →
              t = { s with locks := locks }.putHolder (.station n) (t.holder (.station n)))
          ∧ (e.scope ≠ .heat → e.state = .applied → s.appliedMove d = 1 → (s.dish d).switchLock = false →
              (s.dish d).motion = .idle → s.censusDone = false → s.stowInForce = false → t.slot d = .keep)
          ∧ (e.scope ≠ .move → s.appliedHeat d = 1 → (s.dish d).switchLock = false → s.censusDone = true →
              s.stowInForce = false → (s.dish d).motion ≠ .offline →
              ∀ z : ZoneId, z.dish = d → (t.zone z).state ≠ .blocked)

/-- CENSUS COMPLETE while INCOMPLETE records the station and the seconds count, clears CENSUS_REQUIRED's pending flag and ends the
census's block of the heaters; while COMPLETE it is refused with WRONG_STATE (R132, R155, R156). -/
def Obligations.CensusCompleted : Prop :=
  ∀ (n : StationId) (s : State), s.hears (.station n) = true →
    (s.locks.census = .incomplete →
        let locks := { s.locks with census := .complete n s.locks.seconds }
        ∃ t, exec (.censusComplete (.station n) (.fields {})) s = .next t
          ∧ t.holder (.station n) = some ⟨0x33, .ok, [BitVec.ofNat 8 (s.countLocks fun _ => true)]⟩
          ∧ t.locks = locks ∧ (t.source .censusRequired).pending = false
          ∧ Within (({ s with locks := locks }.setSource .censusRequired fun x => { x with pending := false }).putHolder
              (.station n) (t.holder (.station n))) t
          ∧ SparesBut [] [] s t
          ∧ (s.stow.state ≠ .active → ∀ z : ZoneId, s.heatLocked z.dish = false → (s.dish z.dish).motion ≠ .offline →
              (t.zone z).state ≠ .blocked))
    ∧ ∀ m x, s.locks.census = .complete m x → exec (.censusComplete (.station n) (.fields {})) s
        = .next (s.putHolder (.station n) (some ⟨0x33, .wrongState, []⟩))

/-! ## Attention -/

/-- TAKE ATTENTION takes the highest source of its port that is pending and enabled with no source at or above it in service: its
place is named, its pending flag cleared, its detail emptied and it is in service; CENSUS_REQUIRED alone is raised again while the
census is INCOMPLETE. Where there is none the answer says so and nothing changes (R155, R167, R168). -/
def Obligations.AttentionTaken : Prop :=
  ∀ (src : Sender) (s : State), s.hears src = true →
    let open_ := fun x => (s.source x).pending = true ∧ (s.source x).enabled = true ∧ (s.source x).inService = false
    (∀ above x below, portSources src.port = above ++ x :: below → open_ x →
        (∀ y ∈ above, (s.source y).inService = false
          ∧ ¬ ((s.source y).pending = true ∧ (s.source y).enabled = true)) →
        ∃ t fields, exec (.takeAttention src (.fields {})) s = .next t
          ∧ t.holder src = some ⟨0x41, .ok, BitVec.ofNat 8 above.length :: fields⟩
          ∧ (x ≠ .censusRequired ∨ s.censusDone = true → t.source x =
              { s.source x with pending := false, inService := true, detail := none, overrun := 0 })
          ∧ (x = .censusRequired → s.censusDone = false → t.source x =
              { s.source x with
                pending := true, inService := true, detail := some (.censusRequired (s.countLocks fun _ => true))
                overrun := 0 })
          ∧ (∀ y, y ≠ x → y ≠ .censusRequired → t.source y = s.source y)
          ∧ (∀ other, other ≠ src → t.holder other = s.holder other)
          ∧ t = { s with sources := t.sources }.putHolder src (t.holder src))
    ∧ ((∀ above x below, portSources src.port = above ++ x :: below → open_ x →
          ∃ y ∈ above, (s.source y).inService = true) →
        ∃ fields, exec (.takeAttention src (.fields {})) s = .next (s.putHolder src (some ⟨0x41, .ok, 0xFF :: fields⟩)))

/-- END ATTENTION ends the service of the port's highest source in service, or is refused; SET ATTENTION MASK sets the port's mask bits,
a bit for no source being refused; PORT RESET clears the port's sources but for their mask bits, empties its holders and its staging
area, and raises CENSUS_REQUIRED again while the census is INCOMPLETE (R155, R169, R170). -/
def Obligations.AttentionServed : Prop :=
  ∀ (src : Sender) (s : State), s.hears src = true →
    (∀ above x below, portSources src.port = above ++ x :: below → (s.source x).inService = true →
        (∀ y ∈ above, (s.source y).inService = false) →
        ∃ t, exec (.endAttention src (.fields {})) s = .next t
          ∧ t.source x = { s.source x with inService := false } ∧ (∀ y, y ≠ x → t.source y = s.source y)
          ∧ t = { s with sources := t.sources }.putHolder src (some ⟨0x42, .ok, [BitVec.ofNat 8 above.length]⟩))
    ∧ ((∀ x ∈ portSources src.port, (s.source x).inService = false) →
        exec (.endAttention src (.fields {})) s = .next (s.putHolder src (some ⟨0x42, .wrongState, []⟩)))
    ∧ (∀ mask : Byte,
        (2 ^ (portSources src.port).length ≤ mask.toNat →
          exec (.setAttentionMask src (.fields ⟨mask⟩)) s = .next (s.putHolder src (some ⟨0x43, .badField, []⟩)))
        ∧ (mask.toNat < 2 ^ (portSources src.port).length →
          ∃ t, exec (.setAttentionMask src (.fields ⟨mask⟩)) s = .next t
            ∧ (∀ above x below, portSources src.port = above ++ x :: below →
                t.source x = { s.source x with enabled := mask.getLsbD above.length })
            ∧ (∀ x, x ∉ portSources src.port → t.source x = s.source x)
            ∧ t = { s with sources := t.sources }.putHolder src (some ⟨0x43, .ok, []⟩)))
    ∧ ∃ t, exec (.portReset src (.fields {})) s = .next t
        ∧ (∀ x ∈ portSources src.port, t.source x =
            if x = .censusRequired ∧ s.censusDone = false then
              ⟨true, false, (s.source x).enabled, some (.censusRequired (s.countLocks fun _ => true)), 0⟩
            else ⟨false, false, (s.source x).enabled, none, 0⟩)
        ∧ (∀ x, x ∉ portSources src.port → t.source x = s.source x)
        ∧ t.holder src = some ⟨0x45, .ok, []⟩
        ∧ (∀ other, other ≠ src → t.holder other = if other.port = src.port then none else s.holder other)
        ∧ (∀ p, t.violation p = s.violation p)
        ∧ t.staging = (if src = .scheduler then none else s.staging)
        ∧ t = { s with
            staging := t.staging, sources := t.sources
            ports := { (s.endTransaction src.port).ports with
              schedulerHolder := t.ports.schedulerHolder, safetyHolder := t.ports.safetyHolder
              stationHolders := t.ports.stationHolders } }

/-! ## Reads -/

/-- The read requests change nothing but the response, whose first bytes, and for sections 1 to 5 of READ CONFIG all of whose bytes, are
the state's own; a slot, dish or section that is not there is refused with BAD_FIELD (R18, R61, R114, R125, R143, R154, R174, R179). The
bytes of the flags and states, the configured and enabled flags as one mask byte each, and the presence byte of what only an OPEN staging
area and a COMPLETE census have, are the model's reading (log 11). -/
def Obligations.ReadsChangeNothing : Prop :=
  ∀ s : State,
    let answers := fun (i : Instr) (src : Sender) (code : Byte) (head : List Byte) =>
      ∃ rest, exec i s = .next (s.putHolder src (some ⟨code, .ok, head ++ rest⟩))
    let refuses := fun (i : Instr) (src : Sender) (code : Byte) =>
      exec i s = .next (s.putHolder src (some ⟨code, .badField, []⟩))
    (s.hears .scheduler = true →
        (∀ g : SlotId, answers (.readGroup .scheduler (.fields ⟨g.val⟩)) .scheduler 0x1B
          (BitVec.ofNat 8 (s.group g).state.place :: u16 (s.group g).tag))
        ∧ (∀ n, 4 ≤ n → refuses (.readGroup .scheduler (.fields ⟨n⟩)) .scheduler 0x1B)
        ∧ answers (.readQueue .scheduler (.fields {})) .scheduler 0x1C
            (if s.staging = none then [0, 0] else [1, 1]))
    ∧ (s.hears .safety = true →
        answers (.readWeather .safety (.fields {})) .safety 0x24 [if s.settings.mastConfigured[0] then 1 else 0]
        ∧ answers (.readFeeder .safety (.fields {})) .safety 0x27
            (u16 s.feeder.allowance ++ u16 s.feeder.guard ++ u16 s.feeder.d ++ u16 s.feeder.h
              ++ u16 (s.feeder.allowance - (s.feeder.d + s.feeder.h)))
        ∧ (∀ d : DishId, answers (.readMelt .safety (.fields ⟨d.val⟩)) .safety 0x2A [if s.melt.ice[d] then 1 else 0])
        ∧ answers (.readMelt .safety (.fields ⟨255⟩)) .safety 0x2A (u16 s.settings.melt.rim ++ u16 s.settings.melt.inner)
        ∧ (∀ n, 48 ≤ n → n ≠ 255 → refuses (.readMelt .safety (.fields ⟨n⟩)) .safety 0x2A)
        ∧ (∀ d : DishId, answers (.readConfig .safety (.fields ⟨0, d.val⟩)) .safety 0x2C
            [BitVec.ofNat 8 d.val, if (s.cfg d).present then 1 else 0])
        ∧ (∀ n,
            let w := s.settings.wind
            let section_ := fun (sec : Nat) (bytes : List Byte) =>
              exec (.readConfig .safety (.fields ⟨sec, n⟩)) s = .next (s.putHolder .safety (some ⟨0x2C, .ok, bytes⟩))
            (∃ mask : Byte, mask.toNat < 64 ∧ (∀ m : MastId, mask.getLsbD m.val = s.settings.mastConfigured[m])
              ∧ section_ 1 [mask])
            ∧ section_ 2 (u16 w.tripGust ++ u16 w.watchMean ++ u16 w.releaseGust ++ u8 w.staleness ++ u8 w.staleTrip
                ++ u16 w.holdOff)
            ∧ section_ 3 (u8 s.settings.track.coastLimit ++ u8 s.settings.track.lowMark)
            ∧ section_ 4 (u16 s.settings.melt.rim ++ u16 s.settings.melt.inner ++ u16 s.settings.melt.subref
                ++ u16 s.settings.melt.slot)
            ∧ ∃ mask : Byte, mask.toNat < 16 ∧ (∀ k : StationId, mask.getLsbD k.val = s.settings.station[k].enabled)
              ∧ section_ 5 (u8 s.settings.station[0].address ++ u8 s.settings.station[1].address
                  ++ u8 s.settings.station[2].address ++ u8 s.settings.station[3].address ++ [mask]))
        ∧ (∀ sec n, 6 ≤ sec ∨ sec = 0 ∧ 48 ≤ n → refuses (.readConfig .safety (.fields ⟨sec, n⟩)) .safety 0x2C))
    ∧ (∀ st : StationId, s.hears (.station st) = true →
        (∀ n, n < 48 ∨ n = 255 → answers (.readLocks (.station st) (.fields ⟨n⟩)) (.station st) 0x32
          (match s.locks.census with
            | .incomplete => [0, 0]
            | .complete m x => 1 :: 1 :: BitVec.ofNat 8 m.val :: u32 x.toNat))
        ∧ ∀ n, 48 ≤ n → n ≠ 255 → refuses (.readLocks (.station st) (.fields ⟨n⟩)) (.station st) 0x32)
    ∧ ∀ src : Sender, s.hears src = true →
        (∀ d : DishId, answers (.readDish src (.fields ⟨d.val⟩)) src 0x40
          [BitVec.ofNat 8 d.val, if (s.cfg d).present then 1 else 0, BitVec.ofNat 8 (s.dish d).motion.place])
        ∧ ∀ n, 48 ≤ n → refuses (.readDish src (.fields ⟨n⟩)) src 0x40

/-! ## What every step keeps -/

/-- Every step keeps the reported positions within the axis ranges (R1), and within capacity: the Order Queue and the member lists of
staged, queued and admitted orders (R36, R37, R45) and of one held by log 50's field, the miss counts (R32), the track buffers and coast counters (R75),
the Stow Queue and the trip order (R98), the Shed List (R138), the Melt Rotation List (R128), the zones' energies and carries (R127), the
overrun counts (R166) and the violation counts (R164). It also leaves nothing asked for. -/
def Obligations.StepKeepsRangesAndCapacities : Prop :=
  ∀ s t : State, step s = .next t →
    (s.PositionsInRange → t.PositionsInRange) ∧ (s.WithinCapacity → t.WithinCapacity) ∧ (s.Quiet → t.Quiet)

/-- Every step keeps the feeder lawful: heaters fit beside the reservations or none is powered, an overdrawn feeder bears the
over-commit mark, and the power order names the POWERED zones, each once (R115, R118, R123). -/
def Obligations.StepKeepsFeederLawful : Prop :=
  ∀ s t : State, step s = .next t → s.FeederLawful → t.FeederLawful

/-- Every step keeps the Lock Table lawful: at most eight entries a dish, and no two of one dish and tag (R145). -/
def Obligations.StepKeepsLocksLawful : Prop :=
  ∀ s t : State, step s = .next t → s.LocksLawful → t.LocksLawful

/-- Who may change what, power-on reset apart: the configuration only WRITE CONFIG, the allowance and guard only their requests, the
frame number only the frame start, the seconds count only its tick, the entries of the Lock Table only reports and the two lock
requests; the census stays COMPLETE; no zone gains energy but by MELT ORDER (R8, R19, R118, R122, R124, R129, R144, R145, R148, R150, R155,
R172). That the steps waiting in the queue stay is of the model's own making (log 1, log 39). -/
def Obligations.OnlyOwnersChange : Prop :=
  ∀ (i : Instr) (s t : State), exec i s = .next t → i ≠ .powerOnReset →
    (t.settings ≠ s.settings → i.request = some (.safety, .writeConfig))
    ∧ (t.feeder.allowance ≠ s.feeder.allowance → i.request = some (.safety, .setAllowance))
    ∧ (t.feeder.guard ≠ s.feeder.guard → i.request = some (.safety, .setMeltGuard))
    ∧ (t.ring.frame ≠ s.ring.frame → i = .frameStart)
    ∧ (t.locks.seconds ≠ s.locks.seconds → i = .secondsCountTick)
    ∧ (t.locks.entries ≠ s.locks.entries →
        (∃ d r, i = .validReport d r)
        ∨ ∃ n, i.request = some (.station n, .placeLock) ∨ i.request = some (.station n, .releaseLock))
    ∧ (∀ n x, s.locks.census = .complete n x → t.locks.census = .complete n x)
    ∧ (∀ z, (s.zone z).remaining < (t.zone z).remaining → i.request = some (.safety, .meltOrder))
    ∧ t.pending = s.pending
end

