-- ==== Sys2Proof/Laws/PerInstr.lean ====
section
/-! SUPPORT. Laws/PerInstr.lean: the laws that are made for each constructor of Instr. -/

namespace Sys2Proof.Laws

/-! ## CodeKnown: the request that a step carries is read back from its code -/

/-- The request that a step carries is the one that the catalogue gives for its code, and no FETCH RESPONSE (R157, R177). -/
def CodeKnown.Statement (i : Instr) : Prop :=
  ∀ (src : Sender) (r : Request), i.request = some (src, r) → Request.ofCode r.code = some r ∧ r.code ≠ 0

theorem CodeKnown.powerOnReset : CodeKnown.Statement (.powerOnReset) := by
  intro _ _ h; cases h

theorem CodeKnown.frameStart : CodeKnown.Statement (.frameStart) := by
  intro _ _ h; cases h

theorem CodeKnown.commandSend (dish : DishId) : CodeKnown.Statement (.commandSend dish) := by
  intro _ _ h; cases h

theorem CodeKnown.validReport (dish : DishId) (report : Report) : CodeKnown.Statement (.validReport dish report) := by
  intro _ _ h; cases h

theorem CodeKnown.miss (dish : DishId) : CodeKnown.Statement (.miss dish) := by
  intro _ _ h; cases h

theorem CodeKnown.lossOfDish (dish : DishId) : CodeKnown.Statement (.lossOfDish dish) := by
  intro _ _ h; cases h

theorem CodeKnown.loadAckLimit (slot : SlotId) : CodeKnown.Statement (.loadAckLimit slot) := by
  intro _ _ h; cases h

theorem CodeKnown.arrivalGrace (slot : SlotId) : CodeKnown.Statement (.arrivalGrace slot) := by
  intro _ _ h; cases h

theorem CodeKnown.orderExpiry (tag : Nat) : CodeKnown.Statement (.orderExpiry tag) := by
  intro _ _ h; cases h

theorem CodeKnown.stowMoveTimeout (dish : DishId) : CodeKnown.Statement (.stowMoveTimeout dish) := by
  intro _ _ h; cases h

theorem CodeKnown.shedMoveTimeout (dish : DishId) : CodeKnown.Statement (.shedMoveTimeout dish) := by
  intro _ _ h; cases h

theorem CodeKnown.admissionRound : CodeKnown.Statement (.admissionRound) := by
  intro _ _ h; cases h

theorem CodeKnown.poweringScan : CodeKnown.Statement (.poweringScan) := by
  intro _ _ h; cases h

theorem CodeKnown.mastStalenessExpiry (mast : MastId) : CodeKnown.Statement (.mastStalenessExpiry mast) := by
  intro _ _ h; cases h

theorem CodeKnown.holdOffExpiry : CodeKnown.Statement (.holdOffExpiry) := by
  intro _ _ h; cases h

theorem CodeKnown.meltSlotExpiry (zone : ZoneId) : CodeKnown.Statement (.meltSlotExpiry zone) := by
  intro _ _ h; cases h

theorem CodeKnown.meterTimerExpiry : CodeKnown.Statement (.meterTimerExpiry) := by
  intro _ _ h; cases h

theorem CodeKnown.secondsCountTick : CodeKnown.Statement (.secondsCountTick) := by
  intro _ _ h; cases h

theorem CodeKnown.linkTimeout (link : FourWire) : CodeKnown.Statement (.linkTimeout link) := by
  intro _ _ h; cases h

theorem CodeKnown.maintenanceLinkTimeout (station : StationId) : CodeKnown.Statement (.maintenanceLinkTimeout station) := by
  intro _ _ h; cases h

theorem CodeKnown.fetchResponse (src : Sender) : CodeKnown.Statement (.fetchResponse src) := by
  intro _ _ h; cases h

theorem CodeKnown.unknownRequest (src : Sender) (code : Byte) : CodeKnown.Statement (.unknownRequest src code) := by
  intro _ _ h; cases h

theorem CodeKnown.openOrder (src : Sender) (body : Body OpenOrderFields) : CodeKnown.Statement (.openOrder src body) := by
  rintro _ _ ⟨⟩; decide

theorem CodeKnown.addMembers (src : Sender) (body : Body AddMembersFields) : CodeKnown.Statement (.addMembers src body) := by
  rintro _ _ ⟨⟩; decide

theorem CodeKnown.commitOrder (src : Sender) (body : Body CountFields) : CodeKnown.Statement (.commitOrder src body) := by
  rintro _ _ ⟨⟩; decide

theorem CodeKnown.cancelOrder (src : Sender) (body : Body TagFields) : CodeKnown.Statement (.cancelOrder src body) := by
  rintro _ _ ⟨⟩; decide

theorem CodeKnown.holdGroup (src : Sender) (body : Body SlotFields) : CodeKnown.Statement (.holdGroup src body) := by
  rintro _ _ ⟨⟩; decide

theorem CodeKnown.resumeGroup (src : Sender) (body : Body SlotFields) : CodeKnown.Statement (.resumeGroup src body) := by
  rintro _ _ ⟨⟩; decide

theorem CodeKnown.releaseGroup (src : Sender) (body : Body SlotFields) : CodeKnown.Statement (.releaseGroup src body) := by
  rintro _ _ ⟨⟩; decide

theorem CodeKnown.abortGroup (src : Sender) (body : Body SlotFields) : CodeKnown.Statement (.abortGroup src body) := by
  rintro _ _ ⟨⟩; decide

theorem CodeKnown.pushTrack (src : Sender) (body : Body PushTrackFields) : CodeKnown.Statement (.pushTrack src body) := by
  rintro _ _ ⟨⟩; decide

theorem CodeKnown.flushTrack (src : Sender) (body : Body SlotFields) : CodeKnown.Statement (.flushTrack src body) := by
  rintro _ _ ⟨⟩; decide

theorem CodeKnown.clearTrackFault (src : Sender) (body : Body SlotFields) :
    CodeKnown.Statement (.clearTrackFault src body) := by
  rintro _ _ ⟨⟩; decide

theorem CodeKnown.readGroup (src : Sender) (body : Body SlotFields) : CodeKnown.Statement (.readGroup src body) := by
  rintro _ _ ⟨⟩; decide

theorem CodeKnown.readQueue (src : Sender) (body : Body NoFields) : CodeKnown.Statement (.readQueue src body) := by
  rintro _ _ ⟨⟩; decide

theorem CodeKnown.windSample (src : Sender) (body : Body WindSampleFields) : CodeKnown.Statement (.windSample src body) := by
  rintro _ _ ⟨⟩; decide

theorem CodeKnown.stowArray (src : Sender) (body : Body NoFields) : CodeKnown.Statement (.stowArray src body) := by
  rintro _ _ ⟨⟩; decide

theorem CodeKnown.releaseStow (src : Sender) (body : Body NoFields) : CodeKnown.Statement (.releaseStow src body) := by
  rintro _ _ ⟨⟩; decide

theorem CodeKnown.resetWeatherSnapshot (src : Sender) (body : Body NoFields) :
    CodeKnown.Statement (.resetWeatherSnapshot src body) := by
  rintro _ _ ⟨⟩; decide

theorem CodeKnown.readWeather (src : Sender) (body : Body NoFields) : CodeKnown.Statement (.readWeather src body) := by
  rintro _ _ ⟨⟩; decide

theorem CodeKnown.setAllowance (src : Sender) (body : Body ValueFields) : CodeKnown.Statement (.setAllowance src body) := by
  rintro _ _ ⟨⟩; decide

theorem CodeKnown.setMeltGuard (src : Sender) (body : Body ValueFields) : CodeKnown.Statement (.setMeltGuard src body) := by
  rintro _ _ ⟨⟩; decide

theorem CodeKnown.readFeeder (src : Sender) (body : Body NoFields) : CodeKnown.Statement (.readFeeder src body) := by
  rintro _ _ ⟨⟩; decide

theorem CodeKnown.meltOrder (src : Sender) (body : Body MeltOrderFields) : CodeKnown.Statement (.meltOrder src body) := by
  rintro _ _ ⟨⟩; decide

theorem CodeKnown.cancelMelt (src : Sender) (body : Body CancelMeltFields) : CodeKnown.Statement (.cancelMelt src body) := by
  rintro _ _ ⟨⟩; decide

theorem CodeKnown.readMelt (src : Sender) (body : Body DishFields) : CodeKnown.Statement (.readMelt src body) := by
  rintro _ _ ⟨⟩; decide

theorem CodeKnown.writeConfigDish (src : Sender) (body : Body DishConfigFields) :
    CodeKnown.Statement (.writeConfigDish src body) := by
  rintro _ _ ⟨⟩; decide

theorem CodeKnown.writeConfigMast (src : Sender) (body : Body MastConfigFields) :
    CodeKnown.Statement (.writeConfigMast src body) := by
  rintro _ _ ⟨⟩; decide

theorem CodeKnown.writeConfigWind (src : Sender) (body : Body WindConfigFields) :
    CodeKnown.Statement (.writeConfigWind src body) := by
  rintro _ _ ⟨⟩; decide

theorem CodeKnown.writeConfigTrack (src : Sender) (body : Body TrackConfigFields) :
    CodeKnown.Statement (.writeConfigTrack src body) := by
  rintro _ _ ⟨⟩; decide

theorem CodeKnown.writeConfigMelt (src : Sender) (body : Body MeltConfigFields) :
    CodeKnown.Statement (.writeConfigMelt src body) := by
  rintro _ _ ⟨⟩; decide

theorem CodeKnown.writeConfigStation (src : Sender) (body : Body StationConfigFields) :
    CodeKnown.Statement (.writeConfigStation src body) := by
  rintro _ _ ⟨⟩; decide

theorem CodeKnown.readConfig (src : Sender) (body : Body ReadConfigFields) : CodeKnown.Statement (.readConfig src body) := by
  rintro _ _ ⟨⟩; decide

theorem CodeKnown.driveReset (src : Sender) (body : Body NoFields) : CodeKnown.Statement (.driveReset src body) := by
  rintro _ _ ⟨⟩; decide

theorem CodeKnown.placeLock (src : Sender) (body : Body PlaceLockFields) : CodeKnown.Statement (.placeLock src body) := by
  rintro _ _ ⟨⟩; decide

theorem CodeKnown.releaseLock (src : Sender) (body : Body ReleaseLockFields) : CodeKnown.Statement (.releaseLock src body) := by
  rintro _ _ ⟨⟩; decide

theorem CodeKnown.readLocks (src : Sender) (body : Body DishFields) : CodeKnown.Statement (.readLocks src body) := by
  rintro _ _ ⟨⟩; decide

theorem CodeKnown.censusComplete (src : Sender) (body : Body NoFields) : CodeKnown.Statement (.censusComplete src body) := by
  rintro _ _ ⟨⟩; decide

theorem CodeKnown.readDish (src : Sender) (body : Body DishFields) : CodeKnown.Statement (.readDish src body) := by
  rintro _ _ ⟨⟩; decide

theorem CodeKnown.takeAttention (src : Sender) (body : Body NoFields) : CodeKnown.Statement (.takeAttention src body) := by
  rintro _ _ ⟨⟩; decide

theorem CodeKnown.endAttention (src : Sender) (body : Body NoFields) : CodeKnown.Statement (.endAttention src body) := by
  rintro _ _ ⟨⟩; decide

theorem CodeKnown.setAttentionMask (src : Sender) (body : Body MaskFields) :
    CodeKnown.Statement (.setAttentionMask src body) := by
  rintro _ _ ⟨⟩; decide

theorem CodeKnown.readViolation (src : Sender) (body : Body NoFields) : CodeKnown.Statement (.readViolation src body) := by
  rintro _ _ ⟨⟩; decide

theorem CodeKnown.portReset (src : Sender) (body : Body NoFields) : CodeKnown.Statement (.portReset src body) := by
  rintro _ _ ⟨⟩; decide

theorem CodeKnown.resetPinAsserted : CodeKnown.Statement (.resetPinAsserted) := by
  intro _ _ h; cases h

theorem CodeKnown.badFrame (src : Sender) (first : Option Byte) : CodeKnown.Statement (.badFrame src first) := by
  intro _ _ h; cases h

end Sys2Proof.Laws
end

