-- ==== Sys2Proof/Laws/State.lean ====
section
/-! SUPPORT. Laws/State.lean: what each small update of the state leaves in each field, so that no later proof unfolds one. -/

namespace Sys2Proof.Machine

/-! ## Tables -/

@[simp] theorem upd_self {α : Type} {n : Nat} (v : Vector α n) (i : Fin n) (f : α → α) :
    (upd v i f)[i.val] = f v[i.val] := by simp [upd]

theorem upd_get {α : Type} {n : Nat} (v : Vector α n) (i j : Fin n) (f : α → α) :
    (upd v i f)[j.val] = if j = i then f v[j.val] else v[j.val] := by
  by_cases h : j = i
  · subst h; simp
  · have : (i : Nat) ≠ (j : Nat) := fun e => h (Fin.ext e.symm)
    simp [upd, h, Vector.getElem_set_ne, this]

theorem upd_ne {α : Type} {n : Nat} (v : Vector α n) (i j : Fin n) (f : α → α) (h : j ≠ i) :
    (upd v i f)[j.val] = v[j.val] := by simp [upd_get, h]

theorem set_get {α : Type} {n : Nat} (v : Vector α n) (i j : Fin n) (x : α) :
    (v.set i x)[j.val] = if j = i then x else v[j.val] := by
  by_cases h : j = i
  · subst h; simp
  · have : (i : Nat) ≠ (j : Nat) := fun e => h (Fin.ext e.symm)
    simp [h, Vector.getElem_set_ne, this]

/-! ## One dish record changed -/

@[simp] theorem setDish_dish_self (s : State) (d : DishId) (f : Dish → Dish) : (s.setDish d f).dish d = f (s.dish d) := by
  simp [State.setDish, State.dish]

theorem setDish_dish (s : State) (d e : DishId) (f : Dish → Dish) :
    (s.setDish d f).dish e = if e = d then f (s.dish e) else s.dish e := by
  simp [State.setDish, State.dish, upd_get]

@[simp] theorem setDish_settings (s : State) (d : DishId) (f : Dish → Dish) : (s.setDish d f).settings = s.settings := rfl
@[simp] theorem setDish_ring (s : State) (d : DishId) (f : Dish → Dish) : (s.setDish d f).ring = s.ring := rfl
@[simp] theorem setDish_staging (s : State) (d : DishId) (f : Dish → Dish) : (s.setDish d f).staging = s.staging := rfl
@[simp] theorem setDish_resetCommit (s : State) (d : DishId) (f : Dish → Dish) :
    (s.setDish d f).resetCommit = s.resetCommit := rfl
@[simp] theorem setDish_orders (s : State) (d : DishId) (f : Dish → Dish) : (s.setDish d f).orders = s.orders := rfl
@[simp] theorem setDish_groups (s : State) (d : DishId) (f : Dish → Dish) : (s.setDish d f).groups = s.groups := rfl
@[simp] theorem setDish_streams (s : State) (d : DishId) (f : Dish → Dish) : (s.setDish d f).streams = s.streams := rfl
@[simp] theorem setDish_wind (s : State) (d : DishId) (f : Dish → Dish) : (s.setDish d f).wind = s.wind := rfl
@[simp] theorem setDish_stow (s : State) (d : DishId) (f : Dish → Dish) : (s.setDish d f).stow = s.stow := rfl
@[simp] theorem setDish_feeder (s : State) (d : DishId) (f : Dish → Dish) : (s.setDish d f).feeder = s.feeder := rfl
@[simp] theorem setDish_melt (s : State) (d : DishId) (f : Dish → Dish) : (s.setDish d f).melt = s.melt := rfl
@[simp] theorem setDish_locks (s : State) (d : DishId) (f : Dish → Dish) : (s.setDish d f).locks = s.locks := rfl
@[simp] theorem setDish_ports (s : State) (d : DishId) (f : Dish → Dish) : (s.setDish d f).ports = s.ports := rfl
@[simp] theorem setDish_sources (s : State) (d : DishId) (f : Dish → Dish) : (s.setDish d f).sources = s.sources := rfl

/-! ## One group record or track stream changed -/

@[simp] theorem setGroup_group_self (s : State) (g : SlotId) (f : Group → Group) :
    (s.setGroup g f).group g = f (s.group g) := by simp [State.setGroup, State.group]

theorem setGroup_group (s : State) (g h : SlotId) (f : Group → Group) :
    (s.setGroup g f).group h = if h = g then f (s.group h) else s.group h := by
  simp [State.setGroup, State.group, upd_get]

@[simp] theorem setStream_stream_self (s : State) (g : SlotId) (f : Stream → Stream) :
    (s.setStream g f).stream g = f (s.stream g) := by simp [State.setStream, State.stream]

theorem setStream_stream (s : State) (g h : SlotId) (f : Stream → Stream) :
    (s.setStream g f).stream h = if h = g then f (s.stream h) else s.stream h := by
  simp [State.setStream, State.stream, upd_get]

@[simp] theorem setGroup_dish (s : State) (g : SlotId) (f : Group → Group) (d : DishId) :
    (s.setGroup g f).dish d = s.dish d := rfl
@[simp] theorem setGroup_stream (s : State) (g h : SlotId) (f : Group → Group) : (s.setGroup g f).stream h = s.stream h := rfl
@[simp] theorem setGroup_ring (s : State) (g : SlotId) (f : Group → Group) : (s.setGroup g f).ring = s.ring := rfl
@[simp] theorem setGroup_feeder (s : State) (g : SlotId) (f : Group → Group) : (s.setGroup g f).feeder = s.feeder := rfl
@[simp] theorem setGroup_stow (s : State) (g : SlotId) (f : Group → Group) : (s.setGroup g f).stow = s.stow := rfl
@[simp] theorem setStream_dish (s : State) (g : SlotId) (f : Stream → Stream) (d : DishId) :
    (s.setStream g f).dish d = s.dish d := rfl
@[simp] theorem setStream_group (s : State) (g h : SlotId) (f : Stream → Stream) : (s.setStream g f).group h = s.group h := rfl
@[simp] theorem setStream_ring (s : State) (g : SlotId) (f : Stream → Stream) : (s.setStream g f).ring = s.ring := rfl
@[simp] theorem setStream_feeder (s : State) (g : SlotId) (f : Stream → Stream) : (s.setStream g f).feeder = s.feeder := rfl
@[simp] theorem setStream_stow (s : State) (g : SlotId) (f : Stream → Stream) : (s.setStream g f).stow = s.stow := rfl

/-! ## One command slot changed -/

@[simp] theorem putSlot_slot_self (s : State) (d : DishId) (c : Command) : (s.putSlot d c).slot d = c := by
  simp [State.putSlot, State.slot]

theorem putSlot_slot (s : State) (d e : DishId) (c : Command) :
    (s.putSlot d c).slot e = if e = d then c else s.slot e := by
  simp [State.putSlot, State.slot, set_get]

@[simp] theorem putSlot_dish (s : State) (d e : DishId) (c : Command) : (s.putSlot d c).dish e = s.dish e := rfl
@[simp] theorem putSlot_frame (s : State) (d : DishId) (c : Command) : (s.putSlot d c).ring.frame = s.ring.frame := rfl
@[simp] theorem putSlot_miss (s : State) (d : DishId) (c : Command) : (s.putSlot d c).ring.miss = s.ring.miss := rfl
@[simp] theorem putSlot_feeder (s : State) (d : DishId) (c : Command) : (s.putSlot d c).feeder = s.feeder := rfl
@[simp] theorem putSlot_group (s : State) (d : DishId) (g : SlotId) (c : Command) : (s.putSlot d c).group g = s.group g := rfl
@[simp] theorem putSlot_stream (s : State) (d : DishId) (g : SlotId) (c : Command) : (s.putSlot d c).stream g = s.stream g := rfl
@[simp] theorem putSlot_stow (s : State) (d : DishId) (c : Command) : (s.putSlot d c).stow = s.stow := rfl
@[simp] theorem putSlot_locks (s : State) (d : DishId) (c : Command) : (s.putSlot d c).locks = s.locks := rfl

/-! ## The frame's exchanges -/

@[simp] theorem setWindow_window (s : State) (n : Nat) (w : Option DishId) : (s.setWindow n w).ring.window = w := rfl
@[simp] theorem setWindow_place (s : State) (n : Nat) (w : Option DishId) : (s.setWindow n w).ring.place = n := rfl
@[simp] theorem setWindow_frame (s : State) (n : Nat) (w : Option DishId) : (s.setWindow n w).ring.frame = s.ring.frame := rfl
@[simp] theorem setWindow_miss (s : State) (n : Nat) (w : Option DishId) : (s.setWindow n w).ring.miss = s.ring.miss := rfl
@[simp] theorem setWindow_framed (s : State) (n : Nat) (w : Option DishId) : (s.setWindow n w).ring.framed = s.ring.framed := rfl
@[simp] theorem setWindow_slot (s : State) (n : Nat) (w : Option DishId) (d : DishId) : (s.setWindow n w).slot d = s.slot d := rfl
@[simp] theorem setWindow_dish (s : State) (n : Nat) (w : Option DishId) (d : DishId) : (s.setWindow n w).dish d = s.dish d := rfl
@[simp] theorem setWindow_group (s : State) (n : Nat) (w : Option DishId) (g : SlotId) : (s.setWindow n w).group g = s.group g := rfl
@[simp] theorem setWindow_feeder (s : State) (n : Nat) (w : Option DishId) : (s.setWindow n w).feeder = s.feeder := rfl
@[simp] theorem setWindow_stow (s : State) (n : Nat) (w : Option DishId) : (s.setWindow n w).stow = s.stow := rfl
@[simp] theorem setWindow_locks (s : State) (n : Nat) (w : Option DishId) : (s.setWindow n w).locks = s.locks := rfl

/-! ## Asks -/

@[simp] theorem askRound_dish (s : State) (d : DishId) : s.askRound.dish d = s.dish d := rfl
@[simp] theorem askRound_slot (s : State) (d : DishId) : s.askRound.slot d = s.slot d := rfl
@[simp] theorem askRound_group (s : State) (g : SlotId) : s.askRound.group g = s.group g := rfl
@[simp] theorem askRound_stream (s : State) (g : SlotId) : s.askRound.stream g = s.stream g := rfl
@[simp] theorem askRound_feeder (s : State) : s.askRound.feeder = s.feeder := rfl
@[simp] theorem askRound_stow (s : State) : s.askRound.stow = s.stow := rfl
@[simp] theorem askScan_dish (s : State) (d : DishId) : s.askScan.dish d = s.dish d := rfl
@[simp] theorem askScan_slot (s : State) (d : DishId) : s.askScan.slot d = s.slot d := rfl
@[simp] theorem askScan_group (s : State) (g : SlotId) : s.askScan.group g = s.group g := rfl
@[simp] theorem askScan_stream (s : State) (g : SlotId) : s.askScan.stream g = s.stream g := rfl
@[simp] theorem askScan_feeder (s : State) : s.askScan.feeder = s.feeder := rfl
@[simp] theorem askScan_stow (s : State) : s.askScan.stow = s.stow := rfl
@[simp] theorem askJudge_dish (s : State) (d : DishId) : s.askJudge.dish d = s.dish d := rfl
@[simp] theorem askJudge_slot (s : State) (d : DishId) : s.askJudge.slot d = s.slot d := rfl
@[simp] theorem askJudge_group (s : State) (g : SlotId) : s.askJudge.group g = s.group g := rfl
@[simp] theorem askJudge_stream (s : State) (g : SlotId) : s.askJudge.stream g = s.stream g := rfl
@[simp] theorem askJudge_feeder (s : State) : s.askJudge.feeder = s.feeder := rfl
@[simp] theorem askJudge_stow (s : State) : s.askJudge.stow = s.stow := rfl

/-! ## Attention sources -/

@[simp] theorem setSource_source_self (s : State) (x : Source) (f : SourceState → SourceState) :
    (s.setSource x f).source x = f (s.source x) := by simp [State.setSource, State.source]

theorem index_injective {x y : Source} (h : x.index = y.index) : x = y := by cases x <;> cases y <;> first | rfl | cases h

theorem setSource_source (s : State) (x y : Source) (f : SourceState → SourceState) :
    (s.setSource x f).source y = if y = x then f (s.source y) else s.source y := by
  by_cases h : y = x
  · subst h; simp
  · have hi : y.index ≠ x.index := fun e => h (index_injective e)
    simp [State.setSource, State.source, h, upd_ne _ _ _ _ hi]

@[simp] theorem raise_source_self (s : State) (x : Source) (d : Detail) :
    (s.raise x d).source x = SourceState.raised d (s.source x) := by simp [State.raise]

@[simp] theorem raise_dish (s : State) (x : Source) (t : Detail) (d : DishId) : (s.raise x t).dish d = s.dish d := rfl
@[simp] theorem raise_slot (s : State) (x : Source) (t : Detail) (d : DishId) : (s.raise x t).slot d = s.slot d := rfl
@[simp] theorem raise_group (s : State) (x : Source) (t : Detail) (g : SlotId) : (s.raise x t).group g = s.group g := rfl
@[simp] theorem raise_stream (s : State) (x : Source) (t : Detail) (g : SlotId) : (s.raise x t).stream g = s.stream g := rfl
@[simp] theorem raise_feeder (s : State) (x : Source) (t : Detail) : (s.raise x t).feeder = s.feeder := rfl
@[simp] theorem raise_stow (s : State) (x : Source) (t : Detail) : (s.raise x t).stow = s.stow := rfl

/-- A raised source is pending, and shows the detail of the latest event (R166). -/
theorem raised_pending (d : Detail) (x : SourceState) : (x.raised d).pending = true ∧ (x.raised d).detail = some d := by
  unfold SourceState.raised; split <;> simp_all

end Sys2Proof.Machine
end

