-- ==== Sys2Proof/Laws/Within.lean ====
section
/-! SUPPORT. Laws/Within.lean: what no shared operation of the blocks changes. Each operation relates the state before it to the
state after it by Within; a proof about a command cites these lemmas and unfolds none of the operations. -/

namespace Sys2Proof.Machine

theorem Within.refl (s : State) : Within s s :=
  ⟨rfl, List.suffix_refl _, fun _ => le_rfl, fun _ h => h, fun _ => le_rfl, fun _ h => h, fun _ h => h⟩

theorem Within.trans {s t u : State} (h : Within s t) (k : Within t u) : Within s u :=
  ⟨k.fixed.trans h.fixed, k.orders.trans h.orders, fun z => (k.energy z).trans (h.energy z),
    fun d i => h.ice d (k.ice d i), fun g => (k.buffer g).trans (h.buffer g), fun x o => k.overrun x (h.overrun x o),
    fun x p => k.pending x (h.pending x p)⟩

/-- An update that leaves the fixed part, orders, melt records, streams and sources as they are. -/
theorem Within.of_same {s t : State} (hf : t.fixed = s.fixed) (ho : t.orders = s.orders) (hz : t.melt.zones = s.melt.zones)
    (hi : t.melt.ice = s.melt.ice) (hs : t.streams = s.streams) (hr : t.sources = s.sources) : Within s t :=
  ⟨hf, ho ▸ List.suffix_refl _, fun z => by simp [State.zone, hz], fun d h => by simpa [hi] using h,
    fun g => by simp [State.stream, hs], fun x h => by simpa [State.source, hr] using h,
    fun x h => by simpa [State.source, hr] using h⟩

theorem within_foldl {α : Type} (f : State → α → State) (h : ∀ s x, Within s (f s x)) :
    ∀ (xs : List α) (s : State), Within s (xs.foldl f s)
  | [], s => .refl s
  | x :: xs, s => (h s x).trans (within_foldl f h xs (f s x))

theorem within_ite {s t u : State} {c : Prop} [Decidable c] (ht : Within s t) (hu : Within s u) :
    Within s (if c then t else u) := by split <;> assumption

/-! ## Dish Table, Drive Ring Controller, Feeder Share Unit -/

theorem within_setDish (s : State) (d : DishId) (f : Dish → Dish) (h : ∀ x, (f x).reported = x.reported) :
    Within s (s.setDish d f) := by
  refine .of_same ?_ rfl rfl rfl rfl rfl
  have : (fun e => ((s.setDish d f).dish e).reported) = fun e => (s.dish e).reported := by
    funext e; rw [setDish_dish]; split <;> simp [h]
  simp only [State.fixed, this]; rfl

theorem within_setMotion (s : State) (d : DishId) (m : Motion) : Within s (s.setMotion d m) :=
  within_setDish s d _ fun _ => rfl

theorem within_setCommanded (s : State) (d : DishId) (az el : Int) : Within s (s.setCommanded d az el) :=
  within_setDish s d _ fun _ => rfl

theorem within_askRound (s : State) : Within s s.askRound := .of_same rfl rfl rfl rfl rfl rfl

theorem within_askScan (s : State) : Within s s.askScan := .of_same rfl rfl rfl rfl rfl rfl

theorem within_askJudge (s : State) : Within s s.askJudge := .of_same rfl rfl rfl rfl rfl rfl

theorem raised_service (d : Detail) (x : SourceState) :
    (x.raised d).inService = x.inService ∧ (x.raised d).enabled = x.enabled := by
  unfold SourceState.raised; split <;> simp

theorem raised_overrun (d : Detail) (x : SourceState) (h : x.overrun ≤ 15) : (x.raised d).overrun ≤ 15 := by
  unfold SourceState.raised; split
  · exact Nat.min_le_left _ _
  · exact h

theorem within_raise (s : State) (x : Source) (d : Detail) : Within s (s.raise x d) := by
  refine ⟨?_, List.suffix_refl _, fun _ => le_rfl, fun _ h => h, fun _ => le_rfl, fun y h => ?_, fun y h => ?_⟩
  · have : (fun y => (((s.raise x d).source y).inService, ((s.raise x d).source y).enabled))
        = fun y => ((s.source y).inService, (s.source y).enabled) := by
      funext y; rw [State.raise, setSource_source]; split <;> simp [raised_service]
    simp only [State.fixed, this]; rfl
  · rw [State.raise, setSource_source]; split
    · exact raised_overrun d _ h
    · exact h
  · rw [State.raise, setSource_source]; split
    · exact (raised_pending d _).1
    · exact h

theorem within_raiseConflict (s : State) (d : DishId) (k : ConflictKind) : Within s (s.raiseConflict d k) := by
  unfold State.raiseConflict; split
  · exact within_raise _ _ _
  · exact .refl s

theorem within_putReservation (s : State) (d : DishId) (r : Option Reservation) : Within s (s.putReservation d r) :=
  .of_same rfl rfl rfl rfl rfl rfl

theorem within_putFeeder (s : State) (f : Feeder) (ha : f.allowance = s.feeder.allowance) (hg : f.guard = s.feeder.guard) :
    Within s { s with feeder := f } := .of_same (by simp only [State.fixed, ha, hg]; rfl) rfl rfl rfl rfl rfl

theorem within_judgeRestored (s : State) : Within s s.judgeRestored := by
  unfold State.judgeRestored; split
  · exact .refl s
  · split
    · exact .trans (within_putFeeder _ _ (by rfl) (by rfl)) (within_raise _ _ _)
    · exact .refl s

theorem within_enterReservation (s : State) (d : DishId) (n : Nat) (p : Purpose) : Within s (s.enterReservation d n p) := by
  unfold State.enterReservation
  exact within_ite (.refl s) ((within_putReservation _ _ _).trans (within_askScan _))

theorem within_releaseReservation (s : State) (d : DishId) : Within s (s.releaseReservation d) := by
  unfold State.releaseReservation; split
  · exact .refl s
  · exact (within_putReservation _ _ _).trans <| (within_askRound _).trans <| (within_askScan _).trans <|
      within_askJudge _

theorem within_limitReservation (s : State) (d : DishId) (n : Nat) : Within s (s.limitReservation d n) := by
  unfold State.limitReservation; split
  · exact .refl s
  · exact within_ite (.refl s) <| (within_putReservation _ _ _).trans <| (within_askRound _).trans <|
      (within_askScan _).trans <| within_askJudge _

theorem within_putSlot (s : State) (d : DishId) (c : Command) : Within s (s.putSlot d c) := .of_same rfl rfl rfl rfl rfl rfl

theorem within_writeStop (s : State) (d : DishId) : Within s (s.writeStop d) :=
  (within_putSlot _ _ _).trans (within_releaseReservation _ _)

theorem within_writeHoldBrake (s : State) (d : DishId) : Within s (s.writeHoldBrake d) := within_putSlot _ _ _

theorem within_writeBarred (s : State) (d : DishId) (c : Command) (f : State → State) (h : ∀ s, Within s (f s)) :
    Within s (s.writeBarred d c f) := within_ite (.refl s) ((within_putSlot _ _ _).trans (h _))

theorem within_writeLoad (s : State) (d : DishId) (az el : AxisLoad) (t : Nat) : Within s (s.writeLoad d az el t) :=
  within_writeBarred _ _ _ _ fun _ => within_setDish _ _ _ fun _ => rfl

theorem within_writeGo (s : State) (d : DishId) (f : Frame) : Within s (s.writeGo d f) :=
  within_writeBarred _ _ _ _ fun s => .refl s

theorem within_writeTrackStep (s : State) (d : DishId) (az el : Int) : Within s (s.writeTrackStep d az el) :=
  within_writeBarred _ _ _ _ fun s => .refl s

theorem within_stopDish (s : State) (d : DishId) : Within s (s.stopDish d) :=
  (within_writeStop _ _).trans (within_setMotion _ _ _)

theorem within_faultDish (s : State) (d : DishId) : Within s (s.faultDish d) :=
  (within_writeStop _ _).trans (within_setMotion _ _ _)

/-! ## Melt Scheduler -/

theorem DishZones.get_set (x : DishZones) (k l : ZoneKind) (z : Zone) : (x.set k z).get l = if l = k then z else x.get l := by
  cases k <;> cases l <;> rfl

theorem setZone_zone (s : State) (z w : ZoneId) (f : Zone → Zone) :
    (s.setZone z f).zone w = if w = z then f (s.zone w) else s.zone w := by
  obtain ⟨d, k⟩ := z; obtain ⟨e, l⟩ := w
  by_cases hd : e = d
  · subst hd
    by_cases hk : l = k
    · subst hk; simp [State.setZone, State.zone, DishZones.get_set]
    · simp [State.setZone, State.zone, DishZones.get_set, hk]
  · simp [State.setZone, State.zone, upd_ne _ _ _ _ hd, hd]

@[simp] theorem setZone_zone_self (s : State) (z : ZoneId) (f : Zone → Zone) : (s.setZone z f).zone z = f (s.zone z) := by
  simp [setZone_zone]

theorem within_setZone (s : State) (z : ZoneId) (f : Zone → Zone) (h : ∀ x, (f x).remaining ≤ x.remaining) :
    Within s (s.setZone z f) :=
  ⟨rfl, List.suffix_refl _, fun w => by rw [setZone_zone]; split <;> simp [h], fun _ i => i, fun _ => le_rfl, fun _ i => i,
    fun _ i => i⟩

theorem chargeAt_le (now : Nat) (x : Zone) : (Zone.chargeAt now x).remaining ≤ x.remaining := by
  unfold Zone.chargeAt; split <;> simp [Zone.charge]

theorem within_chargeZone (s : State) (z : ZoneId) : Within s (s.chargeZone z) := within_setZone _ _ _ (chargeAt_le _)

theorem within_leavePowerOrder (s : State) (z : ZoneId) : Within s (s.leavePowerOrder z) := .of_same rfl rfl rfl rfl rfl rfl

theorem within_leaveRotation (s : State) (z : ZoneId) : Within s (s.leaveRotation z) := .of_same rfl rfl rfl rfl rfl rfl

theorem within_clearIce (s : State) (d : DishId) : Within s (s.clearIce d) :=
  ⟨rfl, List.suffix_refl _, fun _ => le_rfl,
    fun e h => by
      simp only [State.clearIce, State.askRound, Fin.getElem_fin, set_get] at h ⊢
      split at h <;> simp_all,
    fun _ => le_rfl, fun _ h => h, fun _ h => h⟩

theorem within_retireZone (s : State) (z : ZoneId) : Within s (s.retireZone z) :=
  (within_setZone _ _ _ (by intro _; exact Nat.zero_le _)).trans (within_leaveRotation _ _)

theorem within_completeZone (s : State) (z : ZoneId) : Within s (s.completeZone z) := by
  unfold State.completeZone; dsimp only
  exact within_ite ((within_retireZone _ _).trans <| (within_clearIce _ _).trans (within_raise _ _ _)) (within_retireZone _ _)

theorem within_cutPower (s : State) (z : ZoneId) (st : ZoneState) : Within s (s.cutPower z st) :=
  (within_leavePowerOrder _ _).trans (within_setZone _ _ _ (by intro _; exact le_rfl))

theorem within_unpower (s : State) (z : ZoneId) (st : ZoneState) : Within s (s.unpower z st) := by
  have h : Within s ((s.chargeZone z).cutPower z st) := (within_chargeZone _ _).trans (within_cutPower _ _ _)
  unfold State.unpower; dsimp only
  exact within_ite (h.trans (within_completeZone _ _)) h

theorem within_reblockZone (s : State) (z : ZoneId) : Within s (s.reblockZone z) := by
  unfold State.reblockZone; split
  · exact .refl s
  · exact within_ite ((within_unpower _ _ _).trans (within_askScan _)) (.refl s)
  · exact within_ite ((within_setZone _ _ _ (by intro _; exact le_rfl)).trans (within_askScan _)) (.refl s)
  · exact within_ite (.refl s) ((within_setZone _ _ _ (by intro _; exact le_rfl)).trans (within_askScan _))

theorem within_reblockDish (s : State) (d : DishId) : Within s (s.reblockDish d) := within_foldl _ within_reblockZone _ _

theorem within_answerBlock (s : State) (d : DishId) (b : Bool) : Within s (s.answerBlock d b) :=
  within_ite ((within_reblockDish _ _).trans (within_askScan _)) (within_reblockDish _ _)

theorem within_reblockAll (s : State) : Within s s.reblockAll :=
  (within_foldl _ within_reblockZone _ _).trans (within_askScan _)

theorem within_powerZone (s : State) (z : ZoneId) (p : Nat) : Within s (s.powerZone z p) :=
  .trans (within_putFeeder _ _ (by rfl) (by rfl)) (within_setZone _ _ _ (by intro _; exact le_rfl))

theorem within_scanWalk : ∀ (zs : List ZoneId) (s : State), Within s (scanWalk zs s)
  | [], s => .refl s
  | z :: zs, s => by
    unfold scanWalk; split
    · exact within_ite ((within_powerZone _ _ _).trans (within_scanWalk zs _)) (.refl s)
    · exact within_scanWalk zs s
    · exact within_scanWalk zs s
    · exact within_scanWalk zs s

theorem within_poweringScan (s : State) : Within s s.poweringScan := within_scanWalk _ _

theorem within_shedWalk : ∀ (xs : List PoweredZone) (s : State), Within s (shedWalk xs s)
  | [], s => .refl s
  | x :: xs, s => by
    unfold shedWalk
    exact within_ite (.refl s) ((within_unpower _ _ _).trans (within_shedWalk xs _))

theorem within_shedHeaters (s : State) : Within s s.shedHeaters := within_shedWalk _ _

theorem within_cancelZone (s : State) (z : ZoneId) : Within s (s.cancelZone z) := by
  unfold State.cancelZone; split
  · exact .refl s
  · exact (within_leavePowerOrder _ _).trans (within_retireZone _ _)
  · exact within_retireZone _ _
  · exact within_retireZone _ _

theorem within_iceAfterCancel (s : State) (d : DishId) : Within s (s.iceAfterCancel d) :=
  within_ite (within_clearIce _ _) (.refl s)

/-! ## Stow Controller -/

theorem within_putStow (s : State) (x : Stow) : Within s { s with stow := x } := .of_same rfl rfl rfl rfl rfl rfl

theorem within_setStowState (s : State) (x : StowState) : Within s (s.setStowState x) :=
  within_ite (.refl s) ((within_putStow _ _).trans (within_raise _ _ _))

theorem within_enterCalmWait (s : State) : Within s s.enterCalmWait := (within_putStow _ _).trans (within_setStowState _ _)

theorem within_checkStowedHold (s : State) : Within s s.checkStowedHold := by
  have h : Within s (s.setStowState .stowedHold).reblockAll := (within_setStowState _ _).trans (within_reblockAll _)
  exact within_ite (within_ite (h.trans (within_enterCalmWait _)) h) (.refl s)

theorem within_setMark (s : State) (d : DishId) (m : StowMark) : Within s (s.setMark d m) := within_putStow _ _

theorem within_setMove (s : State) (d : DishId) (m : Option StowMove) : Within s (s.setMove d m) := within_putStow _ _

theorem within_unqueue (s : State) (d : DishId) : Within s (s.unqueue d) :=
  within_ite ((within_putStow _ _).trans (within_askRound _)) (.refl s)

/-- A dish that is not queued leaves everything as it is: no change of the queue, no round asked for (R104, R119). -/
theorem unqueue_of_not_queued {s : State} {d : DishId} (h : s.queued d = false) : s.unqueue d = s := by
  simp [State.unqueue, h]

theorem within_joinQueue (s : State) (d : DishId) : Within s (s.joinQueue d) := by
  have h : ∀ q, Within s ({ s with stow := { s.stow with queue := q } }).askRound := fun _ =>
    (within_putStow _ _).trans (within_askRound _)
  exact within_ite ((h _).trans (within_raiseConflict _ _ _)) (h _)

theorem within_rejoinTail (s : State) (d : DishId) : Within s (s.rejoinTail d) := by
  have h : Within s ((s.setMark d .none).joinQueue d) := (within_setMark _ _ _).trans (within_joinQueue _ _)
  exact within_ite (h.trans <| (within_setStowState _ _).trans (within_reblockAll _)) h

theorem within_rejoinBlocked (s : State) (d : DishId) : Within s (s.rejoinBlocked d) := by
  unfold State.rejoinBlocked
  refine within_ite ?_ (.refl s)
  split <;> first | exact within_setMark _ _ _ | exact within_rejoinTail _ _

theorem within_rejoinUnreachable (s : State) (d : DishId) : Within s (s.rejoinUnreachable d) :=
  within_ite (within_ite (within_setMark _ _ _) (within_rejoinTail _ _)) (.refl s)

theorem within_rejoinAll (s : State) : Within s s.rejoinAll :=
  within_foldl _ (fun _ _ => (within_rejoinBlocked _ _).trans (within_rejoinUnreachable _ _)) _ _

theorem within_enterIdle (s : State) (d : DishId) : Within s (s.enterIdle d) :=
  by
  unfold State.enterIdle; dsimp only
  refine .trans ?_ (within_rejoinUnreachable _ _)
  refine .trans ?_ (within_askRound _)
  have h : Within s (s.setDish d fun x => { x with motion := .idle, cmdAz := x.repAz, cmdEl := x.repEl }) :=
    within_setDish _ _ _ (by intro _; rfl)
  exact h.trans (within_ite (within_writeHoldBrake _ _) (within_putSlot _ _ _))

theorem within_markDish (s : State) (d : DishId) (m : StowMark) (w : Detail) : Within s (s.markDish d m w) :=
  (within_unqueue _ _).trans <| (within_setMove _ _ _).trans <| (within_setMark _ _ _).trans <|
    (within_raise _ _ _).trans (within_checkStowedHold _)

theorem within_stowOnFault (s : State) (d : DishId) (p : Motion) : Within s (s.stowOnFault d p) :=
  within_ite (.refl s) <| within_ite (within_markDish _ _ _ _) <| within_ite (within_markDish _ _ _ _) (.refl s)

theorem within_stowOnLoss (s : State) (d : DishId) (p : Motion) : Within s (s.stowOnLoss d p) :=
  within_ite (.refl s) <| within_ite (within_markDish _ _ _ _) (.refl s)

theorem within_stowOnLocked (s : State) (d : DishId) : Within s (s.stowOnLocked d) :=
  within_ite (within_markDish _ _ _ _) (.refl s)

theorem within_buildDish (s : State) (d : DishId) : Within s (s.buildDish d) :=
  within_ite (.refl s) <| within_ite ((within_setMotion _ _ _).trans (within_writeHoldBrake _ _)) <|
    within_ite ((within_setMark _ _ _).trans (within_raise _ _ _)) <|
      within_ite ((within_setMark _ _ _).trans (within_raise _ _ _)) <| within_ite (within_joinQueue _ _) (.refl s)

theorem within_buildQueue (s : State) : Within s s.buildQueue :=
  (within_putStow s _).trans <| (within_foldl _ within_buildDish _ _).trans <|
    (within_putStow _ _).trans (within_askRound _)

theorem within_rerank (s : State) (m : MastId) : Within s (s.rerank m) := (within_putStow _ _).trans (within_askRound _)

theorem within_judgeWatch (s : State) : Within s s.judgeWatch := by
  unfold State.judgeWatch; split
  · exact within_ite (within_setStowState _ _) (.refl s)
  · exact within_ite (.refl s) (within_setStowState _ _)
  · exact .refl s
  · exact .refl s
  · exact .refl s

theorem within_judgeRelease (s : State) : Within s s.judgeRelease := by
  unfold State.judgeRelease; split
  · exact within_ite (within_enterCalmWait _) (.refl s)
  · exact within_ite (.refl s) <| (within_putStow _ _).trans <| (within_setStowState _ _).trans (within_rejoinAll _)
  · exact .refl s
  · exact .refl s
  · exact .refl s

theorem within_judgeWeather (s : State) : Within s s.judgeWeather :=
  (within_judgeRelease _).trans (within_judgeWatch _)

theorem within_enterClear (s : State) : Within s s.enterClear := by
  unfold State.enterClear; dsimp only
  refine .trans ?_ (within_judgeWatch _)
  refine .trans ?_ (within_askRound _)
  refine .trans ?_ (within_setStowState _ _)
  refine .trans ?_ (within_putStow _ _)
  exact within_foldl _ (fun _ _ => within_ite (within_enterIdle _ _) (.refl _)) _ _

/-! ## Group Controller -/

theorem within_setGroup (s : State) (g : SlotId) (f : Group → Group) : Within s (s.setGroup g f) :=
  .of_same rfl rfl rfl rfl rfl rfl

theorem within_setStream (s : State) (g : SlotId) (f : Stream → Stream)
    (h : ∀ x, (f x).buffer.length ≤ x.buffer.length) : Within s (s.setStream g f) :=
  ⟨rfl, List.suffix_refl _, fun _ => le_rfl, fun _ i => i,
    fun w => by rw [setStream_stream]; split <;> simp [h], fun _ i => i, fun _ i => i⟩

theorem within_setMember (s : State) (g : SlotId) (d : DishId) (f : Member → Member) : Within s (s.setMember g d f) :=
  within_setGroup _ _ _

theorem within_setGroupState (s : State) (g : SlotId) (x : GroupState) : Within s (s.setGroupState g x) :=
  within_setGroup _ _ _

theorem within_onDishes (s : State) (ds : List DishId) (f : State → DishId → State) (h : ∀ s d, Within s (f s d)) :
    Within s (s.onDishes ds f) := within_foldl f h ds s

theorem within_freeSlot (s : State) (g : SlotId) (r : GroupResult) : Within s (s.freeSlot g r) :=
  (within_setGroup _ _ _).trans <| (within_setStream _ _ _ (by intro _; exact Nat.zero_le _)).trans (within_askRound _)

theorem within_leaveGroup (s : State) (d : DishId) : Within s (s.leaveGroup d) := within_setDish _ _ _ fun _ => rfl

theorem within_raiseArrived (s : State) (g : SlotId) (x : GroupState) : Within s (s.raiseArrived g x) := within_raise _ _ _

theorem within_passPositioned (s : State) (g : SlotId) : Within s (s.passPositioned g) :=
  (within_onDishes _ _ _ within_writeHoldBrake).trans <| (within_onDishes _ _ _ within_releaseReservation).trans <|
    (within_setGroupState _ _ _).trans (within_raiseArrived _ _ _)

theorem within_passTracking (s : State) (g : SlotId) : Within s (s.passTracking g) := by
  unfold State.passTracking; dsimp only
  refine .trans ?_ (within_raiseArrived _ _ _)
  refine .trans ?_ (within_setGroupState _ _ _)
  refine .trans ?_ (within_setStream _ _ _ (by intro _; exact le_rfl))
  exact within_onDishes _ _ _ fun _ _ => within_limitReservation _ _ _

theorem within_passOnArrival (s : State) (g : SlotId) : Within s (s.passOnArrival g) := by
  unfold State.passOnArrival; split
  · exact within_passPositioned _ _
  · exact within_passTracking _ _

theorem within_judgeStart (s : State) (g : SlotId) : Within s (s.judgeStart g) :=
  within_ite ((within_onDishes _ _ _ fun _ _ => within_writeGo _ _ _).trans (within_setGroup _ _ _)) (.refl s)

theorem within_judgeArrival (s : State) (g : SlotId) : Within s (s.judgeArrival g) :=
  within_ite (within_passOnArrival _ _) (.refl s)

theorem within_judgeHeld (s : State) (g : SlotId) : Within s (s.judgeHeld g) :=
  within_ite (within_setGroupState _ _ _) (.refl s)

theorem within_judgeGroup (s : State) (g : SlotId) : Within s (s.judgeGroup g) := by
  unfold State.judgeGroup; split
  · exact within_judgeStart _ _
  · exact within_judgeArrival _ _
  · exact within_judgeHeld _ _
  all_goals exact .refl s

theorem within_stopUnlessLost (s : State) (d : DishId) : Within s (s.stopUnlessLost d) :=
  within_ite (.refl s) (within_stopDish _ _)

theorem within_afterExclusion (s : State) (g : SlotId) : Within s (s.afterExclusion g) :=
  within_ite ((within_freeSlot _ _ _).trans (within_raise _ _ _)) (within_judgeGroup _ _)

theorem within_exclude (s : State) (g : SlotId) (d : DishId) (w : ExclReason) : Within s (s.exclude g d w) :=
  (within_setMember _ _ _ _).trans <| (within_leaveGroup _ _).trans <| (within_stopUnlessLost _ _).trans <|
    within_afterExclusion _ _

theorem within_excludeMember (s : State) (d : DishId) (w : ExclReason) : Within s (s.excludeMember d w) := by
  unfold State.excludeMember; split
  · exact .refl s
  · exact within_exclude _ _ _ _

theorem within_endGroup (s : State) (g : SlotId) (r : GroupResult) : Within s (s.endGroup g r) :=
  (within_onDishes _ _ _ fun _ _ => (within_leaveGroup _ _).trans (within_stopUnlessLost _ _)).trans (within_freeSlot _ _ _)

theorem within_dissolve (r : GroupResult) (s : State) (g : SlotId) : Within s (State.dissolve r s g) :=
  within_ite (.refl s) ((within_endGroup _ _ _).trans (within_raise _ _ _))

theorem within_dissolveAll (s : State) (r : GroupResult) : Within s (s.dissolveAll r) :=
  within_foldl _ (within_dissolve r) _ _

/-! ## Shed List and shed moves -/

theorem within_setShedResult (s : State) (d : DishId) (r : ShedResult) : Within s (s.setShedResult d r) :=
  .of_same rfl rfl rfl rfl rfl rfl

theorem within_setShedMove (s : State) (d : DishId) (m : Option ShedMove) : Within s (s.setShedMove d m) :=
  .of_same rfl rfl rfl rfl rfl rfl

theorem within_unlistShed (s : State) (d : DishId) : Within s (s.unlistShed d) := .of_same rfl rfl rfl rfl rfl rfl

theorem within_skipShed (s : State) (d : DishId) : Within s (s.skipShed d) :=
  within_ite ((within_unlistShed _ _).trans (within_setShedResult _ _ _)) (.refl s)

theorem within_endShed (s : State) (d : DishId) (r : ShedResult) : Within s (s.endShed d r) :=
  (within_setShedMove _ _ _).trans (within_setShedResult _ _ _)

theorem within_stopShed (s : State) (d : DishId) (r : ShedResult) : Within s (s.stopShed d r) :=
  within_ite ((within_stopDish _ _).trans (within_endShed _ _ _)) (.refl s)

theorem within_clearSheds (s : State) (r : ShedResult) : Within s (s.clearSheds r) :=
  (within_onDishes _ _ _ fun _ _ => within_stopShed _ _ _).trans (within_onDishes _ _ _ within_skipShed)

/-! ## Stow triggers -/

theorem within_enterActive (s : State) : Within s s.enterActive :=
  (within_dissolveAll _ _).trans <| (within_clearSheds _ _).trans <| (within_putStow _ _).trans <|
    (within_setStowState _ _).trans <| (within_reblockAll _).trans (within_buildQueue _)

theorem within_noteTripOrder (s : State) (m : MastId) : Within s (s.noteTripOrder m) :=
  within_ite (.refl s) (within_putStow _ _)

theorem within_tripTrigger (s : State) (m : MastId) : Within s (s.tripTrigger m) := by
  unfold State.tripTrigger; split
  · exact within_ite (.refl s) ((within_noteTripOrder _ _).trans (within_rerank _ _))
  all_goals exact (within_noteTripOrder _ _).trans (within_enterActive _)

theorem within_plainTrigger (s : State) : Within s s.plainTrigger := within_ite (.refl s) (within_enterActive _)

/-! ## Admission rounds -/

theorem within_stowInPlace (s : State) (d : DishId) : Within s (s.stowInPlace d) :=
  (within_setMotion _ _ _).trans (within_writeHoldBrake _ _)

theorem within_conflictAtStow (s : State) (d : DishId) : Within s (s.conflictAtStow d) :=
  within_ite (within_raiseConflict _ _ _) (.refl s)

theorem within_admitStow (s : State) (d : DishId) (p : MovePlan) : Within s (s.admitStow d p) := by
  have h : Within s ((s.unqueue d).conflictAtStow d) := (within_unqueue _ _).trans (within_conflictAtStow _ _)
  refine h.trans (within_ite (within_stowInPlace _ _) ?_)
  exact (within_enterReservation _ _ _ _).trans <| (within_shedHeaters _).trans <| (within_writeLoad _ _ _ _ _).trans <|
    (within_setMotion _ _ _).trans (within_setMove _ _ _)

theorem within_noteFloor (s : State) (d : DishId) (p : MovePlan) : Within s (s.noteFloor d p) := by
  refine (within_raise _ _ _).trans (within_ite ?_ (.refl _))
  exact .trans (within_putFeeder _ _ (by rfl) (by rfl)) (within_raise _ _ _)

theorem within_stowWalk : ∀ (ds : List DishId) (s : State), Within s (stowWalk ds s).state
  | [], s => .refl s
  | d :: ds, s => by
    unfold stowWalk; dsimp only
    split
    · exact within_stowWalk ds s
    · split
      · exact ((within_unqueue _ _).trans (within_stowInPlace _ _)).trans (within_stowWalk ds _)
      · split
        · exact (within_admitStow _ _ _).trans (within_stowWalk ds _)
        · split
          · exact .refl s
          · exact (within_admitStow _ _ _).trans (within_noteFloor _ _ _)

theorem within_stowTurn (s : State) : Within s s.stowTurn.state := by
  unfold State.stowTurn; split
  · exact (within_stowWalk _ _).trans (within_checkStowedHold _)
  · exact .refl s

theorem within_loadMembers (s : State) (g : SlotId) : Within s (s.loadMembers g) := by
  refine within_foldl _ (fun t m => ?_) _ _
  split
  · exact within_writeLoad _ _ _ _ _
  · exact .refl t

theorem within_launch (s : State) (g : SlotId) : Within s (s.launch g) :=
  within_ite (within_passOnArrival _ _) ((within_loadMembers _ _).trans (within_setGroup _ _ _))

theorem within_enterGroup (s : State) (draws : List (DishId × Nat)) : Within s (s.enterGroup draws) :=
  within_foldl _ (fun _ _ => within_enterReservation _ _ _ _) _ _

theorem within_resumeSlew (s : State) (g : SlotId) (t : Nat) (draws : List (DishId × Nat)) :
    Within s (s.resumeSlew g t draws) :=
  (within_enterGroup _ _).trans <| (within_shedHeaters _).trans <| (within_setGroup _ _ _).trans (within_launch _ _)

theorem within_resumeTrack (s : State) (g : SlotId) (draws : List (DishId × Nat)) : Within s (s.resumeTrack g draws) :=
  (within_enterGroup _ _).trans <| (within_shedHeaters _).trans (within_setGroup _ _ _)

theorem within_resumeTurn (s : State) (g : SlotId) : Within s (s.resumeTurn g).state := by
  unfold State.resumeTurn; split
  · split
    · dsimp only; split
      · exact within_resumeTrack _ _ _
      · exact .refl s
    all_goals
      dsimp only; split
      · exact within_resumeSlew _ _ _ _
      · exact .refl s
  · exact .refl s

theorem within_resumeWalk : ∀ (gs : List SlotId) (s : State), Within s (resumeWalk gs s).state
  | [], s => .refl s
  | g :: gs, s => by
    unfold resumeWalk; dsimp only; split
    · exact within_resumeTurn _ _
    · exact (within_resumeTurn _ _).trans (within_resumeWalk gs _)

/-- An order leaves the head of the queue. -/
theorem within_tailOrders (s : State) : Within s { s with orders := s.orders.tail } :=
  ⟨rfl, List.tail_suffix _, fun _ => le_rfl, fun _ h => h, fun _ => le_rfl, fun _ h => h, fun _ h => h⟩

theorem within_admitOrder (s : State) (o : Order) (g : SlotId) (t : Nat) (draws : List (DishId × Nat)) :
    Within s (s.admitOrder o g t draws) := by
  unfold State.admitOrder; dsimp only
  refine .trans ?_ (within_launch _ _)
  refine .trans ?_ (within_shedHeaters _)
  refine .trans ?_ (within_enterGroup _ _)
  refine .trans ?_ (within_onDishes _ _ _ fun _ _ => within_setDish _ _ _ (by intro _; rfl))
  refine .trans ?_ (within_setGroup _ _ _)
  refine .trans ?_ (within_setStream _ _ _ (by intro _; exact Nat.zero_le _))
  exact within_tailOrders _

theorem within_orderWalk : ∀ (os : List Order) (s : State), Within s (orderWalk os s).state
  | [], s => .refl s
  | o :: os, s => by
    unfold orderWalk; split
    · exact .refl s
    · split
      · exact .refl s
      · split
        · exact .refl s
        · split
          · exact ((within_tailOrders _).trans (within_raise _ _ _)).trans (within_orderWalk os _)
          · dsimp only; split
            · exact (within_admitOrder _ _ _ _ _).trans (within_orderWalk os _)
            · exact .refl s

theorem within_admitShed (s : State) (d : DishId) (p : MovePlan) : Within s (s.admitShed d p) := by
  refine (within_unlistShed s d).trans (within_ite (within_setShedResult _ _ _) ?_)
  exact (within_enterReservation _ _ _ _).trans <| (within_shedHeaters _).trans <| (within_writeLoad _ _ _ _ _).trans <|
    (within_setMotion _ _ _).trans (within_setShedMove _ _ _)

theorem within_shedListWalk : ∀ (es : List ShedEntry) (s : State), Within s (shedListWalk es s).state
  | [], s => .refl s
  | e :: es, s => by
    unfold shedListWalk; split
    · exact .refl s
    · split
      · exact ((within_unlistShed _ _).trans (within_setShedResult _ _ _)).trans (within_shedListWalk es _)
      · dsimp only; split
        · exact (within_admitShed _ _ _).trans (within_shedListWalk es _)
        · exact .refl s

theorem within_admissionRound (s : State) : Within s s.admissionRound := by
  unfold State.admissionRound; dsimp only
  have h1 := within_stowTurn s
  have h2 := h1.trans (within_resumeWalk allSlots _)
  have h3 := h2.trans (within_orderWalk (resumeWalk allSlots s.stowTurn.state).state.orders _)
  exact within_ite h1 <| within_ite h2 <| within_ite h3 <| h3.trans (within_shedListWalk _ _)

theorem within_settleFuel : ∀ (n : Nat) (s : State), Within s (settleFuel n s)
  | 0, s => .of_same rfl rfl rfl rfl rfl rfl
  | n + 1, s => by
    unfold settleFuel
    refine within_ite ?_ (within_ite ?_ (within_ite ?_ (.refl s)))
    · refine .trans ?_ (within_settleFuel n _)
      refine .trans ?_ (within_judgeRestored _)
      exact .of_same rfl rfl rfl rfl rfl rfl
    · refine .trans ?_ (within_settleFuel n _)
      refine .trans ?_ (within_admissionRound _)
      exact .of_same rfl rfl rfl rfl rfl rfl
    · refine .trans ?_ (within_settleFuel n _)
      refine .trans ?_ (within_poweringScan _)
      exact .of_same rfl rfl rfl rfl rfl rfl

/-- The judgement, rounds and scans of a step. -/
theorem within_settle (s : State) : Within s s.settle := within_settleFuel _ _

theorem settleFuel_quiet : ∀ (n : Nat) (s : State), (settleFuel n s).Quiet
  | 0, _ => ⟨rfl, rfl, rfl⟩
  | n + 1, s => by
    unfold settleFuel; split
    · exact settleFuel_quiet n _
    · split
      · exact settleFuel_quiet n _
      · split
        · exact settleFuel_quiet n _
        · simp_all [State.Quiet]

/-- After settle nothing is asked for. -/
theorem settle_quiet (s : State) : s.settle.Quiet := settleFuel_quiet _ _

/-- Where nothing is asked for, settle changes nothing. -/
theorem settle_of_quiet (s : State) (h : s.Quiet) : s.settle = s := by
  unfold State.settle State.settleBound
  rw [show 3 * (s.stow.queue.length + s.orders.length + s.melt.shedList.length + 8) + 12
    = (3 * (s.stow.queue.length + s.orders.length + s.melt.shedList.length + 8) + 11) + 1 from rfl]
  simp [settleFuel, h.1, h.2.1, h.2.2]

/-! ## Track Stream Unit -/

theorem within_writeSteps (s : State) (g : SlotId) (az el : Int) : Within s (s.writeSteps g az el) :=
  within_onDishes _ _ _ fun _ _ => within_writeTrackStep _ _ _ _

theorem within_judgeLow (s : State) (g : SlotId) (n : Nat) : Within s (s.judgeLow g n) :=
  within_ite ((within_setStream _ _ _ (by intro _; exact le_rfl)).trans (within_raise _ _ _)) (.refl s)

theorem within_lockEntry (s : State) (g : SlotId) (e : TrackEntry) (f : LimitFailure) : Within s (s.lockEntry g e f) :=
  (within_setStream _ _ _ (by intro _; exact le_rfl)).trans <| (within_setGroupState _ _ _).trans (within_raise _ _ _)

theorem within_starve (s : State) (g : SlotId) (c : StarveCause) : Within s (s.starve g c) :=
  (within_setStream _ _ _ (by intro _; exact le_rfl)).trans <| (within_setGroupState _ _ _).trans <|
    (within_writeSteps _ _ _ _).trans (within_raise _ _ _)

theorem within_coastStep (s : State) (g : SlotId) : Within s (s.coastStep g) := by
  unfold State.coastStep; dsimp only; split
  · split
    · exact (within_setStream _ _ _ (by intro _; exact le_rfl)).trans (within_writeSteps _ _ _ _)
    · exact within_starve _ _ _
  · exact within_starve _ _ _

theorem within_passFinish (s : State) (g : SlotId) : Within s (s.passFinish g) :=
  (within_passPositioned _ _).trans (within_setStream _ _ _ (by intro _; exact Nat.zero_le _))

theorem within_setBuffer (s : State) (g : SlotId) (f : Stream → Stream)
    (h : (f (s.stream g)).buffer.length ≤ (s.stream g).buffer.length) : Within s (s.setStream g f) :=
  ⟨rfl, List.suffix_refl _, fun _ => le_rfl, fun _ i => i,
    fun w => by rw [setStream_stream]; split
                · next e => subst e; exact h
                · exact le_rfl,
    fun _ i => i, fun _ i => i⟩

theorem within_passEntry (s : State) (g : SlotId) (e : TrackEntry) (rest : List TrackEntry)
    (h : (s.stream g).buffer = e :: rest) : Within s (s.passEntry g e rest) :=
  (within_setBuffer _ _ _ (by simp [h])).trans <| (within_writeSteps _ _ _ _).trans (within_judgeLow _ _ _)

theorem within_consume (s : State) (g : SlotId) : Within s (s.consume g) := by
  unfold State.consume; dsimp only; split
  · split
    · exact within_passFinish _ _
    · split
      · exact (within_setGroupState _ _ _).trans (within_raise _ _ _)
      · split
        · next e rest hb =>
          split
          · exact within_passEntry _ _ _ _ hb
          · exact within_lockEntry _ _ _ _
        · exact within_coastStep _ _
  · exact within_ite (within_writeSteps _ _ _ _) (.refl s)
  all_goals exact .refl s

end Sys2Proof.Machine
end

