-- ==== Sys2Proof/Laws/Rounds.lean ====
section
/-! SUPPORT. Laws/Rounds.lean: what the rounds and scans of a step leave alone: dishes that are neither IDLE nor ENGAGED, groups
that are neither waiting to resume nor about to be made, stow marks, and outside ACTIVE the whole Stow Controller. -/

namespace Sys2Proof.Machine

/-! ## Heater operations -/

/-- The second state differs from the first in the heaters' records, the power order, attention and asks alone. -/
structure HeatOnly (s t : State) : Prop where
  dishes : t.dishes = s.dishes
  ring : t.ring = s.ring
  reservations : t.feeder.reservations = s.feeder.reservations
  groups : t.groups = s.groups
  streams : t.streams = s.streams
  stow : t.stow = s.stow
  shedMoves : t.melt.shedMoves = s.melt.shedMoves

theorem HeatOnly.refl (s : State) : HeatOnly s s := ⟨rfl, rfl, rfl, rfl, rfl, rfl, rfl⟩

theorem HeatOnly.trans {s t u : State} (h : HeatOnly s t) (k : HeatOnly t u) : HeatOnly s u :=
  ⟨k.1.trans h.1, k.2.trans h.2, k.3.trans h.3, k.4.trans h.4, k.5.trans h.5, k.6.trans h.6, k.7.trans h.7⟩

theorem heatOnly_ite {s t u : State} {c : Prop} [Decidable c] (ht : HeatOnly s t) (hu : HeatOnly s u) :
    HeatOnly s (if c then t else u) := by split <;> assumption

theorem heatOnly_foldl {α : Type} (f : State → α → State) (h : ∀ s x, HeatOnly s (f s x)) :
    ∀ (xs : List α) (s : State), HeatOnly s (xs.foldl f s)
  | [], s => .refl s
  | x :: xs, s => (h s x).trans (heatOnly_foldl f h xs (f s x))

theorem heatOnly_setZone (s : State) (z : ZoneId) (f : Zone → Zone) : HeatOnly s (s.setZone z f) :=
  ⟨rfl, rfl, rfl, rfl, rfl, rfl, rfl⟩

theorem heatOnly_askScan (s : State) : HeatOnly s s.askScan := ⟨rfl, rfl, rfl, rfl, rfl, rfl, rfl⟩

theorem heatOnly_raise (s : State) (x : Source) (d : Detail) : HeatOnly s (s.raise x d) := ⟨rfl, rfl, rfl, rfl, rfl, rfl, rfl⟩

theorem heatOnly_leavePowerOrder (s : State) (z : ZoneId) : HeatOnly s (s.leavePowerOrder z) :=
  ⟨rfl, rfl, rfl, rfl, rfl, rfl, rfl⟩

theorem heatOnly_clearIce (s : State) (d : DishId) : HeatOnly s (s.clearIce d) := ⟨rfl, rfl, rfl, rfl, rfl, rfl, rfl⟩

theorem heatOnly_retireZone (s : State) (z : ZoneId) : HeatOnly s (s.retireZone z) := ⟨rfl, rfl, rfl, rfl, rfl, rfl, rfl⟩

theorem heatOnly_completeZone (s : State) (z : ZoneId) : HeatOnly s (s.completeZone z) := by
  unfold State.completeZone; dsimp only
  exact heatOnly_ite ((heatOnly_retireZone _ _).trans <| (heatOnly_clearIce _ _).trans (heatOnly_raise _ _ _))
    (heatOnly_retireZone _ _)

theorem heatOnly_unpower (s : State) (z : ZoneId) (st : ZoneState) : HeatOnly s (s.unpower z st) := by
  have h : HeatOnly s ((s.chargeZone z).cutPower z st) := ⟨rfl, rfl, rfl, rfl, rfl, rfl, rfl⟩
  unfold State.unpower; dsimp only
  exact heatOnly_ite (h.trans (heatOnly_completeZone _ _)) h

theorem heatOnly_reblockZone (s : State) (z : ZoneId) : HeatOnly s (s.reblockZone z) := by
  unfold State.reblockZone; split
  · exact .refl s
  · exact heatOnly_ite ((heatOnly_unpower _ _ _).trans (heatOnly_askScan _)) (.refl s)
  · exact heatOnly_ite ((heatOnly_setZone _ _ _).trans (heatOnly_askScan _)) (.refl s)
  · exact heatOnly_ite (.refl s) ((heatOnly_setZone _ _ _).trans (heatOnly_askScan _))

theorem heatOnly_reblockAll (s : State) : HeatOnly s s.reblockAll :=
  (heatOnly_foldl _ heatOnly_reblockZone _ _).trans (heatOnly_askScan _)

theorem heatOnly_reblockDish (s : State) (d : DishId) : HeatOnly s (s.reblockDish d) :=
  heatOnly_foldl _ heatOnly_reblockZone _ _

theorem heatOnly_answerBlock (s : State) (d : DishId) (b : Bool) : HeatOnly s (s.answerBlock d b) :=
  heatOnly_ite ((heatOnly_reblockDish _ _).trans (heatOnly_askScan _)) (heatOnly_reblockDish _ _)

theorem heatOnly_scanWalk : ∀ (zs : List ZoneId) (s : State), HeatOnly s (scanWalk zs s)
  | [], s => .refl s
  | z :: zs, s => by
    unfold scanWalk; split
    · refine heatOnly_ite (HeatOnly.trans ?_ (heatOnly_scanWalk zs _)) (.refl s)
      exact ⟨rfl, rfl, rfl, rfl, rfl, rfl, rfl⟩
    · exact heatOnly_scanWalk zs s
    · exact heatOnly_scanWalk zs s
    · exact heatOnly_scanWalk zs s

theorem heatOnly_poweringScan (s : State) : HeatOnly s s.poweringScan := heatOnly_scanWalk _ _

theorem heatOnly_shedWalk : ∀ (xs : List PoweredZone) (s : State), HeatOnly s (shedWalk xs s)
  | [], s => .refl s
  | x :: xs, s => by
    unfold shedWalk
    exact heatOnly_ite (.refl s) ((heatOnly_unpower _ _ _).trans (heatOnly_shedWalk xs _))

theorem heatOnly_shedHeaters (s : State) : HeatOnly s s.shedHeaters := heatOnly_shedWalk _ _

/-! ## What rounds spare -/

/-- The rounds and scans that lead from the first state to the second have spared what they must: SparesBut with no dish and
no group excepted. -/
structure Spares (s t : State) : Prop where
  dish : ∀ d, (s.dish d).motion.atCall = false → t.holdOf d = s.holdOf d
  group : ∀ g, (s.group g).state.atCall = false → t.group g = s.group g ∧ t.stream g = s.stream g
  marks : t.stow.marks = s.stow.marks
  trips : t.stow.tripOrder = s.stow.tripOrder
  stow : s.stow.state ≠ .active → t.stow = s.stow

theorem Spares.refl (s : State) : Spares s s := ⟨fun _ _ => rfl, fun _ _ => ⟨rfl, rfl⟩, rfl, rfl, fun _ => rfl⟩

theorem holdOf_dish {s t : State} {d : DishId} (h : t.holdOf d = s.holdOf d) : t.dish d = s.dish d :=
  congrArg Hold.record h

theorem Spares.trans {s t u : State} (h : Spares s t) (k : Spares t u) : Spares s u := by
  refine ⟨fun d hd => ?_, fun g hg => ?_, k.marks.trans h.marks, k.trips.trans h.trips, fun ha => ?_⟩
  · have e := h.dish d hd
    exact (k.dish d (by rw [holdOf_dish e]; exact hd)).trans e
  · obtain ⟨e, f⟩ := h.group g hg
    obtain ⟨e', f'⟩ := k.group g (by rw [e]; exact hg)
    exact ⟨e'.trans e, f'.trans f⟩
  · have e := h.stow ha
    exact (k.stow (by rw [e]; exact ha)).trans e

section
variable {s t : State} {d : DishId} {g : SlotId}

theorem Spares.callable_dish (h : Spares s t) (hd : (t.dish d).motion.atCall = true) : (s.dish d).motion.atCall = true := by
  by_contra hc
  rw [Bool.not_eq_true] at hc
  rw [holdOf_dish (h.dish d hc), hc] at hd
  cases hd

theorem Spares.callable_group (h : Spares s t) (hg : (t.group g).state.atCall = true) :
    (s.group g).state.atCall = true := by
  by_contra hc
  rw [Bool.not_eq_true] at hc
  rw [(h.group g hc).1, hc] at hg
  cases hg

theorem Spares.active (h : Spares s t) (ha : t.stow.state = .active) : s.stow.state = .active := by
  by_contra hc
  rw [h.stow hc] at ha
  exact hc ha

theorem Spares.heat {u : State} (h : Spares s t) (k : HeatOnly t u) : Spares s u := by
  have hold : ∀ d, u.holdOf d = t.holdOf d := fun d => by
    simp [State.holdOf, State.dish, State.slot, k.dishes, k.ring, k.reservations, k.stow, k.shedMoves]
  exact ⟨fun d hd => (hold d).trans (h.dish d hd),
    fun g hg => by simpa [State.group, State.stream, k.groups, k.streams] using h.group g hg,
    by rw [k.stow]; exact h.marks, by rw [k.stow]; exact h.trips, fun ha => by rw [k.stow]; exact h.stow ha⟩

theorem Spares.askRound (h : Spares s t) : Spares s t.askRound := ⟨h.dish, h.group, h.marks, h.trips, h.stow⟩

theorem Spares.askScan (h : Spares s t) : Spares s t.askScan := ⟨h.dish, h.group, h.marks, h.trips, h.stow⟩

theorem Spares.askJudge (h : Spares s t) : Spares s t.askJudge := ⟨h.dish, h.group, h.marks, h.trips, h.stow⟩

theorem Spares.raise (h : Spares s t) (x : Source) (w : Detail) : Spares s (t.raise x w) :=
  ⟨h.dish, h.group, h.marks, h.trips, h.stow⟩

/-- A change that concerns one dish that may be set in motion. -/
theorem Spares.one (h : Spares s t) {u : State} (hd : (s.dish d).motion.atCall = true)
    (he : ∀ e, e ≠ d → u.holdOf e = t.holdOf e) (hg : u.groups = t.groups) (hs : u.streams = t.streams)
    (hm : u.stow.marks = t.stow.marks) (ht : u.stow.tripOrder = t.stow.tripOrder)
    (hw : s.stow.state ≠ .active → u.stow = t.stow) : Spares s u := by
  refine ⟨fun e hc => ?_, fun g hc => ?_, hm.trans h.marks, ht.trans h.trips, fun ha => (hw ha).trans (h.stow ha)⟩
  · refine (he e fun eq => ?_).trans (h.dish e hc)
    subst eq; rw [hc] at hd; cases hd
  · simpa [State.group, State.stream, hg, hs] using h.group g hc

theorem Spares.setDish (h : Spares s t) (hd : (s.dish d).motion.atCall = true) (f : Dish → Dish) :
    Spares s (t.setDish d f) :=
  h.one hd (fun e he => by simp [State.holdOf, setDish_dish, he]; rfl) rfl rfl rfl rfl fun _ => rfl

theorem Spares.setMotion (h : Spares s t) (hd : (s.dish d).motion.atCall = true) (m : Motion) :
    Spares s (t.setMotion d m) := h.setDish hd _

theorem Spares.putSlot (h : Spares s t) (hd : (s.dish d).motion.atCall = true) (c : Command) : Spares s (t.putSlot d c) :=
  h.one hd (fun e he => by simp [State.holdOf, putSlot_slot, he]; rfl) rfl rfl rfl rfl fun _ => rfl

theorem Spares.putReservation (h : Spares s t) (hd : (s.dish d).motion.atCall = true) (r : Option Reservation) :
    Spares s (t.putReservation d r) :=
  h.one hd (fun e he => by
    have : (t.putReservation d r).feeder.reservations[e] = t.feeder.reservations[e] := by
      simp [State.putReservation, set_get, he]
    simp only [State.holdOf, this]; rfl) rfl rfl rfl rfl fun _ => rfl

theorem Spares.setShedMove (h : Spares s t) (hd : (s.dish d).motion.atCall = true) (m : Option ShedMove) :
    Spares s (t.setShedMove d m) :=
  h.one hd (fun e he => by
    have : (t.setShedMove d m).melt.shedMoves[e] = t.melt.shedMoves[e] := by simp [State.setShedMove, set_get, he]
    simp only [State.holdOf, this]; rfl) rfl rfl rfl rfl fun _ => rfl

theorem Spares.setMove (h : Spares s t) (hd : (s.dish d).motion.atCall = true) (ha : s.stow.state = .active)
    (m : Option StowMove) : Spares s (t.setMove d m) :=
  h.one hd (fun e he => by
    have : (t.setMove d m).stow.moves[e] = t.stow.moves[e] := by simp [State.setMove, set_get, he]
    simp only [State.holdOf, this]; rfl) rfl rfl rfl rfl fun hc => absurd ha hc

theorem Spares.unqueue (h : Spares s t) (ha : s.stow.state = .active) (d : DishId) : Spares s (t.unqueue d) := by
  unfold State.unqueue; split
  · exact ⟨h.dish, h.group, h.marks, h.trips, fun hc => absurd ha hc⟩
  · exact h

theorem Spares.setStowState (h : Spares s t) (ha : s.stow.state = .active) (x : StowState) :
    Spares s (t.setStowState x) := by
  unfold State.setStowState; split
  · exact h
  · exact ⟨h.dish, h.group, h.marks, h.trips, fun hc => absurd ha hc⟩

theorem Spares.enterCalmWait (h : Spares s t) (ha : s.stow.state = .active) : Spares s t.enterCalmWait := by
  unfold State.enterCalmWait
  refine Spares.setStowState ?_ ha _
  exact ⟨h.dish, h.group, h.marks, h.trips, fun hc => absurd ha hc⟩

theorem Spares.setGroup (h : Spares s t) (hg : (s.group g).state.atCall = true) (f : Group → Group) :
    Spares s (t.setGroup g f) := by
  refine ⟨h.dish, fun k hk => ?_, h.marks, h.trips, h.stow⟩
  have : k ≠ g := fun e => by subst e; rw [hk] at hg; cases hg
  rw [setGroup_group, if_neg this]; exact h.group k hk

theorem Spares.setStream (h : Spares s t) (hg : (s.group g).state.atCall = true) (f : Stream → Stream) :
    Spares s (t.setStream g f) := by
  refine ⟨h.dish, fun k hk => ?_, h.marks, h.trips, h.stow⟩
  have : k ≠ g := fun e => by subst e; rw [hk] at hg; cases hg
  rw [setStream_stream, if_neg this]; exact h.group k hk

theorem Spares.judgeRestored (h : Spares s t) : Spares s t.judgeRestored := by
  unfold State.judgeRestored; split
  · exact h
  · split
    · exact ⟨h.dish, h.group, h.marks, h.trips, h.stow⟩
    · exact h

theorem Spares.enterReservation (h : Spares s t) (hd : (s.dish d).motion.atCall = true) (n : Nat) (p : Purpose) :
    Spares s (t.enterReservation d n p) := by
  unfold State.enterReservation; split
  · exact h
  · exact (h.putReservation hd _).askScan

theorem Spares.releaseReservation (h : Spares s t) (hd : (s.dish d).motion.atCall = true) :
    Spares s (t.releaseReservation d) := by
  unfold State.releaseReservation; split
  · exact h
  · exact (h.putReservation hd _).askRound.askScan.askJudge

theorem Spares.limitReservation (h : Spares s t) (hd : (s.dish d).motion.atCall = true) (n : Nat) :
    Spares s (t.limitReservation d n) := by
  unfold State.limitReservation; split
  · exact h
  · split
    · exact h
    · exact (h.putReservation hd _).askRound.askScan.askJudge

theorem Spares.writeLoad (h : Spares s t) (hd : (s.dish d).motion.atCall = true) (az el : AxisLoad) (n : Nat) :
    Spares s (t.writeLoad d az el n) := by
  unfold State.writeLoad State.writeBarred; split
  · exact h
  · exact (h.putSlot hd _).setDish hd _

theorem Spares.foldl {α : Type} (f : State → α → State) (xs : List α) (step : ∀ x ∈ xs, ∀ u, Spares s u → Spares s (f u x))
    (h : Spares s t) : Spares s (xs.foldl f t) := by
  induction xs generalizing t with
  | nil => exact h
  | cons x xs ih =>
    exact ih (fun y hy => step y (List.mem_cons_of_mem _ hy)) (step x List.mem_cons_self t h)

/-! ## Stow Queue -/

theorem Spares.stowInPlace (h : Spares s t) (hd : (s.dish d).motion.atCall = true) : Spares s (t.stowInPlace d) :=
  (h.setMotion hd _).putSlot hd _

theorem Spares.raiseConflict (h : Spares s t) (d : DishId) (k : ConflictKind) : Spares s (t.raiseConflict d k) := by
  unfold State.raiseConflict; split
  · exact h.raise _ _
  · exact h

theorem Spares.conflictAtStow (h : Spares s t) (d : DishId) : Spares s (t.conflictAtStow d) := by
  unfold State.conflictAtStow; split
  · exact h.raiseConflict _ _
  · exact h

theorem Spares.admitStow (h : Spares s t) (hd : (s.dish d).motion.atCall = true) (ha : s.stow.state = .active)
    (p : MovePlan) : Spares s (t.admitStow d p) := by
  have h1 := (h.unqueue ha d).conflictAtStow d
  unfold State.admitStow; dsimp only; split
  · exact h1.stowInPlace hd
  · exact ((((h1.enterReservation hd _ _).heat (heatOnly_shedHeaters _)).writeLoad hd _ _ _).setMotion hd _).setMove hd ha _

theorem Spares.noteFloor (h : Spares s t) (d : DishId) (p : MovePlan) : Spares s (t.noteFloor d p) := by
  have h1 := h.raise .stowProblem (.stowStarved d p.draw t.feeder.allowance)
  unfold State.noteFloor; dsimp only; split
  · exact ⟨h1.dish, h1.group, h1.marks, h1.trips, h1.stow⟩
  · exact h1

theorem Spares.stowWalk (ha : s.stow.state = .active) (ds : List DishId) (h : Spares s t) :
    Spares s (stowWalk ds t).state := by
  induction ds generalizing t with
  | nil => exact h
  | cons d ds ih =>
    unfold Machine.stowWalk; dsimp only
    split
    · exact ih h
    · next hm =>
      have hd : (s.dish d).motion.atCall = true := h.callable_dish (by rw [not_not.1 hm]; rfl)
      split
      · exact ih ((h.unqueue ha d).stowInPlace hd)
      · split
        · exact ih (h.admitStow hd ha _)
        · split
          · exact h
          · exact (h.admitStow hd ha _).noteFloor _ _

theorem Spares.checkStowedHold (h : Spares s t) : Spares s t.checkStowedHold := by
  unfold State.checkStowedHold; split
  · next hc =>
    have ha := h.active hc.1
    have h1 := (h.setStowState ha .stowedHold).heat (heatOnly_reblockAll _)
    dsimp only; split
    · exact h1.enterCalmWait ha
    · exact h1
  · exact h

theorem spares_stowTurn (s : State) : Spares s s.stowTurn.state := by
  unfold State.stowTurn; split
  · next ha => exact ((Spares.refl s).stowWalk ha _).checkStowedHold
  · exact .refl s

/-! ## Groups -/

theorem mem_activeDishes {x : Group} : d ∈ x.activeDishes ↔ ∃ m ∈ x.members, m.isActive = true ∧ m.order.dish = d := by
  simp [Group.activeDishes, Group.active, and_assoc]

theorem Spares.passOnArrival (h : Spares s t) (hg : (s.group g).state.atCall = true)
    (hm : ∀ d ∈ (t.group g).activeDishes, (s.dish d).motion.atCall = true) : Spares s (t.passOnArrival g) := by
  unfold State.passOnArrival; split
  · unfold State.passPositioned State.raiseArrived State.setGroupState; dsimp only
    refine Spares.raise (Spares.setGroup ?_ hg _) _ _
    refine Spares.foldl _ _ (fun d hd u hu => hu.releaseReservation (hm d hd)) ?_
    exact Spares.foldl _ _ (fun d hd u hu => hu.putSlot (hm d hd) _) h
  · unfold State.passTracking State.raiseArrived State.setGroupState; dsimp only
    refine Spares.raise (Spares.setGroup (Spares.setStream ?_ hg _) hg _) _ _
    exact Spares.foldl _ _ (fun d hd u hu => hu.limitReservation (hm d hd) _) h

theorem Spares.launch (h : Spares s t) (hg : (s.group g).state.atCall = true)
    (hm : ∀ d ∈ (t.group g).activeDishes, (s.dish d).motion.atCall = true) : Spares s (t.launch g) := by
  unfold State.launch; split
  · exact h.passOnArrival hg hm
  · refine Spares.setGroup ?_ hg _
    refine Spares.foldl _ _ (fun m hmem u hu => ?_) h
    have hd := hm m.order.dish (List.mem_map.2 ⟨m, hmem, rfl⟩)
    split
    · exact hu.writeLoad hd _ _ _
    · exact hu

theorem Spares.enterGroup (h : Spares s t) (draws : List (DishId × Nat))
    (hm : ∀ x ∈ draws, (s.dish x.1).motion.atCall = true) : Spares s (t.enterGroup draws) :=
  Spares.foldl _ _ (fun x hx _ hu => hu.enterReservation (hm x hx) _ _) h

theorem replan_active (u : State) (n : Nat) (m : Member) :
    (u.replan n m).isActive = m.isActive ∧ (u.replan n m).order = m.order := by
  unfold State.replan; split
  · next h => simp [Member.isActive, MemberStatus.isActive] at h ⊢; simp [h]
  · simp

theorem enterGroup_group (u : State) (draws : List (DishId × Nat)) (k : SlotId) : (u.enterGroup draws).group k = u.group k := by
  unfold State.enterGroup
  induction draws generalizing u with
  | nil => rfl
  | cons x xs ih =>
    rw [List.foldl_cons, ih]
    unfold State.enterReservation; split <;> rfl

theorem shedHeaters_group (u : State) (k : SlotId) : u.shedHeaters.group k = u.group k := by
  simp [State.group, (heatOnly_shedHeaters u).groups]

theorem Spares.resumeTurn (h : Spares s t) (g : SlotId) : Spares s (t.resumeTurn g).state := by
  unfold State.resumeTurn; split
  · next hr =>
    simp only [State.resumable, Bool.and_eq_true, decide_eq_true_eq, List.all_eq_true] at hr
    obtain ⟨⟨⟨hw, -⟩, -⟩, hall⟩ := hr
    have hg : (s.group g).state.atCall = true := h.callable_group (by rw [hw]; rfl)
    have hm : ∀ m ∈ (t.group g).active, (s.dish m.order.dish).motion.atCall = true := fun m hmem =>
      h.callable_dish (by rw [(hall m hmem).1]; rfl)
    split
    · dsimp only; split
      · refine Spares.setGroup (Spares.heat (h.enterGroup _ fun x hx => ?_) (heatOnly_shedHeaters _)) hg _
        obtain ⟨d, hd, rfl⟩ := List.mem_map.1 hx
        obtain ⟨m, hmem, rfl⟩ := List.mem_map.1 hd
        exact hm m hmem
      · exact h
    all_goals
      dsimp only; split
      · refine Spares.launch (Spares.setGroup (Spares.heat (h.enterGroup _ fun x hx => ?_) (heatOnly_shedHeaters _)) hg _)
          hg fun d hd => ?_
        · simp only [State.resumeInputs, List.mem_map, List.mem_filterMap, Option.map_eq_some_iff] at hx
          obtain ⟨y, ⟨m, hmem, p, -, rfl⟩, rfl⟩ := hx
          exact hm m hmem
        · rw [setGroup_group_self, mem_activeDishes] at hd
          obtain ⟨m', hmem', ha', rfl⟩ := hd
          obtain ⟨m, hmem, rfl⟩ := List.mem_map.1 hmem'
          obtain ⟨e1, e2⟩ := replan_active t (commonTime ((t.resumeInputs g).map (·.2))) m
          rw [e2]
          exact hm m (List.mem_filter.2 ⟨hmem, by rw [← e1]; exact ha'⟩)
      · exact h
  · exact h

theorem Spares.resumeWalk (gs : List SlotId) (h : Spares s t) : Spares s (resumeWalk gs t).state := by
  induction gs generalizing t with
  | nil => exact h
  | cons g gs ih =>
    unfold Machine.resumeWalk; dsimp only; split
    · exact h.resumeTurn g
    · exact ih (h.resumeTurn g)

/-! ## Order Queue and Shed List -/

theorem judge_taken {u : State} (h : u.judgeMember d = .taken) : (u.dish d).motion = .idle := by
  unfold State.judgeMember at h
  repeat' split at h
  all_goals (by_contra hc; contradiction)

theorem Spares.admitOrder (h : Spares s t) (o : Order) (n : Nat) (draws : List (DishId × Nat))
    (hg : (s.group g).state.atCall = true) (hd : ∀ x ∈ draws, (s.dish x.1).motion.atCall = true)
    (hm : ∀ m ∈ o.members, t.judgeMember m.dish = .taken ∨ ∃ r, t.judgeMember m.dish = .excluded r) :
    Spares s (t.admitOrder o g n draws) := by
  unfold State.admitOrder; dsimp only
  have h0 : Spares s { t with orders := t.orders.tail } := ⟨h.dish, h.group, h.marks, h.trips, h.stow⟩
  have h1 := (h0.setStream hg fun _ => Stream.reset).setGroup hg fun _ =>
    { state := .loading, tag := o.tag, action := o.action, heldFrom := none, t := n, loadFrame := none
      startFrame := none, arrivalFrame := none, lastResult := .none, members := o.members.map (t.memberEntry n) }
  have h2 := Spares.foldl (s := s) (fun s d => s.setDish d fun x => { x with motion := .engaged, group := some g })
    (draws.map (·.1)) (fun d hmem u hu => by
      obtain ⟨x, hx, rfl⟩ := List.mem_map.1 hmem
      exact hu.setDish (hd x hx) _) h1
  refine Spares.launch ((h2.enterGroup draws hd).heat (heatOnly_shedHeaters _)) hg fun d hmem => ?_
  rw [shedHeaters_group, enterGroup_group] at hmem
  have keep : ∀ (ds : List DishId) (u : State),
      (ds.foldl (fun s d => s.setDish d fun x => { x with motion := .engaged, group := some g }) u).group g = u.group g := by
    intro ds
    induction ds with
    | nil => intro u; rfl
    | cons e es ih => intro u; rw [List.foldl_cons, ih]; rfl
  unfold State.onDishes at hmem
  rw [keep, setGroup_group_self, mem_activeDishes] at hmem
  obtain ⟨m', hm', ha, rfl⟩ := hmem
  obtain ⟨m, hmo, rfl⟩ := List.mem_map.1 hm'
  rcases hm m hmo with ht | ⟨r, hr⟩
  · have : (t.memberEntry n m).order = m := by simp [State.memberEntry, ht]
    rw [this]
    exact h.callable_dish (by rw [judge_taken ht]; rfl)
  · simp [State.memberEntry, hr, Member.isActive, MemberStatus.isActive] at ha

theorem Spares.orderWalk (os : List Order) (h : Spares s t) : Spares s (orderWalk os t).state := by
  induction os generalizing t with
  | nil => exact h
  | cons o os ih =>
    unfold Machine.orderWalk; split
    · exact h
    · next g hfree =>
      have hg : (s.group g).state.atCall = true := by
        have := List.find?_some hfree
        exact h.callable_group (by rw [of_decide_eq_true this]; rfl)
      split
      · exact h
      · split
        · exact h
        · next hw =>
          split
          · exact ih ⟨h.dish, h.group, h.marks, h.trips, h.stow⟩
          · dsimp only; split
            · refine ih (h.admitOrder o _ _ hg (fun x hx => ?_) fun m hmem => ?_)
              · simp only [List.map_map, List.mem_map] at hx
                obtain ⟨m, hmem, rfl⟩ := hx
                have := (List.mem_filter.1 hmem).2
                exact h.callable_dish (by
                  change (t.dish m.dish).motion.atCall = true
                  rw [judge_taken (of_decide_eq_true this)]; rfl)
              · have hn : ¬ t.judgeMember m.dish = .waits := fun e =>
                  hw (List.any_eq_true.2 ⟨m, hmem, by simp [e]⟩)
                cases hj : t.judgeMember m.dish with
                | taken => exact .inl rfl
                | waits => exact absurd hj hn
                | excluded r => exact .inr ⟨r, rfl⟩
            · exact h

theorem Spares.admitShed (h : Spares s t) (hd : (s.dish d).motion.atCall = true) (p : MovePlan) :
    Spares s (t.admitShed d p) := by
  have h0 : Spares s (t.unlistShed d) := ⟨h.dish, h.group, h.marks, h.trips, h.stow⟩
  unfold State.admitShed; dsimp only; split
  · exact ⟨h0.dish, h0.group, h0.marks, h0.trips, h0.stow⟩
  · exact ((((h0.enterReservation hd _ _).heat (heatOnly_shedHeaters _)).writeLoad hd _ _ _).setMotion hd _).setShedMove hd _

theorem Spares.shedListWalk (es : List ShedEntry) (h : Spares s t) : Spares s (shedListWalk es t).state := by
  induction es generalizing t with
  | nil => exact h
  | cons e es ih =>
    unfold Machine.shedListWalk; split
    · exact h
    · split
      · exact ih ⟨h.dish, h.group, h.marks, h.trips, h.stow⟩
      · next hu =>
        dsimp only; split
        · refine ih (h.admitShed (h.callable_dish ?_) _)
          simp [State.shedUnfit] at hu
          rw [hu.2]; rfl
        · exact h

/-! ## Rounds -/

theorem spares_admissionRound (s : State) : Spares s s.admissionRound := by
  have h1 := spares_stowTurn s
  unfold State.admissionRound; dsimp only; split
  · exact h1
  · have h2 := h1.resumeWalk allSlots
    split
    · exact h2
    · have h3 := h2.orderWalk (Machine.resumeWalk allSlots s.stowTurn.state).state.orders
      split
      · exact h3
      · exact h3.shedListWalk _

theorem spares_settleFuel : ∀ (n : Nat) (s : State), Spares s (settleFuel n s)
  | 0, s => ⟨fun _ _ => rfl, fun _ _ => ⟨rfl, rfl⟩, rfl, rfl, fun _ => rfl⟩
  | n + 1, s => by
    unfold settleFuel; split
    · refine .trans (Spares.judgeRestored ?_) (spares_settleFuel n _)
      exact ⟨fun _ _ => rfl, fun _ _ => ⟨rfl, rfl⟩, rfl, rfl, fun _ => rfl⟩
    · split
      · refine .trans (.trans ?_ (spares_admissionRound _)) (spares_settleFuel n _)
        exact ⟨fun _ _ => rfl, fun _ _ => ⟨rfl, rfl⟩, rfl, rfl, fun _ => rfl⟩
      · split
        · refine .trans (Spares.heat ?_ (heatOnly_poweringScan _)) (spares_settleFuel n _)
          exact ⟨fun _ _ => rfl, fun _ _ => ⟨rfl, rfl⟩, rfl, rfl, fun _ => rfl⟩
        · exact .refl s

/-- What the rounds and scans of a step spare. -/
theorem spares_settle (s : State) : Spares s s.settle := spares_settleFuel _ _

/-- Rounds and scans after an event that has touched the dishes and groups of two lists. -/
theorem SparesBut.settle {ds : List DishId} {gs : List SlotId} (h : SparesBut ds gs s t) : SparesBut ds gs s t.settle := by
  have k := spares_settle t
  refine ⟨fun d hd hc => ?_, fun g hg hc => ?_, k.marks.trans h.marks, k.trips.trans h.trips, fun ha => ?_⟩
  · have e := h.dish d hd hc
    exact (k.dish d (by rw [holdOf_dish e]; exact hc)).trans e
  · obtain ⟨e, f⟩ := h.group g hg hc
    obtain ⟨e', f'⟩ := k.group g (by rw [e]; exact hc)
    exact ⟨e'.trans e, f'.trans f⟩
  · have e := h.stow ha
    exact (k.stow (by rw [e]; exact ha)).trans e

end

end Sys2Proof.Machine
end

