-- ==== Sys2Proof/Laws/Serve.lean ====
section
/-! SUPPORT. Laws/Serve.lean: how an event or a request comes to its meaning: what serve and event can answer, what the placing
of a response leaves alone, and the rounds in which nobody waits. -/

namespace Sys2Proof.Machine

/-! ## Events and requests -/

/-- An event is taken unless the reset pin is held. -/
theorem event_taken {s take : State} (h : s.resetHeld = false) : event s take = .next take := by simp [event, h]

/-- What an event can answer. -/
theorem event_cases {s take t : State} (h : event s take = .next t) :
    (s.resetHeld = true ∧ t = s) ∨ (s.resetHeld = false ∧ t = take) := by
  unfold event at h
  split at h
  · next hr => exact .inl ⟨hr, by cases h; rfl⟩
  · next hr => exact .inr ⟨by simpa using hr, by cases h; rfl⟩

/-- A request that is heard, permitted and of a right length is handed to its owning block. -/
theorem serve_taken {α : Type} {src : Sender} {r : Request} {s : State} (h : s.hears src = true)
    (hp : permitted src.port r = true) (f : α) (take : α → State) :
    serve src r (.fields f) s take = .next (take f) := by simp [serve, h, hp]

/-- A request not permitted on its port is refused and recorded. -/
theorem serve_notPermitted {α : Type} {src : Sender} {r : Request} {s : State} (h : s.hears src = true)
    (hp : permitted src.port r = false) (body : Body α) (take : α → State) :
    serve src r body s take = .next ((s.setViolation src.port
      ((s.violation src.port).refuse r.code (senderStation src))).refuse src r .notPermitted) := by simp [serve, h, hp]

/-- What serve can answer. -/
theorem serve_cases {α : Type} {src : Sender} {r : Request} {body : Body α} {s t : State} {take : α → State}
    (h : serve src r body s take = .next t) :
    (s.hears src = false ∧ t = s)
      ∨ (permitted src.port r = false ∧ t = (s.setViolation src.port
          ((s.violation src.port).refuse r.code (senderStation src))).refuse src r .notPermitted)
      ∨ (permitted src.port r = true ∧ body = .wrongLength ∧ t = s.refuse src r .badField)
      ∨ ∃ f, s.hears src = true ∧ permitted src.port r = true ∧ body = .fields f ∧ t = take f := by
  unfold serve at h
  split at h
  · next hh =>
    split at h
    · next hp =>
      split at h
      · cases h; exact .inr (.inr (.inl ⟨hp, rfl, rfl⟩))
      · next f => cases h; exact .inr (.inr (.inr ⟨f, hh, hp, rfl, rfl⟩))
    · next hp => cases h; exact .inr (.inl ⟨by simpa using hp, rfl⟩)
  · next hh => cases h; exact .inl ⟨by simpa using hh, rfl⟩

/-! ## Responses -/

/-- The end of a transaction changes the ports alone. -/
theorem endTransaction_ports (s : State) (p : Port) :
    s.endTransaction p = { s with ports := (s.endTransaction p).ports } := by cases p <;> rfl

/-- The end of a transaction clears the port's abandoned mark. -/
theorem endTransaction_abandoned (s : State) (p : Port) : (s.endTransaction p).abandoned p = false := by cases p <;> rfl

/-- The placing of a response changes the ports alone. -/
theorem putHolder_ports (s : State) (src : Sender) (r : Option Response) :
    s.putHolder src r = { s with ports := (s.putHolder src r).ports } := by cases src <;> rfl

/-- A change of a violation record changes the ports alone. -/
theorem setViolation_ports (s : State) (p : Port) (v : Violation) :
    s.setViolation p v = { s with ports := (s.setViolation p v).ports } := by cases p <;> rfl

section
variable (s : State) (src : Sender) (r : Option Response)

@[simp] theorem putHolder_settings : (s.putHolder src r).settings = s.settings := by cases src <;> rfl
@[simp] theorem putHolder_dishes : (s.putHolder src r).dishes = s.dishes := by cases src <;> rfl
@[simp] theorem putHolder_ring : (s.putHolder src r).ring = s.ring := by cases src <;> rfl
@[simp] theorem putHolder_staging : (s.putHolder src r).staging = s.staging := by cases src <;> rfl
@[simp] theorem putHolder_resetCommit : (s.putHolder src r).resetCommit = s.resetCommit := by cases src <;> rfl
@[simp] theorem putHolder_orders : (s.putHolder src r).orders = s.orders := by cases src <;> rfl
@[simp] theorem putHolder_groups : (s.putHolder src r).groups = s.groups := by cases src <;> rfl
@[simp] theorem putHolder_streams : (s.putHolder src r).streams = s.streams := by cases src <;> rfl
@[simp] theorem putHolder_wind : (s.putHolder src r).wind = s.wind := by cases src <;> rfl
@[simp] theorem putHolder_stow : (s.putHolder src r).stow = s.stow := by cases src <;> rfl
@[simp] theorem putHolder_feeder : (s.putHolder src r).feeder = s.feeder := by cases src <;> rfl
@[simp] theorem putHolder_melt : (s.putHolder src r).melt = s.melt := by cases src <;> rfl
@[simp] theorem putHolder_locks : (s.putHolder src r).locks = s.locks := by cases src <;> rfl
@[simp] theorem putHolder_sources : (s.putHolder src r).sources = s.sources := by cases src <;> rfl
@[simp] theorem putHolder_clock : (s.putHolder src r).clock = s.clock := by cases src <;> rfl
@[simp] theorem putHolder_resetHeld : (s.putHolder src r).resetHeld = s.resetHeld := by cases src <;> rfl
@[simp] theorem putHolder_pending : (s.putHolder src r).pending = s.pending := by cases src <;> rfl
@[simp] theorem putHolder_fresh : (s.putHolder src r).fresh = s.fresh := by cases src <;> rfl
@[simp] theorem putHolder_judgeDue : (s.putHolder src r).judgeDue = s.judgeDue := by cases src <;> rfl
@[simp] theorem putHolder_roundDue : (s.putHolder src r).roundDue = s.roundDue := by cases src <;> rfl
@[simp] theorem putHolder_scanDue : (s.putHolder src r).scanDue = s.scanDue := by cases src <;> rfl

/-- The sender's holder has the response that was placed. -/
@[simp] theorem putHolder_holder : (s.putHolder src r).holder src = r := by
  cases src <;> simp [State.putHolder, State.storeResponse, State.holder]

end

/-- A port's violation record after it has been set. -/
@[simp] theorem setViolation_self (s : State) (p : Port) (v : Violation) : (s.setViolation p v).violation p = v := by
  cases p <;> rfl

/-- The placing of a response keeps every violation record. -/
@[simp] theorem putHolder_violation (s : State) (src : Sender) (r : Option Response) (p : Port) :
    (s.putHolder src r).violation p = s.violation p := by cases src <;> cases p <;> rfl

/-! ## Rounds in which nobody waits -/

/-- With the stow not in ACTIVE and no contender waiting, a round changes nothing. -/
theorem admissionRound_of_noContender {s : State} (ha : s.stow.state ≠ .active) (h : s.NoContender) :
    s.admissionRound = s := by
  obtain ⟨ho, hl, hg⟩ := h
  have hw : ∀ gs : List SlotId, resumeWalk gs s = ⟨s, false⟩ := by
    intro gs
    induction gs with
    | nil => rfl
    | cons g gs ih =>
      have : s.resumeTurn g = ⟨s, false⟩ := by
        unfold State.resumeTurn
        rw [if_neg]
        simp [State.resumable, hg g]
      simp [resumeWalk, this, ih]
  have hs : s.stowTurn = ⟨s, false⟩ := by unfold State.stowTurn; rw [if_neg ha]
  simp [State.admissionRound, hs, hw, ho, hl, orderWalk, shedListWalk]

/-- With the census INCOMPLETE and the stow not in ACTIVE, a round changes nothing (R155). -/
theorem admissionRound_of_noCensus {s : State} (ha : s.stow.state ≠ .active) (h : s.censusDone = false) :
    s.admissionRound = s := by
  have hw : ∀ gs : List SlotId, resumeWalk gs s = ⟨s, false⟩ := by
    intro gs
    induction gs with
    | nil => rfl
    | cons g gs ih =>
      have : s.resumeTurn g = ⟨s, false⟩ := by
        unfold State.resumeTurn
        rw [if_neg]
        simp [State.resumable, h]
      simp [resumeWalk, this, ih]
  have hs : s.stowTurn = ⟨s, false⟩ := by unfold State.stowTurn; rw [if_neg ha]
  have ho : ∀ os : List Order, orderWalk os s = ⟨s, false⟩ := by
    intro os; cases os with
    | nil => rfl
    | cons o os => unfold orderWalk; split <;> simp [h]
  have hl : ∀ es : List ShedEntry, shedListWalk es s = ⟨s, false⟩ := by
    intro es; cases es with
    | nil => rfl
    | cons e es => simp [shedListWalk, h]
  simp [State.admissionRound, hs, hw, ho, hl]

/-! ## What a COMMIT ORDER finds (R37, R175) -/

/-- A COMMIT ORDER finds an order exactly where one is staged, or where a DRIVE RESET that it falls together with has discarded one. -/
theorem orderToCommit_eq_some {s : State} {g : Staging} :
    s.orderToCommit = some g ↔ s.staging = some g ∨ s.staging = none ∧ s.resetCommit = .holds g := by
  unfold State.orderToCommit; split <;> simp_all

/-- What DRIVE RESET leaves to a COMMIT ORDER: the staged order, and only to one that falls together with it. -/
theorem afterReset_eq_holds {s : State} {g : Staging} :
    s.afterReset = .holds g ↔ s.resetCommit = .falls ∧ s.staging = some g := by
  unfold State.afterReset; split <;> simp_all

end Sys2Proof.Machine
end

