-- ==== Sys2Proof/Laws/Tracks.lean ====
section
/-! SUPPORT. Laws/Tracks.lean: what the limits check of a pair of increments answers (R81). -/

namespace Sys2Proof.Machine

variable {s : State} {d : DishId} {az el : Int} {f : LimitFailure}

theorem axisFailure_none {vmax : Nat} {lo hi pos inc : Int} :
    axisFailure vmax lo hi pos inc = none ↔ inc.natAbs ≤ vmax ∧ lo ≤ pos + inc ∧ pos + inc ≤ hi := by
  unfold axisFailure; split
  · simp; omega
  · split <;> simp <;> omega

theorem axisFailure_some {vmax : Nat} {lo hi pos inc : Int} {k : FaultKind} (h : axisFailure vmax lo hi pos inc = some k) :
    match k with
    | .speed => ¬ inc.natAbs ≤ vmax
    | .range => inc.natAbs ≤ vmax ∧ ¬ (lo ≤ pos + inc ∧ pos + inc ≤ hi) := by
  unfold axisFailure at h; split at h
  · cases h; simp; omega
  · split at h
    · cases h; simp; omega
    · cases h

theorem memberFailure_none : s.memberFailure az el d = none ↔ s.PassesCheck az el d := by
  unfold State.memberFailure State.PassesCheck State.SpeedHolds State.RangeHolds
  split
  · next k h => simp only [reduceCtorEq, false_iff]; intro hp; rw [axisFailure_none.2 ⟨hp.1, hp.2.1⟩] at h; cases h
  · next h => simp only [Option.map_eq_none_iff, axisFailure_none, (axisFailure_none.1 h), true_and]

/-- A member's failure names the dish and its first no. -/
theorem memberFailure_some (h : s.memberFailure az el d = some f) : s.FirstNo [d] az el f := by
  unfold State.memberFailure at h
  split at h
  · next k hk =>
    cases h
    refine ⟨⟨[], [], rfl, by simp⟩, ?_⟩
    have := axisFailure_some hk
    cases k <;> simpa [State.SpeedHolds, State.RangeHolds] using this
  · next haz =>
    obtain ⟨k, hk, rfl⟩ := Option.map_eq_some_iff.1 h
    refine ⟨⟨[], [], rfl, by simp⟩, ?_⟩
    have h1 := axisFailure_none.1 haz
    have := axisFailure_some hk
    cases k <;> simpa [State.SpeedHolds, State.RangeHolds, h1] using this

/-- The check passes exactly when every active member passes. -/
theorem limitsCheck_none {g : SlotId} :
    s.limitsCheck g az el = none ↔ ∀ d ∈ (s.group g).activeDishes, s.PassesCheck az el d := by
  simp [State.limitsCheck, List.findSome?_eq_none_iff, memberFailure_none]

/-- A check that fails names the first no, in member order. -/
theorem limitsCheck_some {g : SlotId} (h : s.limitsCheck g az el = some f) :
    s.FirstNo (s.group g).activeDishes az el f := by
  obtain ⟨before, d, behind, hl, hf, hb⟩ := List.findSome?_eq_some_iff.1 h
  have h1 := memberFailure_some hf
  obtain ⟨⟨b, c, hbc, -⟩, hk⟩ := h1
  have hd : d = f.dish := by cases b <;> simp_all
  subst hd
  exact ⟨⟨before, behind, hl, fun e he => memberFailure_none.1 (hb e he)⟩, hk⟩

end Sys2Proof.Machine
end

