-- ==== Sys2Proof/Tests/Slice0.lean ====
section
/-! SUPPORT. Tests/Slice0.lean: tests of single steps with results from the spec's worked cases and tables, the smoke test of
WellFormed, and for each statement with hypotheses a witness that they can be met together. -/

namespace Sys2Proof.Tests

-- The tests' kernel evaluations go one after another, so that they do not wait for each other in a thread each.
set_option Elab.async false

open Sys2Proof.Machine

/-! ## States to test on -/

/-- A dish at rest: IDLE and braked at AZ 0, EL 60000. -/
def resting : Dish :=
  { Dish.reset with motion := .idle, repEl := 60000, cmdEl := 60000, brakesSet := true, lastReport := some 0 }

/-- The array in service: every dish at rest, the census COMPLETE. -/
def ready : State :=
  { State.reset with
    dishes := Vector.replicate 48 resting, locks := { Locks.reset with census := .complete 0 0 } }

/-- The state after a step of the queue, or the state itself where there is no next one. -/
def after (i : Instr) (s : State) : State :=
  match step { s with pending := [i] } with
  | .next t => t
  | .fault _ => s
  | .refused _ => s

/-- The state with the dish's report window open (R20). -/
def awaiting (d : DishId) (s : State) : State := s.setWindow (d.val + 1) (some d)

/-- A member taken into a group. -/
def member (d : DishId) (st : MemberStatus) (acked : Bool) : Member :=
  { order := ⟨d, 0, 60000, .auto⟩, status := st, acked := acked, braked := true
    plan := some ⟨0, 60000, ⟨1200, 18, 2⟩, ⟨0, 0, 0⟩⟩ }

/-- The array with dishes 14 and 15 in a group of slot 0. -/
def grouped (st : GroupState) (a : Action) (m : Motion) (x y : Member) : State :=
  let s := ready.setGroup 0 fun _ =>
    { state := st, tag := 700, action := a, heldFrom := none, t := 36, loadFrame := some 0, startFrame := some 3
      arrivalFrame := some 39, lastResult := .none, members := [x, y] }
  (s.setDish 14 fun d => { d with motion := m, group := some 0 }).setDish 15 fun d =>
    { d with motion := m, group := some 0 }

/-- The array with a group in the state given, both members active. -/
def group2 (st : GroupState) (a : Action) : State :=
  grouped st a .engaged (member 14 .active false) (member 15 .arrived true)

/-- The array with a tracking group and the buffer and coast counter given. -/
def tracking (buffer : List TrackEntry) (coast : Nat) : State :=
  (group2 .tracking .track).setStream 0 fun x => { x with buffer := buffer, coast := coast, lastAz := 120, lastEl := 30 }

/-- An order for dishes 3 and 7. -/
def order3 : Order := ⟨411, .position, 5, [⟨3, 55000, 60000, .auto⟩, ⟨7, 55200, 90000, .auto⟩], 0⟩

/-- The array with a zone of dish 9 powered at 15 pu and another zone of the dish waiting. -/
def powered : State :=
  let s := ready.setZone ⟨9, .subref⟩ fun _ =>
    { state := .powered, remaining := 2400, carry := 0, power := some 15, timer := some 60667, lastCharge := some 667 }
  let s := s.setZone ⟨9, .rim⟩ fun _ => { Zone.reset with state := .waiting, remaining := 5000 }
  { s with
    clock := 1000
    feeder := { s.feeder with powerOrder := [⟨⟨9, .subref⟩, 15⟩] }
    melt := { s.melt with rotation := [⟨9, .subref⟩, ⟨9, .rim⟩] } }

/-- The array with one lock entry on dish 3. -/
def locked (st : LockState) : State :=
  { ready with locks := { ready.locks with entries := ready.locks.entries.set 0 (some ⟨3, .all, 500, 1, st, 0⟩) } }

/-- The array with the stow in the state given. -/
def stowed (st : StowState) : State := { ready with stow := { ready.stow with state := st, holdOff := some 600000 } }

/-! ## Frames and checksums (R177, R181) -/

/-- The nine ASCII characters 1 to 9. -/
def digits : List Byte := [0x31, 0x32, 0x33, 0x34, 0x35, 0x36, 0x37, 0x38, 0x39]

theorem test_crc8_check : crc8 digits = 0xF4 := by decide +kernel
theorem test_crc16_check : crc16 digits = 0x29B1 := by decide +kernel
theorem test_read_dish_frame :
    decodeTransaction .scheduler [0x40, 0x01, 0x07, 0x86] false = some (.readDish .scheduler (.fields ⟨7⟩)) := by
  decide +kernel
theorem test_fetch_frame : decodeTransaction .safety [0x00, 0x00, 0x00] false = some (.fetchResponse .safety) := by
  decide +kernel
theorem test_frame_bad_crc :
    decodeTransaction .scheduler [0x40, 0x01, 0x07, 0x87] false = some (.badFrame .scheduler (some 0x40)) := by
  decide +kernel
theorem test_no_table_word : decodeTableWord 8 0 = none := rfl

/-! ## Ill-formed steps are refused (R176 to R178) -/

theorem test_ill_report : (Instr.validReport 0 ⟨2147483648, 0, false, false, false, false, false, 0⟩).wellFormed = false := by
  decide
theorem test_ill_expiry_tag : (Instr.orderExpiry 0).wellFormed = false := by decide
theorem test_ill_unknown_code : (Instr.unknownRequest .safety 0x10).wellFormed = false := by decide
theorem test_ill_bad_frame : (Instr.badFrame .safety (some 0x00)).wellFormed = false := by decide
theorem test_ill_open_order : (Instr.openOrder .scheduler (.fields ⟨65536, 0, 0⟩)).wellFormed = false := by decide
theorem test_ill_add_members : (Instr.addMembers .scheduler (.fields ⟨[]⟩)).wellFormed = false := by decide
theorem test_ill_member_record :
    (Instr.addMembers .scheduler (.fields ⟨[⟨0, 16777216, 0, 0⟩]⟩)).wellFormed = false := by decide
theorem test_ill_count : (Instr.commitOrder .scheduler (.fields ⟨256⟩)).wellFormed = false := by decide
theorem test_ill_tag : (Instr.cancelOrder .scheduler (.fields ⟨65536⟩)).wellFormed = false := by decide
theorem test_ill_slot : (Instr.holdGroup .scheduler (.fields ⟨256⟩)).wellFormed = false := by decide
theorem test_ill_entries :
    (Instr.pushTrack .scheduler (.fields ⟨0, 1, [⟨32768, 0, 0⟩]⟩)).wellFormed = false := by decide
theorem test_ill_entry_count :
    (Instr.pushTrack .scheduler (.fields ⟨0, 17, List.replicate 17 ⟨0, 0, 0⟩⟩)).wellFormed = false := by decide
theorem test_ill_wind : (Instr.windSample .safety (.fields ⟨0, 65536, 0⟩)).wellFormed = false := by decide
theorem test_ill_value : (Instr.setAllowance .safety (.fields ⟨65536⟩)).wellFormed = false := by decide
theorem test_ill_melt : (Instr.meltOrder .safety (.fields ⟨0, 1, 16777216, 0⟩)).wellFormed = false := by decide
theorem test_ill_cancel_melt : (Instr.cancelMelt .safety (.fields ⟨256, 1⟩)).wellFormed = false := by decide
theorem test_ill_dish : (Instr.readDish .safety (.fields ⟨256⟩)).wellFormed = false := by decide
theorem test_ill_dish_item : (Instr.writeConfigDish .safety (.fields
    ⟨0, none, some 65536, none, none, none, none, none, none, none, none, none, none⟩)).wellFormed = false := by decide
theorem test_ill_wind_item :
    (Instr.writeConfigWind .safety (.fields ⟨none, none, none, some 256, none, none⟩)).wellFormed = false := by decide
theorem test_ill_track_item : (Instr.writeConfigTrack .safety (.fields ⟨some 256, none⟩)).wellFormed = false := by decide
theorem test_ill_melt_item :
    (Instr.writeConfigMelt .safety (.fields ⟨none, none, none, some 65536⟩)).wellFormed = false := by decide
theorem test_ill_station_item : (Instr.writeConfigStation .safety
    (.fields ⟨#v[some 256, none, none, none], #v[none, none, none, none]⟩)).wellFormed = false := by decide
theorem test_ill_section : (Instr.readConfig .safety (.fields ⟨256, 0⟩)).wellFormed = false := by decide
theorem test_ill_place : (Instr.placeLock (.station 0) (.fields ⟨0, 0, 16777216⟩)).wellFormed = false := by decide
theorem test_ill_release : (Instr.releaseLock (.station 0) (.fields ⟨0, 16777216⟩)).wellFormed = false := by decide

/-! ## Profiles (sections 4.8, 4.10 and 4.11) -/

/-- A dish at default configuration as the calculator reads it. -/
def input (az el : Int) (ice : Bool) : PlanInput := ⟨az, el, .azDefault, .elDefault, ice⟩

/-- The members of order 411 with their resolved targets (section 4.8). -/
def order411 : List (PlanInput × Targets) :=
  [(input 10000 40000 false, ⟨55000, 60000⟩), (input 54000 30000 false, ⟨55200, 90000⟩),
   (input (-100000) 40000 false, ⟨-160000, 40000⟩)]

theorem test_wrap_411 : resolveWrap (-100000) 200000 .auto = -160000 := by decide
theorem test_wrap_tie : resolveWrap 20000 200000 .auto = 200000 := by decide
theorem test_wrap_one_candidate : resolveWrap 250000 300000 .cw = -60000 := by decide
theorem test_wrap_end : resolveWrap (-200000) 90000 .auto = -270000 := by decide
theorem test_times_411 : axisTime 150 4 45000 = ⟨38, 338⟩ ∧ axisTime 75 2 20000 = ⟨38, 305⟩ ∧ axisTime 150 4 1200 = ⟨18, 36⟩ := by
  decide +kernel
theorem test_common_time_411 : commonTime order411 = 838 := by decide +kernel
theorem test_cruise_411 : cruise 45000 838 38 = 57 ∧ cruise 1200 838 18 = 2 ∧ cruise 60000 838 38 = 75 := by decide
theorem test_draw_411 : (order411.map fun m => m.1.groupDraw m.2 .position).sum = 410 := by decide +kernel
theorem test_stow_iced : (input 0 25000 true).move 90000 = ⟨1776, 19, 37, 70⟩ := by decide +kernel
theorem test_stow_short : (input 0 89400 false).move 90000 = ⟨36, 18, 34, 70⟩ := by decide +kernel

/-! ## Single steps -/

theorem test_step_takes_front : (after .frameStart ready).pending = [] := by decide +kernel
theorem test_idle_step : step ready = .next { ready with clock := 1 } := rfl
theorem test_frame_wraps : (after .frameStart { ready with ring := { ready.ring with frame := 0xFFFFFFFF } }).ring.frame = 0 := by
  decide +kernel

/-- Section 5.7, frame 40001: the entry passes, the load falls to 3. -/
theorem test_track_step : (after .frameStart (tracking (List.replicate 4 ⟨120, 30, false⟩) 0)).slot 14 = .trackStep 120 30 := by
  decide +kernel
/-- Section 5.7, frame 40008 with the default coast limit 10: the counter at the limit starves the group. -/
theorem test_track_starves : ((after .frameStart (tracking [] 10)).group 0).state = .trackHalted := by decide +kernel
/-- R4, R28: a step sent advances the commanded positions. -/
theorem test_send_advances : ((after (.commandSend 14) ((ready.putSlot 14 (.trackStep 120 30)).setWindow 14 none)).dish 14).cmdAz = 120 := by
  decide +kernel
/-- R24: a move-locked dish is sent HOLD BRAKE, and a TRACK STEP does not advance it. -/
theorem test_send_locked :
    (after (.commandSend 3) (((locked .applied).putSlot 3 (.trackStep 120 30)).setWindow 3 none)).ring.out
      = some ⟨3, 0, .holdBrake⟩ := by
  decide +kernel
/-- R1: a reported EL below 15000 is stored as 15000. -/
theorem test_report_clamped :
    ((after (.validReport 5 ⟨300000, 14000, false, true, false, false, false, 0⟩) (awaiting 5 ready)).dish 5).repEl = 15000 := by
  decide +kernel
/-- R15: a fault code takes the dish to FAULT. -/
theorem test_report_fault :
    ((after (.validReport 5 ⟨0, 60000, false, true, false, false, false, 3⟩) (awaiting 5 ready)).dish 5).motion = .fault := by
  decide +kernel
theorem test_miss_counts : (after (.miss 3) (awaiting 3 ready)).ring.miss[3] = 1 := by decide +kernel
/-- R20: a frame holds one exchange a dish, so that a second miss of the window counts nothing. -/
theorem test_one_miss_a_frame : (after (.miss 3) (after (.miss 3) (awaiting 3 ready))).ring.miss[3] = 1 := by decide +kernel
/-- R32: the twentieth miss takes the dish OFFLINE. -/
theorem test_loss : ((after (.miss 3)
    (awaiting 3 { ready with ring := { ready.ring with miss := ready.ring.miss.set 3 19 } })).dish 3).motion = .offline := by decide +kernel
/-- Section 8.10, meter at 1.000 s: 333 ms at 15 pu deliver 499 J and carry 5. -/
theorem test_meter : (after .meterTimerExpiry powered).zone ⟨9, .subref⟩
    = { state := .powered, remaining := 1901, carry := 5, power := some 15, timer := some 60667, lastCharge := some 1000 } := by
  decide +kernel
/-- Section 8.10, meter at 5.000 s: 1500 J due of 24 left. -/
theorem test_charge_spent : (Zone.charge { Zone.reset with remaining := 24 } 15 1000).remaining = 0 := by decide
theorem test_seconds_wrap :
    (after .secondsCountTick { ready with locks := { ready.locks with seconds := 0xFFFFFFFF } }).locks.seconds = 0 := by
  decide +kernel
theorem test_link_timeout : (after (.linkTimeout .safety) ready).ports.safetyViolation.linkTimeouts = 1 := by decide +kernel
/-- R159: the abandoned transaction goes on with 0xFF, and the next one is sent the response held, from its code on. -/
theorem test_abandoned_data :
    let s := after (.linkTimeout .safety) (after (.readFeeder .safety (.fields {})) ready)
    s.dataOut .safety false 0 = some 0xFF ∧ s.dataOut .safety true 0 = some 0x27 := by decide +kernel
theorem test_unknown_request : (after (.unknownRequest .safety 0xFF) ready).holder .safety
    = some ⟨0xFF, .unknownRequest, []⟩ := by decide +kernel
theorem test_not_permitted : (after (.stowArray .scheduler (.fields {})) ready).violation .scheduler
    = ⟨some 0x21, none, 1, 0⟩ := by decide +kernel
theorem test_open_order : (after (.openOrder .scheduler (.fields ⟨411, 1, 0⟩)) ready).staging
    = some ⟨411, .track, 0, []⟩ := by decide +kernel
theorem test_add_members_duplicate : (after (.addMembers .scheduler (.fields ⟨[⟨3, 0, 15000, 0⟩, ⟨3, 0, 15000, 0⟩]⟩))
    { ready with staging := some ⟨411, .track, 0, []⟩ }).holder .scheduler = some ⟨0x11, .duplicate, []⟩ := by decide +kernel
theorem test_cancel_not_found : (after (.cancelOrder .scheduler (.fields ⟨411⟩)) ready).holder .scheduler
    = some ⟨0x13, .notFound, []⟩ := by decide +kernel
theorem test_push_full : ((after (.pushTrack .scheduler (.fields ⟨0, 1, [⟨400, -400, 1⟩]⟩))
    (tracking (List.replicate 64 ⟨0, 0, false⟩) 0)).holder .scheduler).map (·.status) = some .full := by decide +kernel
theorem test_wind_level : (after (.windSample .safety (.fields ⟨2, 119, 150⟩)) ready).wind.masts[2].level = some .elevated := by
  decide +kernel
/-- R119, R104: a STOWED dish that faults changes no queue and releases nothing, so that no round admits the queued dish 0. -/
theorem test_stowed_fault_runs_no_round :
    let s := ((stowed .active).setMotion 1 .stowed).putSlot 1 .holdBrake
    let t := after (.validReport 1 ⟨0, 90000, false, true, true, false, false, 5⟩)
      (awaiting 1 { s with stow := { s.stow with queue := [0] } })
    (t.dish 1).motion = .fault ∧ t.mark 1 = .unreachable ∧ t.stow.queue = [0] ∧ (t.dish 0).motion = .idle := by decide +kernel
/-- R143: a POWERED zone at the head of the rotation, its power and slot time behind one presence byte (log 11). -/
theorem test_read_melt_powered_zone :
    powered.zoneField ⟨9, .subref⟩ = [2, 0, 0, 0x09, 0x60, 0, 1, 1, 1, 0, 15, 0, 0, 0xE9, 0x13] := by decide +kernel
theorem test_release_stow_refused : (after (.releaseStow .safety (.fields {})) (stowed .stowedHold)).holder .safety
    = some ⟨0x22, .conditionActive, []⟩ := by decide +kernel
/-- R123: reservations of 0 leave no over-commit at an allowance of 0. -/
theorem test_allowance : (after (.setAllowance .safety (.fields ⟨0⟩)) powered).feeder.powerOrder = [] := by decide +kernel
/-- R129: 10 kJ are 10000 J. -/
theorem test_melt_order : ((after (.meltOrder .safety (.fields ⟨4, 2, 10, 0⟩)) ready).zone ⟨4, .inner⟩).remaining = 10000 := by
  decide +kernel
theorem test_cancel_melt : (after (.cancelMelt .safety (.fields ⟨9, 7⟩)) powered).melt.rotation = [] := by decide +kernel
/-- R8: track draws of 95 and 10 pu exceed the smaller ramp draw of 90 and 70 pu. -/
theorem test_config_constraint : ((after (.writeConfigDish .safety (.fields
    ⟨0, none, none, none, none, some 95, none, none, none, none, none, none, none⟩)) ready).holder .safety).map (·.status)
    = some .badField := by decide +kernel
theorem test_config_track : (after (.writeConfigTrack .safety (.fields ⟨some 3, some 2⟩)) ready).settings.track = ⟨3, 2⟩ := by
  decide +kernel
theorem test_place_lock : (after (.placeLock (.station 2) (.fields ⟨3, 0, 77⟩)) ready).locks.entries[0]
    = some ⟨3, .move, 77, 2, .applied, 0⟩ := by decide +kernel
theorem test_release_lock : (after (.releaseLock (.station 2) (.fields ⟨3, 500⟩)) (locked .applied)).locks.entries[0] = none := by
  decide +kernel
theorem test_census_refused : (after (.censusComplete (.station 1) (.fields {})) ready).holder (.station 1)
    = some ⟨0x33, .wrongState, []⟩ := by decide +kernel
theorem test_take_census : ((after (.takeAttention (.station 0) (.fields {})) State.reset).source .censusRequired).inService = true := by
  decide +kernel
theorem test_mask_refused : (after (.setAttentionMask .safety (.fields ⟨0x10⟩)) ready).holder .safety
    = some ⟨0x43, .badField, []⟩ := by decide +kernel
theorem test_reset_pin : (after .resetPinAsserted ready).resetHeld = true := by decide +kernel
theorem test_power_on : (after .powerOnReset (locked .applied)).locks.entries[0] = none := by decide +kernel

/-! ## Witnesses: the hypotheses of each statement met together -/

theorem lawful_of_unpowered {s : State} (h : s.feeder.powerOrder = []) (hd : s.feeder.d ≤ s.feeder.allowance)
    (hz : ∀ (d : DishId) (k : Fin 3), (s.zone ⟨d, #v[ZoneKind.rim, .inner, .subref][k]⟩).state ≠ .powered) : s.FeederLawful := by
  refine ⟨.inl (by simp [Feeder.h, h]), fun hlt => absurd hd (by omega), fun z => ?_, by simp [h]⟩
  obtain ⟨d, k⟩ := z
  have := hz d
  cases k
  · simpa [h] using this 0
  · simpa [h] using this 1
  · simpa [h] using this 2

theorem ready_lawful : ready.FeederLawful := lawful_of_unpowered rfl (by decide +kernel) (by decide +kernel)
theorem ready_quiet : ready.Quiet := ⟨rfl, rfl, rfl⟩
theorem ready_noContender : ready.NoContender := ⟨rfl, rfl, by decide +kernel⟩
theorem ready_nobody : NobodyAdmitted ready := ⟨by decide, .inl ready_noContender⟩

theorem witness_StepRunsFront : { ready with pending := [.frameStart] }.pending = Instr.frameStart :: [] := rfl
theorem witness_PinHeldNothingActs : { ready with resetHeld := true }.resetHeld = true ∧ Instr.frameStart ≠ .powerOnReset := by
  decide
theorem witness_RequestFrameDecodes : Request.readDish ≠ .fetchResponse ∧ (List.replicate 255 (0 : Byte)).length ≤ 255 := by
  decide +kernel
theorem witness_ReportRecordDecodes :
    let r : Report := ⟨-2147483648, 2147483647, true, true, true, true, true, 15⟩
    r.az < 2147483648 ∧ -2147483648 ≤ r.az ∧ -2147483648 ≤ r.el ∧ r.el < 2147483648 := by decide
theorem witness_DecodedStepsWellFormed :
    decodeTransaction .safety [0x21, 0x00, 0x00] false = some (.badFrame .safety (some 0x21)) := by decide +kernel
/-- The pin is released and every sender is heard. -/
theorem witness_Hears : ready.resetHeld = false ∧ ready.hears .scheduler = true ∧ ready.hears .safety = true
    ∧ ready.hears (.station 0) = true ∧ ready.hears (.station 3) = true := by decide +kernel
theorem witness_FrameStartCounts : ready.resetHeld = false := rfl

/-- The premises that ExitEntryConsumed and EmptyStreamCoastsStarvesOrFinishes have in common: slot 0 alone has a group in the state
given, in a quiet state. -/
def OnlyStreaming (st : GroupState) (s : State) : Prop :=
  s.resetHeld = false ∧ s.Quiet ∧ (s.group 0).state = st
    ∧ ∀ k, k ≠ (0 : SlotId) → (s.group k).state ≠ .tracking ∧ (s.group k).state ≠ .trackHalted

theorem onlyStreaming_tracking (b : List TrackEntry) (n : Nat) : OnlyStreaming .tracking (tracking b n) :=
  have h : ∀ k, k ≠ (0 : SlotId) →
      ((group2 .tracking .track).group k).state ≠ .tracking ∧ ((group2 .tracking .track).group k).state ≠ .trackHalted := by
    decide +kernel
  ⟨rfl, ⟨rfl, rfl, rfl⟩, rfl, h⟩
/-- An entry that passes at the step limit of AZ, at a fall to the low mark. -/
theorem witness_ExitEntryConsumed :
    let s := tracking (List.replicate 17 ⟨150, 30, true⟩) 0
    OnlyStreaming .tracking s ∧ (s.stream 0).finish = false ∧ (s.stream 0).lock = none
      ∧ (s.stream 0).buffer = ⟨150, 30, true⟩ :: List.replicate 16 ⟨150, 30, true⟩ ∧ s.settings.track.lowMark = 16
      ∧ (s.stream 0).lowReported = false ∧ ∀ d ∈ (s.group 0).activeDishes, s.PassesCheck 150 30 d := by
  refine ⟨onlyStreaming_tracking _ _, rfl, rfl, rfl, rfl, rfl, ?_⟩
  simp only [State.PassesCheck, State.SpeedHolds, State.RangeHolds]; decide +kernel
/-- An entry that is first failed by the second member, on EL and for its range. -/
theorem witness_ExitEntryConsumed_fails :
    let s := (tracking [⟨0, 41, false⟩] 0).setDish 15 fun x => { x with cmdEl := 89960 }
    (s.stream 0).buffer = ⟨0, 41, false⟩ :: [] ∧ (s.stream 0).lock = none ∧ (s.group 0).state = .tracking
      ∧ s.FirstNo (s.group 0).activeDishes 0 41 ⟨15, .el, .range⟩ := by
  refine ⟨rfl, rfl, rfl, ⟨[14], [], rfl, ?_⟩, ?_⟩
  · simp only [State.PassesCheck, State.SpeedHolds, State.RangeHolds]; decide +kernel
  · simp only [State.SpeedHolds, State.RangeHolds]; decide +kernel
/-- A lock already set. -/
theorem witness_ExitEntryConsumed_locked :
    let s := (tracking [⟨151, 0, false⟩] 0).setStream 0 fun x => { x with lock := some ⟨⟨14, .az, .speed⟩, 151, 0⟩ }
    (s.group 0).state = .tracking ∧ (s.stream 0).finish = false ∧ (s.stream 0).lock = some ⟨⟨14, .az, .speed⟩, 151, 0⟩
      ∧ ((after .frameStart s).group 0).state = .trackHalted := by decide +kernel
/-- A stream that coasts, one at its coast limit, and one whose repeated step fails. -/
theorem witness_EmptyStreamCoasts :
    let s := tracking [] 9
    let u := (tracking [] 9).setStream 0 fun x => { x with lastAz := 151 }
    OnlyStreaming .tracking s ∧ (s.stream 0).buffer = [] ∧ (s.stream 0).lock = none
      ∧ (s.stream 0).coast < s.settings.track.coastLimit ∧ (∀ d ∈ (s.group 0).activeDishes, s.PassesCheck 120 30 d)
      ∧ ¬ ((tracking [] 10).stream 0).coast < (tracking [] 10).settings.track.coastLimit
      ∧ u.FirstNo (u.group 0).activeDishes 151 30 ⟨14, .az, .speed⟩ := by
  refine ⟨onlyStreaming_tracking _ _, rfl, rfl, by decide, ?_, by decide, ⟨[], [15], rfl, by simp⟩, ?_⟩
  · simp only [State.PassesCheck, State.SpeedHolds, State.RangeHolds]; decide +kernel
  · simp only [State.SpeedHolds]; decide +kernel
/-- A stream whose finish mark is set, while nobody is admitted, with the over-commit mark that its release clears. -/
theorem witness_EmptyStreamFinishes :
    let s := (tracking [] 0).setStream 0 fun x => { x with finish := true }
    let u := { s with feeder := { s.feeder with
      overCommit := some .allowance, allowance := 0, reservations := s.feeder.reservations.set 14 (some ⟨30, .group⟩) } }
    OnlyStreaming .tracking s ∧ NobodyAdmitted s ∧ (s.stream 0).finish = true ∧ u.feeder.d = 30
      ∧ (after .frameStart u).feeder.overCommit = none :=
  ⟨⟨rfl, ⟨rfl, rfl, rfl⟩, rfl, fun k => by revert k; decide +kernel⟩,
    ⟨by decide, .inl ⟨rfl, rfl, fun g => by revert g; decide +kernel⟩⟩, rfl, by decide +kernel, by decide +kernel⟩
/-- A TRACK_HALTED stream, starved and not. -/
theorem witness_EmptyStreamHalted :
    let s := group2 .trackHalted .track
    let u := s.setStream 0 fun x => { x with starved := true }
    OnlyStreaming .trackHalted s ∧ (s.stream 0).starved = false ∧ (u.stream 0).starved = true
      ∧ (after .frameStart u).slot 14 = .trackStep 0 0 :=
  ⟨⟨rfl, ⟨rfl, rfl, rfl⟩, rfl, by decide +kernel⟩, rfl, rfl, by decide +kernel⟩
/-- The dish whose exchange is next, at both ends of the order, and a window that is open. -/
theorem witness_SendTakesTheSlot :
    let s := ready.setWindow 47 none
    ready.resetHeld = false ∧ ready.ring.window = none ∧ ready.exchanges 0 = true ∧ ready.ring.place ≤ (0 : DishId).val
      ∧ s.exchanges 47 = true ∧ s.ring.place ≤ (47 : DishId).val ∧ (∀ e : DishId, e < 47 → e.val < s.ring.place)
      ∧ (awaiting 47 ready).ring.window ≠ none := by decide +kernel
theorem witness_LockedDishHearsStopOrHold : (locked .applied).moveLocked 3 = true ∧ (locked .applied).ring.out = none
    ∧ (after (.commandSend 3) ((locked .applied).setWindow 3 none)).ring.out = some ⟨3, 0, .holdBrake⟩ := by decide +kernel
/-- A window that stands open, and one that has closed. -/
theorem witness_ReportStored : ReportAwaited 0 (awaiting 0 ready) ∧ ReportAwaited 47 (awaiting 47 ready) ∧ ¬ ReportAwaited 0 ready := by
  unfold ReportAwaited; decide +kernel
theorem witness_ReportsStopOrReturn : ReportAwaited 0 (awaiting 0 State.reset) ∧ (State.reset.dish 0).motion = .unknown
    ∧ (State.reset.dish 0).group = none ∧ State.reset.censusDone = false ∧ State.reset.stow.state = .clear
    ∧ State.reset.mark 0 = .none := by unfold ReportAwaited; decide +kernel
/-- A dish in each of the motion states of which a report with code 0 decides: at rest, and moving. -/
theorem witness_ReportsStopOrReturn_states :
    let at_ := fun m : Motion => (awaiting 47 ready).setMotion 47 m
    let report := fun moving => Report.mk 0 60000 moving (!moving) false false false 0
    (∀ m ∈ [Motion.idle, .stopping, .stowed, .fault, .offline], ReportAwaited 47 (at_ m) ∧ ((at_ m).dish 47).group = none
        ∧ ((at_ m).dish 47).motion = m ∧ (at_ m).mark 47 = .none ∧ (at_ m).appliedHeat 47 = 0)
      ∧ ((after (.validReport 47 (report true)) (at_ .stowed)).slot 47 = .stop)
      ∧ ((after (.validReport 47 (report false)) ((at_ .stowed).putSlot 47 .stop)).slot 47 = .holdBrake)
      ∧ ((after (.validReport 47 (report false)) (at_ .offline)).dish 47).motion = .idle := by
  unfold ReportAwaited; decide +kernel
/-- A braked group's member at rest, and one that stops in a holding group. -/
theorem witness_ReportsStopOrReturn_members :
    let s := awaiting 14 (group2 .held .track)
    let u := (awaiting 14 (group2 .holding .track)).setMotion 14 .stopping
    ReportAwaited 14 s ∧ (s.dish 14).group = some 0 ∧ 14 ∈ (s.group 0).activeDishes ∧ (s.group 0).state = .held
      ∧ (s.dish 14).motion = .engaged ∧ (s.dish 14).switchLock = false
      ∧ ReportAwaited 14 u ∧ (u.dish 14).motion = .stopping ∧ (u.group 0).state = .holding ∧ u.lockRequested 14 = false
      ∧ u.mark 14 = .none := by unfold ReportAwaited; decide +kernel
/-- An UNREACHABLE dish that a report makes STOPPING in STOWED_HOLD, IDLE in ACTIVE, where it is taken at once, and IDLE in CALM_WAIT,
where its mark stays. -/
theorem witness_ReportsStopOrReturn_rejoins :
    let lost := fun st => (awaiting 47 (stowed st)).setMark 47 .unreachable
    let report := fun moving => Report.mk 0 60000 moving (!moving) false false false 0
    let u := after (.validReport 47 (report true)) ((lost .stowedHold).setMotion 47 .unknown)
    ReportAwaited 47 (lost .stowedHold) ∧ (lost .stowedHold).queued 47 = false ∧ (lost .stowedHold).lockRequested 47 = false
      ∧ u.stow.queue = [47] ∧ u.stow.state = .active ∧ u.mark 47 = .none
      ∧ ((after (.validReport 47 (report false)) ((lost .active).setMotion 47 .fault)).dish 47).motion = .stowing
      ∧ (after (.validReport 47 (report false)) ((lost .calmWait).setMotion 47 .stopping)).mark 47 = .unreachable := by
  unfold ReportAwaited; decide +kernel
theorem witness_FaultLockAndSwitchReports :
    let s := awaiting 3 (locked .pending)
    ReportAwaited 5 (awaiting 5 ready) ∧ (1 : Fin 16) ≠ 0
      ∧ ReportAwaited 3 s ∧ s.lockRequested 3 = true ∧ s.queued 3 = false ∧ (s.dish 3).motion = .idle
      ∧ (s.dish 3).switchLock = false ∧ s.mark 3 = .none := by unfold ReportAwaited; decide +kernel
/-- A switch newly set on a member and on a STOWING dish, and one newly clear. -/
theorem witness_FaultLockAndSwitchReports_switch :
    let s := awaiting 14 (group2 .slewing .track)
    let u := awaiting 0 ((stowed .active).setMotion 0 .stowing)
    let v := awaiting 0 (ready.setDish 0 fun x => { x with switchLock := true })
    ReportAwaited 14 s ∧ (s.dish 14).group = some 0 ∧ (s.dish 14).motion = .engaged ∧ s.orders = []
      ∧ ReportAwaited 0 u ∧ (u.dish 0).group = none ∧ (u.dish 0).motion = .stowing ∧ (u.dish 0).switchLock = false
      ∧ ReportAwaited 0 v ∧ (v.dish 0).switchLock = true ∧ v.lockRequested 0 = false ∧ v.appliedMove 0 = 0
      ∧ v.appliedHeat 0 = 0 ∧ v.stowInForce = false := by unfold ReportAwaited; decide +kernel
/-- A BLOCKED dish whose switch lock, its only lock, goes off in ACTIVE. -/
theorem witness_FaultLockAndSwitchReports_blocked :
    let s := awaiting 0 (((stowed .active).setMark 0 .blocked).setDish 0 fun x => { x with switchLock := true })
    ReportAwaited 0 s ∧ (s.dish 0).motion = .idle ∧ (s.dish 0).group = none ∧ s.appliedMove 0 = 0 ∧ s.queued 0 = false
      ∧ s.mark 0 = .blocked ∧ ((after (.validReport 0 ⟨0, 60000, false, true, false, false, false, 0⟩) s).dish 0).motion
        = .stowing := by unfold ReportAwaited; decide +kernel
theorem witness_MissCounts :
    let s := awaiting 0 { ready with ring := { ready.ring with miss := ready.ring.miss.set 0 18 } }
    ReportAwaited 0 s ∧ s.ring.miss[(0 : DishId)] < 19 ∧ ReportAwaited 0 (s.setMotion 0 .offline)
      ∧ ((s.setMotion 0 .offline).dish 0).motion = .offline ∧ ¬ ReportAwaited 1 s := by unfold ReportAwaited; decide +kernel
theorem witness_LossTakesOffline :
    let s := awaiting 0 { ready with ring := { ready.ring with miss := (ready.ring.miss.set 0 19).set 1 20 } }
    ReportAwaited 0 s ∧ (s.dish 0).motion ≠ .offline ∧ 19 ≤ s.ring.miss[(0 : DishId)] ∧ (s.cfg 1).present = true
      ∧ (s.dish 1).motion ≠ .offline ∧ s.ring.miss[(1 : DishId)] = 20 := by unfold ReportAwaited; decide +kernel
theorem witness_LoadLimitExcludes :
    let s := { group2 .loading .position with ring := { ready.ring with frame := 10 } }
    s.resetHeld = false ∧ (s.group 0).state = .loading ∧ (s.group 0).loadFrame = some 0 ∧ (0 : Frame) + 10 = s.ring.frame
      ∧ ((s.group 0).members.map (·.order.dish)).Nodup ∧ (∃ m ∈ (s.group 0).active, m.acked = false)
      ∧ (∃ m ∈ (s.group 0).active, m.acked = true ∧ s.moveLocked m.order.dish = false) ∧ s.stow.state ≠ .active := by
  decide +kernel
theorem witness_LoadLimitExcludes_quiet : { group2 .loading .position with ring := { ready.ring with frame := 10 } }.NoContender :=
  ⟨rfl, rfl, by decide +kernel⟩
/-- The last acknowledgement that a loading group waits for. -/
theorem witness_LoadingGroupStarts :
    let s := awaiting 14 (group2 .loading .position)
    s.Quiet ∧ ReportAwaited 14 s ∧ (s.dish 14).switchLock = false ∧ (s.dish 14).motion = .engaged ∧ (s.dish 14).group = some 0
      ∧ s.lockRequested 14 = false ∧ (∀ m ∈ (s.group 0).active, m.order.dish = 14 ∨ m.acked = true) :=
  ⟨⟨rfl, rfl, rfl⟩, by unfold ReportAwaited; decide +kernel⟩
theorem witness_ArrivalGraceExcludes :
    let s := { group2 .slewing .track with ring := { ready.ring with frame := 79 } }
    s.resetHeld = false ∧ (s.group 0).state = .slewing ∧ (s.group 0).arrivalFrame = some 39 ∧ (39 : Frame) + 40 = s.ring.frame
      ∧ ((s.group 0).members.map (·.order.dish)).Nodup ∧ (∃ m ∈ (s.group 0).members, m.status = .active)
      ∧ (∃ m ∈ (s.group 0).members, m.status = .arrived) := by decide +kernel
/-- The last arrival that a slewing group waits for, at its start frame. -/
theorem witness_SlewingGroupArrives :
    let s := awaiting 14 ({ group2 .slewing .position with ring := { ready.ring with frame := 3 } })
    ReportAwaited 14 s ∧ (s.group 0).state = .slewing ∧ (s.dish 14).switchLock = false ∧ (s.dish 14).motion = .engaged
      ∧ (s.dish 14).group = some 0 ∧ s.lockRequested 14 = false ∧ (s.group 0).startFrame = some 3
      ∧ (s.ring.frame - 3).toNat < 2147483648
      ∧ (∀ m ∈ (s.group 0).members, m.order.dish = 14 ∨ m.status ≠ .active) ∧ (s.group 0).action = .position := by
  unfold ReportAwaited; decide +kernel
theorem witness_SlewingGroupArrives_nobody :
    NobodyAdmitted (awaiting 14 { group2 .slewing .position with ring := { ready.ring with frame := 3 } }) :=
  ⟨by decide +kernel, .inl ⟨rfl, rfl, by decide +kernel⟩⟩
theorem witness_OrderExpires :
    let s := { ready with orders := [{ order3 with tag := 1, deadline := 0 }, order3], ring := { ready.ring with frame := 5 } }
    s.resetHeld = false ∧ order3 ∈ s.orders ∧ order3.deadline ≠ 0
      ∧ order3.commitFrame + BitVec.ofNat 32 order3.deadline = s.ring.frame
      ∧ (∀ x ∈ s.orders.head?, x.tag ≠ order3.tag) ∧ ∀ o ∈ s.orders, o.tag ≠ 2 := by decide +kernel
theorem witness_MoveTimeouts :
    let s := (ready.setMotion 0 .stowing).setMove 0 (some ⟨36, none, 0⟩)
    let u := (ready.setMotion 0 .shedding).setShedMove 0 (some ⟨36, none, false, 0⟩)
    s.resetHeld = false ∧ (s.dish 0).motion = .stowing ∧ s.stow.moves[(0 : DishId)] = some ⟨36, none, 0⟩
      ∧ s.ring.frame = 0 ∧ (u.dish 0).motion = .shedding ∧ u.melt.shedMoves[(0 : DishId)] = some ⟨36, none, false, 0⟩
      ∧ u.shedListed 0 = false ∧ u.stow.moves[(0 : DishId)] = none := by decide +kernel
/-- Stow and shed moves before their GO, at their start, and settled. -/
theorem witness_StowAndShedMovesRun :
    let s := fun m => awaiting 0 (((stowed .active).setMotion 0 .stowing).setMove 0 (some m))
    let u := fun m => awaiting 0 ((ready.setMotion 0 .shedding).setShedMove 0 (some m))
    ReportAwaited 0 (s ⟨36, none, 10⟩) ∧ (s ⟨36, none, 10⟩).stow.moves[(0 : DishId)] = some ⟨36, none, 10⟩
      ∧ ((s ⟨36, none, 10⟩).dish 0).motion = .stowing ∧ ((s ⟨36, none, 10⟩).dish 0).group = none
      ∧ (s ⟨36, some 0, 76⟩).stow.moves[(0 : DishId)] = some ⟨36, some 0, 76⟩ ∧ (s ⟨36, some 0, 76⟩).stow.queue = []
      ∧ ((s ⟨36, some 0, 76⟩).ring.frame - 0).toNat < 2147483648
      ∧ ReportAwaited 0 (u ⟨36, some 0, true, 76⟩) ∧ ((u ⟨36, some 0, true, 76⟩).dish 0).motion = .shedding
      ∧ (u ⟨36, some 0, true, 76⟩).lockRequested 0 = false ∧ (u ⟨36, some 0, true, 76⟩).mark 0 = .none := by
  unfold ReportAwaited; decide +kernel
theorem witness_StowAndShedMovesRun_quiet :
    (awaiting 0 (((stowed .active).setMotion 0 .stowing).setMove 0 (some ⟨36, none, 10⟩))).Quiet
      ∧ NobodyAdmitted (awaiting 0 ((ready.setMotion 0 .shedding).setShedMove 0 (some ⟨36, some 0, true, 76⟩))) :=
  ⟨⟨rfl, rfl, rfl⟩, by decide +kernel, .inl ⟨rfl, rfl, by decide +kernel⟩⟩
/-- The array with order 411 at the head of its queue. -/
def headed : State := { ready with orders := [order3] }
theorem witness_RoundAdmitsInRank : headed.resetHeld = false ∧ headed.censusDone = true ∧ headed.stowInForce = false
    ∧ headed.orders = [order3] ∧ headed.melt.shedList = [] ∧ (∀ k, (headed.group k).state ≠ .resumeWait)
    ∧ (headed.group 0).state = .free ∧ order3.members ≠ [] ∧ (order3.members.map (·.dish)).Nodup
    ∧ (∀ m ∈ order3.members, headed.moveLocked m.dish = false ∧ headed.lockRequested m.dish = false
      ∧ headed.melt.ice[m.dish] = false ∧ (headed.dish m.dish).motion = .idle ∧ (headed.dish m.dish).group = none)
    ∧ 0 < commonTime (order3.members.map fun m => (headed.planInput m.dish, headed.memberTargets m))
    ∧ headed.feeder.d + (order3.members.map fun m => (headed.planInput m.dish).groupDraw (headed.memberTargets m) .position).sum
        + min headed.feeder.h headed.feeder.guard ≤ headed.feeder.allowance := by decide +kernel
/-- The order with dish 3 iced, with both its dishes iced, with one of them to be waited for, without the power it needs, and with its
one member at its target already: excluded, refused, waiting, waiting, and at once in its on-arrival state. -/
theorem witness_RoundAdmitsInRank_order :
    let ice := fun (s : State) (d : DishId) => { s with melt := { s.melt with ice := s.melt.ice.set d true } }
    let weak := { headed with feeder := { headed.feeder with allowance := 0 } }
    let there := { headed with orders := [{ order3 with members := [⟨3, 0, 60000, .auto⟩] }] }
    (((after .admissionRound (ice headed 3)).group 0).members.map (·.status) = [.excluded .iced 0, .active])
      ∧ (after .admissionRound (ice (ice headed 3) 7)).orders = []
      ∧ ((after .admissionRound (ice (ice headed 3) 7)).group 0).state = .free
      ∧ (after .admissionRound (headed.setMotion 7 .stopping)).orders = [order3]
      ∧ (after .admissionRound weak).orders = [order3]
      ∧ commonTime [(there.planInput 3, ⟨0, 60000⟩)] = 0 ∧ ((after .admissionRound there).group 0).state = .positioned := by
  decide +kernel
theorem headed_quiet : headed.Quiet := ⟨rfl, rfl, rfl⟩
/-- Dish 0 at the head of the Stow Queue, and the allowance that its move leaves it or does not. -/
def stowHead (allowance : Nat) : State :=
  { stowed .active with
    stow := { (stowed .active).stow with queue := [0] }, feeder := { ready.feeder with allowance := allowance } }
theorem witness_RoundAdmitsInRank_stow :
    (stowHead 70).stow.queue = 0 :: [] ∧ ((stowHead 70).dish 0).motion = .idle ∧ ((stowHead 70).dish 0).repEl = 60000
      ∧ ((stowHead 70).planInput 0).move 90000 = ⟨438, 38, 75, 70⟩ ∧ (stowHead 70).feeder.d + 70 ≤ (stowHead 70).feeder.allowance
      ∧ (stowHead 70).moveLocked 0 = false ∧ (stowHead 69).feeder.allowance < (stowHead 69).feeder.d + 70
      ∧ (stowHead 69).someStowing = false ∧ ((stowHead 69).setMotion 1 .stowing).someStowing = true
      ∧ (stowHead 69).feeder.reservations[(0 : DishId)] = none := by decide +kernel
/-- A group held from SLEWING that may be resumed. -/
def heldSlewing : State := (group2 .resumeWait .position).setGroup 0 fun g => { g with heldFrom := some .slewing }
theorem witness_RoundAdmitsInRank_resume :
    let target := fun m : Member => (m.plan.map fun p => Targets.mk p.az p.el).getD ⟨0, 0⟩
    let s := heldSlewing.setDish 14 fun x => { x with repAz := 1200 }
    s.censusDone = true ∧ s.stowInForce = false ∧ s.orders = [] ∧ s.melt.shedList = []
      ∧ (s.group 0).heldFrom = some .slewing ∧ ((s.group 0).activeDishes).Nodup
      ∧ (∀ m ∈ (s.group 0).active, (s.dish m.order.dish).motion = .engaged ∧ m.braked = true ∧ m.plan ≠ none
        ∧ s.moveLocked m.order.dish = false)
      ∧ 0 < commonTime ((s.group 0).active.map fun m => (s.planInput m.order.dish, target m))
      ∧ s.feeder.groupFits ((s.group 0).active.map fun m => (s.planInput m.order.dish).groupDraw (target m) .position).sum
        = true := by decide +kernel
theorem witness_RoundAdmitsInRank_shed :
    (ready.listShed 0).melt.shedList = ⟨0, 0⟩ :: [] ∧ (ready.listShed 0).shedUnfit 0 = false
      ∧ ((ready.listShed 0).planInput 0).move 25000 ≠ ⟨0, 0, 0, 0⟩ ∧ (ready.listShed 0).feeder.groupFits 70 = true
      ∧ ((ready.listShed 0).setMotion 0 .stopping).shedUnfit 0 = true
      ∧ ((after .admissionRound ((headed.setMotion 7 .stopping).listShed 0)).dish 0).motion = .shedding := by decide +kernel
/-- One WAITING zone behind a POWERED one: powered where it fits with nothing to spare, and left where it does not by 1 pu. -/
theorem witness_ScanPowersInRotation :
    let at_ := fun n => { powered with feeder := { powered.feeder with allowance := n } }
    powered.resetHeld = false ∧ powered.melt.rotation.Nodup
      ∧ (powered.melt.rotation.filter fun z => decide ((powered.zone z).state = .waiting)) = [⟨9, .rim⟩]
      ∧ (after .poweringScan (at_ 135)).feeder.powerOrder = [⟨⟨9, .subref⟩, 15⟩, ⟨⟨9, .rim⟩, 120⟩]
      ∧ (after .poweringScan (at_ 134)).feeder.powerOrder = [⟨⟨9, .subref⟩, 15⟩] := by decide +kernel
theorem witness_ProfilesWithinLimits : (axisTime 400 1 540000).tMin ≤ 540001 ∧ (axisTime 1 1 540000).tMin ≤ 540001
    ∧ (1 ≤ 400 ∧ 400 * ((400 + 1 - 1) / 1) ≤ 540000) ∧ 1199 < 150 * ((150 + 4 - 1) / 4) := by decide +kernel
theorem witness_WrapResolved : (359999 : Nat) ≤ 359999 ∧ (90000 : Nat) ≤ 90000 ∧ (90000 : Nat) ≤ 270000 := by decide
theorem witness_MastFallsStale : ready.resetHeld = false ∧ ready.settings.mastConfigured[(5 : MastId)] = true
    ∧ ready.wind.masts[(5 : MastId)].state ≠ .stale ∧ ready.wind.masts[(5 : MastId)].timer = some 10000
    ∧ ready.settings.wind.staleTrip ≤ (after (.mastStalenessExpiry 5) ready).staleCount := by decide +kernel
theorem witness_StowEndsFromCalmWait : (stowed .calmWait).resetHeld = false ∧ (stowed .calmWait).stow.holdOff ≠ none
    ∧ (stowed .calmWait).stow.state = .calmWait ∧ (stowed .calmWait).hears .safety = true
    ∧ { stowed .calmWait with locks := .reset }.censusDone = false ∧ (stowed .stowedHold).stow.state = .stowedHold
    ∧ ready.stow.state ≠ .calmWait := by decide +kernel
theorem witness_MeltSlotExpires : powered.resetHeld = false ∧ (powered.zone ⟨9, .subref⟩).state = .powered
    ∧ (powered.zone ⟨9, .subref⟩).timer = some 60667 ∧ (powered.zone ⟨9, .subref⟩).power = some 15
    ∧ (powered.zone ⟨9, .subref⟩).lastCharge = some 667 ∧ (powered.zone ⟨9, .rim⟩).state = .waiting
    ∧ powered.stow.state ≠ .active ∧ (∀ w ∈ [(⟨9, .subref⟩ : ZoneId)], w ≠ ⟨9, .subref⟩ → (powered.zone w).state ≠ .waiting) := by
  decide +kernel
/-- A slot expiry of a zone with energy for its whole slot, and another zone that waits. -/
theorem witness_MeltSlotExpires_charged :
    let s := powered.setZone ⟨9, .subref⟩ fun x => { x with remaining := 1000000 }
    (15 * (60667 - 667) + 0) / 10 < (s.zone ⟨9, .subref⟩).remaining ∧ (⟨9, .subref⟩ : ZoneId) ∈ s.melt.rotation := by
  decide +kernel
/-- A slot expiry that finds the zone spent. -/
theorem witness_MeltSlotExpires_spent : (powered.zone ⟨9, .subref⟩).remaining ≤ (15 * (60667 - 667) + 0) / 10
    ∧ (⟨9, .rim⟩ : ZoneId) ∈ powered.melt.rotation ∧ (⟨9, .rim⟩ : ZoneId) ≠ ⟨9, .subref⟩ := by decide +kernel
theorem powered_noContender : powered.NoContender := ⟨rfl, rfl, by decide +kernel⟩
theorem witness_MeterAndSecondsRun : powered.resetHeld = false
    ∧ (15 * (1000 - 667) + 0) / 10 < (powered.zone ⟨9, .subref⟩).remaining
    ∧ ((powered.setZone ⟨9, .subref⟩ fun x => { x with remaining := 499 }).zone ⟨9, .subref⟩).remaining
        ≤ (15 * (1000 - 667) + 0) / 10 := by decide +kernel
/-- A station that cannot be addressed, one that a write has disabled while it could be, and the ports heard. -/
theorem witness_PortEventsCounted :
    let off := after (.writeConfigStation .safety (.fields
      ⟨Vector.replicate 4 none, (Vector.replicate 4 none).set 1 (some false)⟩)) ready
    (off.settings.station[(1 : StationId)]).enabled = false ∧ off.hears (.station 1) = true
      ∧ (after (.fetchResponse (.station 0)) off).hears (.station 1) = false ∧ off.hears .scheduler = true := by
  decide +kernel
theorem witness_PermissionsFollowTheTable :
    (Instr.stowArray .scheduler (.fields {})).request = some (.scheduler, .stowArray) ∧ permitted .scheduler .stowArray = false
    ∧ (Instr.stowArray .safety .wrongLength).request = some (.safety, .stowArray) ∧ permitted .safety .stowArray = true := by
  decide
/-- A request of two slots, and a write of a section that is not there. -/
theorem witness_PermissionsFollowTheTable_length :
    lengthAllowed .holdGroup [0, 1] = false ∧ lengthAllowed .writeConfig [6] = false
      ∧ permitted .scheduler .holdGroup = true ∧ permitted .safety .writeConfig = true ∧ ready.hears .scheduler = true
      ∧ (after (decodeRequest .scheduler .holdGroup [0, 1]) ready).holder .scheduler = some ⟨0x14, .badField, []⟩ := by
  decide +kernel
theorem witness_OpenOrderStages : (1 ≤ 65535 ∧ 65535 ≤ 65535) ∧ ¬ (1 ≤ 0 ∧ 0 ≤ 65535) := by decide
/-- The array with a staged order for dish 3. -/
def staged : State := { ready with staging := some ⟨411, .position, 5, [⟨3, 55000, 60000, .auto⟩]⟩ }
theorem witness_AddMembersJudged : ready.staging = none ∧ staged.staging ≠ none
    ∧ (after (.addMembers .scheduler (.fields ⟨[⟨7, 359999, 15000, 2⟩]⟩)) staged).holder .scheduler = some ⟨0x11, .ok, [2]⟩ := by
  decide +kernel
theorem witness_CommitOrderQueues : ready.staging = none
    ∧ ((after (.commitOrder .scheduler (.fields ⟨1⟩)) staged).holder .scheduler).map (·.status) = some .ok
    ∧ ((after (.commitOrder .scheduler (.fields ⟨1⟩)) { staged with orders := [order3] }).holder .scheduler).map (·.status)
        = some .duplicate
    ∧ ((after (.commitOrder .scheduler (.fields ⟨1⟩))
        { staged with orders := List.replicate 16 { order3 with tag := 9 } }).holder .scheduler).map (·.status) = some .full := by
  decide +kernel
/-- R175: the order staged at a DRIVE RESET joins the emptied queue where its COMMIT ORDER falls together with the reset and is taken
after it; one sent later finds the staging area EMPTY (R35; log 50). -/
theorem test_commit_with_drive_reset :
    let together := after (.driveReset .safety (.fields {})) { staged with resetCommit := .falls, orders := [order3] }
    let later := after (.driveReset .safety (.fields {})) { staged with orders := [order3] }
    let commit := Instr.commitOrder .scheduler (.fields ⟨1⟩)
    together.staging = none ∧ together.orders = [] ∧ (∃ g, together.resetCommit = .holds g ∧ g.tag = 411)
      ∧ (after commit together).holder .scheduler = some ⟨0x12, .ok, [0x01, 0x9B, 1]⟩
      ∧ (after commit together).resetCommit = .none
      ∧ (after commit later).holder .scheduler = some ⟨0x12, .wrongState, []⟩ := by
  refine ⟨by decide +kernel, by decide +kernel, ⟨⟨411, .position, 5, [⟨3, 55000, 60000, .auto⟩]⟩, by decide +kernel, rfl⟩, ?_⟩
  decide +kernel
theorem witness_CancelOrderRemoves :
    let s := { ready with orders := [{ order3 with tag := 1 }, order3] }
    (∃ o ∈ s.orders, o.tag = 411) ∧ (∀ x ∈ s.orders.head?, x.tag ≠ 411) ∧ (∀ o ∈ s.orders, o.tag ≠ 700)
      ∧ (((group2 .held .track).group 0).state ≠ .free ∧ ((group2 .held .track).group 0).tag = 700) := by decide +kernel
theorem witness_HoldGroupStops : ((group2 .loading .position).group 0).state = .loading
    ∧ ((group2 .trackHalted .track).group 0).state = .trackHalted ∧ ((group2 .resumeWait .track).group 0).state = .resumeWait
    ∧ ((group2 .held .track).group 0).state = .held ∧ 4 ≤ 4 := by decide +kernel
/-- A held group that may be resumed from TRACKING. -/
def heldTracking : State := (group2 .held .track).setGroup 0 fun g => { g with heldFrom := some .tracking }
theorem witness_ResumeGroupAsks : heldTracking.stowInForce = false ∧ heldTracking.censusDone = true
    ∧ (∀ k, k ≠ (0 : SlotId) → (heldTracking.group k).state ≠ .resumeWait)
    ∧ (heldTracking.group 0).heldFrom = some .tracking
    ∧ (∀ m ∈ (heldTracking.group 0).active, (heldTracking.dish m.order.dish).motion = .engaged ∧ m.braked = true)
    ∧ heldTracking.feeder.d + 50 + min heldTracking.feeder.h heldTracking.feeder.guard ≤ heldTracking.feeder.allowance
    ∧ { group2 .held .track with stow := { ready.stow with state := .active } }.stowInForce = true := by decide +kernel
theorem witness_EndedGroupsAreStopped : ((group2 .tracking .track).group 0).state = .tracking
    ∧ (group2 .tracking .track).orders = [] ∧ ((group2 .loading .track).group 0).state ≠ .free
    ∧ (∃ d ∈ ((group2 .tracking .track).group 0).activeDishes, ((group2 .tracking .track).dish d).motion ≠ .fault)
    ∧ ((group2 .slewing .track).group 0).state = .slewing ∧ (ready.group 0).state = .free := by decide +kernel
theorem witness_BrakedGroupsAreReleased : ((group2 .positioned .position).group 0).state = .positioned
    ∧ (group2 .positioned .position).stowInForce = false
    ∧ (∃ d ∈ ((group2 .positioned .position).group 0).activeDishes, ((group2 .positioned .position).dish d).motion = .engaged)
    ∧ (ready.group 3).state = .free := by decide +kernel
theorem witness_BrakedGroupsAreReleased_quiet : (group2 .positioned .position).NoContender := ⟨rfl, rfl, by decide +kernel⟩
theorem witness_PushTrackWalks : ((tracking [] 0).group 0).streaming = true ∧ (ready.group 0).streaming = false
    ∧ ((after (.pushTrack .scheduler (.fields ⟨0, 2, [⟨400, -400, 0⟩, ⟨401, 0, 0⟩]⟩)) (tracking [] 0)).holder .scheduler).map
        (fun r => (r.status, r.fields.head?)) = some (.badField, some 1) := by decide +kernel
theorem witness_FlushAndClearFault :
    let s := (group2 .trackHalted .track).setStream 0 fun x =>
      { x with lock := some ⟨⟨14, .az, .speed⟩, 151, 0⟩, buffer := [⟨151, 0, false⟩] }
    (s.group 0).streaming = true ∧ (s.stream 0).lock ≠ none
      ∧ ((after (.clearTrackFault .scheduler (.fields ⟨0⟩)) s).group 0).state = .tracking := by decide +kernel
theorem witness_WindSampleTaken : ready.settings.mastConfigured[(5 : MastId)] = true
    ∧ (∀ m : MastId, 6 = m.val → ready.settings.mastConfigured[m] = false)
    ∧ ready.wind.masts[(5 : MastId)].level ≠ some .trip
    ∧ (after (.windSample .safety (.fields ⟨5, 0, 200⟩)) ready).wind.masts[(5 : MastId)].level = some .trip := by decide +kernel
/-- A sample that changes no level of a LIVE mast, and an open snapshot that one at the trip closes. -/
theorem witness_WindSampleTaken_live :
    let s := after (.windSample .safety (.fields ⟨5, 0, 1⟩)) ready
    s.wind.masts[(5 : MastId)].state = .live ∧ s.wind.masts[(5 : MastId)].level = some .calm ∧ s.wind.snapOpen = false
      ∧ State.reset.wind.snapOpen = true ∧ (s.roundDue || s.scanDue || s.judgeDue) = false
      ∧ (after (.windSample .safety (.fields ⟨5, 0, 200⟩)) { s with wind := { s.wind with snapOpen := true } }).wind.snapOpen
        = false := by decide +kernel
theorem witness_StowArrayTriggers : ready.stow.state ≠ .active ∧ (stowed .active).stow.state = .active
    ∧ (stowed .active).hears .safety = true := by decide +kernel
theorem witness_SnapshotReset : (∀ m : MastId, ready.wind.snapshot[m]
      = ⟨ready.settings.mastConfigured[m], ready.wind.masts[m].state, ready.wind.masts[m].level⟩)
    ∧ (after (.resetWeatherSnapshot .safety (.fields {})) (ready.setMast 5 { Mast.reset with state := .stale })).wind.snapOpen
        = false := by decide +kernel
theorem witness_AllowanceAndGuardSet : 0 ≠ powered.feeder.allowance ∧ 0 < powered.feeder.allowance ∧ powered.stow.state ≠ .active
    ∧ powered.feeder.guard = 200 := by decide +kernel
theorem witness_MeltOrderAdds : (ready.cfg 47).present = true ∧ (7 : Byte).getLsbD 2 = true ∧ 1 ≤ 1 ∧ 1000000 ≤ 1000000
    ∧ (ready.zone ⟨47, .rim⟩).state = .idle ∧ ready.blocks 47 = false ∧ (locked .applied).blocks 3 = true
    ∧ State.reset.censusDone = false ∧ State.reset.stow.state ≠ .active ∧ (2 : Byte).getLsbD 0 = false
    ∧ (2 : Byte).getLsbD 1 = true := by decide +kernel
/-- An active member whose ice flag an order sets, and with it its group's last one. -/
theorem witness_MeltOrderAdds_iced :
    let s := group2 .loading .position
    let u := after (.meltOrder .safety (.fields ⟨14, 1, 1, 1⟩)) s
    (s.cfg 14).present = true ∧ s.melt.ice[(14 : DishId)] = false ∧ (s.dish 14).group = some 0 ∧ s.orders = []
      ∧ (s.group 0).activeDishes = [14, 15] ∧ ((u.group 0).members.map (·.status)) = [.excluded .iced 0, .arrived]
      ∧ u.slot 14 = .stop ∧ (u.dish 14).group = none
      ∧ ((after (.meltOrder .safety (.fields ⟨255, 1, 1, 1⟩)) s).group 0).lastResult = .allExcluded := by decide +kernel
theorem witness_CancelMeltClears : (powered.cfg 9).present = true ∧ (powered.zone ⟨9, .subref⟩).state ≠ .idle
    ∧ (ready.listShed 9).shedListed 9 = true ∧ (ready.listShed 9).feeder.powerOrder = [] := by decide +kernel
/-- A WAITING zone and an empty power order are lawful. -/
theorem witness_CancelMeltClears_lawful :
    (ready.setZone ⟨9, .rim⟩ fun _ => { Zone.reset with state := .waiting, remaining := 5000 }).FeederLawful :=
  lawful_of_unpowered rfl (by decide +kernel) (by decide +kernel)
theorem witness_DishConfigWritten : ready.hears .safety = true ∧ 48 ≤ 48
    ∧ (ready.cfg 47).present = true ∧ (ready.dish 47).motion = .idle
    ∧ ((group2 .tracking .track).dish 14).motion = .engaged
    ∧ ((after (.writeConfigDish .safety (.fields
        ⟨47, some 0, none, none, none, none, none, none, none, none, some 5, some 255, some 45000⟩)) ready).cfg 47).present
        = false := by decide +kernel
/-- A present flag that can be cleared, of a dish with a POWERED zone. -/
theorem witness_DishConfigWritten_clears : (powered.cfg 9).present = true ∧ (powered.zone ⟨9, .subref⟩).state = .powered
    ∧ ((after (.writeConfigDish .safety (.fields
        ⟨9, some 0, none, none, none, none, none, none, none, none, none, none, none⟩)) powered).zone ⟨9, .subref⟩).state
        = .idle := by decide +kernel
theorem witness_SectionsWritten : ready.hears .safety = true ∧ ready.staleCount = 6 ∧ ready.settings.wind.staleTrip = 3
    ∧ (after (.writeConfigWind .safety (.fields ⟨some 1000, none, some 999, none, none, some 3600⟩)) ready).settings.wind
        = ⟨1000, 120, 999, 10, 3, 3600⟩
    ∧ ((after (.writeConfigMast .safety (.fields ⟨Vector.replicate 6 (some false)⟩)) ready).staleCount = 0) := by decide +kernel
theorem witness_DriveResetEmpties : (stowed .active).hears .safety = true ∧ ((group2 .held .track).group 0).state ≠ .free
    ∧ ((after (.driveReset .safety (.fields {})) (group2 .held .track)).group 0).lastResult = .reset := by decide +kernel
/-- A STOWING dish in ACTIVE, in no group, with its move record. -/
theorem witness_DriveResetEmpties_stowing :
    let s := ((stowed .active).setMotion 47 .stowing).setMove 47 (some ⟨438, none, 10⟩)
    s.stow.state = .active ∧ (s.dish 47).motion = .stowing ∧ (∀ g, (s.group g).state = .free)
      ∧ (after (.driveReset .safety (.fields {})) s).stow.moves[(47 : DishId)] = none := by decide +kernel
theorem witness_PlaceLockEnters : ready.hears (.station 3) = true ∧ (ready.cfg 47).present = true ∧ 2 ≤ 2 ∧ 999999 ≤ 999999
    ∧ ready.countLocks (fun e => decide (e.dish = 47)) < 8 ∧ ready.locks.entries[(0 : Fin 96)] = none
    ∧ ready.appliedMove 47 = 0 ∧ (ready.dish 47).brakesSet = true ∧ (ready.dish 47).moving = false
    ∧ ((group2 .tracking .track).dish 14).group ≠ none
    ∧ ((after (.placeLock (.station 0) (.fields ⟨3, 2, 500⟩)) (locked .applied)).holder (.station 0)).map (·.status)
        = some .duplicate := by decide +kernel
theorem witness_ReleaseLockRemoves : (locked .applied).locks.entries[(0 : Fin 96)] = some ⟨3, .all, 500, 1, .applied, 0⟩
    ∧ (locked .applied).appliedMove 3 = 1 ∧ (locked .applied).appliedHeat 3 = 1 ∧ ((locked .applied).dish 3).switchLock = false
    ∧ ((locked .applied).dish 3).motion = .idle ∧ (locked .applied).censusDone = true ∧ (locked .applied).stowInForce = false
    ∧ { locked .applied with locks := { (locked .applied).locks with census := .incomplete } }.censusDone = false := by
  decide +kernel
/-- Two applied move locks on one dish, one of which is released. -/
theorem witness_ReleaseLockRemoves_locked :
    let s := { ready with locks := { ready.locks with
      entries := (ready.locks.entries.set 0 (some ⟨3, .move, 500, 1, .applied, 0⟩)).set 95 (some ⟨3, .all, 501, 1, .applied, 0⟩) } }
    s.Quiet ∧ NobodyAdmitted s ∧ s.appliedMove 3 = 2 :=
  ⟨⟨rfl, rfl, rfl⟩, ⟨by decide, .inl ⟨rfl, rfl, by decide +kernel⟩⟩, by decide +kernel⟩
theorem witness_CensusCompleted : State.reset.locks.census = .incomplete ∧ State.reset.hears (.station 0) = true
    ∧ ready.locks.census = .complete 0 0 ∧ State.reset.heatLocked 0 = false ∧ State.reset.stow.state ≠ .active := by decide +kernel
theorem witness_AttentionTaken : portSources .maintenance = [.lockConflict] ++ .censusRequired :: [.lockApplied]
    ∧ (State.reset.source .censusRequired).pending = true ∧ (State.reset.source .censusRequired).enabled = true
    ∧ (State.reset.source .censusRequired).inService = false ∧ (State.reset.source .lockConflict).pending = false
    ∧ (ready.source .stowProblem).pending = false := by decide +kernel
theorem witness_AttentionServed :
    let s := ready.setSource .meltDone fun x => { x with inService := true }
    portSources .safety = [.stowProblem, .weather, .power] ++ .meltDone :: [] ∧ (s.source .meltDone).inService = true
      ∧ (s.source .power).inService = false ∧ 2 ^ (portSources .safety).length ≤ (0x10 : Byte).toNat
      ∧ (0x0F : Byte).toNat < 2 ^ (portSources .safety).length := by decide +kernel
theorem witness_ReadsChangeNothing : ready.hears (.station 3) = true ∧ 48 ≤ 48 ∧ 254 ≠ 255 := by decide +kernel
theorem witness_StepKeeps : step ready = .next { ready with clock := 1 } := rfl
theorem witness_StepKeepsFeederLawful : ready.FeederLawful := ready_lawful
theorem witness_OnlyOwnersChange : exec .resetPinAsserted ready = .next { ready with resetHeld := true }
    ∧ Instr.resetPinAsserted ≠ .powerOnReset := ⟨rfl, by decide⟩
theorem witness_StepKeepsLocksLawful : ready.LocksLawful := by
  refine ⟨by decide +kernel, fun i j a b hi => ?_⟩
  have hn : ∀ p : Fin 96, ready.locks.entries[p] = none := by decide +kernel
  rw [hn i] at hi
  cases hi
theorem zones_of_kinds {p : Zone → Prop} {s : State}
    (h : ∀ (d : DishId) (k : Fin 3), p (s.zone ⟨d, #v[ZoneKind.rim, .inner, .subref][k]⟩)) : ∀ z, p (s.zone z) := by
  rintro ⟨d, k⟩
  cases k
  · exact h d 0
  · exact h d 1
  · exact h d 2
theorem witness_StepKeepsRangesAndCapacities : ready.PositionsInRange ∧ ready.WithinCapacity ∧ ready.Quiet where
  left := by unfold State.PositionsInRange; decide +kernel
  right.right := ready_quiet
  right.left :=
    { orders := by decide, staged := by rintro g ⟨⟩, toCommit := by rintro g ⟨⟩, ordered := by rintro o ⟨⟩, grouped := by decide +kernel
      miss := by decide +kernel, buffers := by decide +kernel, coast := by decide +kernel, queue := by decide
      trips := by decide, shedList := by decide, rotation := by decide
      energy := zones_of_kinds (p := fun z => z.remaining ≤ 1000000000) (by decide +kernel)
      carry := zones_of_kinds (p := fun z => z.carry ≤ 9) (by decide +kernel)
      overrun := by intro x; cases x <;> decide
      violations := by intro p; cases p <;> decide }

end Sys2Proof.Tests
end

section
/-! What reports, losses and requests share with the blocks' operations: Within for each of them, and WithinLocks for a report that
applies locks. -/

namespace Sys2Proof.Machine

/-! ## Reports, losses and requests stay within the shared operations -/

theorem within_failShed (s : State) (d : DishId) (p : Motion) : Within s (s.failShed d p) :=
  within_ite (within_endShed _ _ _) (.refl s)

theorem within_faultByReport (s : State) (d : DishId) : Within s (s.faultByReport d) :=
  (within_faultDish _ _).trans <| (within_excludeMember _ _ _).trans <| (within_stowOnFault _ _ _).trans <|
    (within_failShed _ _ _).trans (within_answerBlock _ _ _)

theorem within_loseDish (s : State) (d : DishId) : Within s (s.loseDish d) := by
  unfold State.loseDish; dsimp only
  exact (within_writeStop _ _).trans <| (within_setMotion _ _ _).trans <| (within_excludeMember _ _ _).trans <|
    (within_stowOnLoss _ _ _).trans <| (within_failShed _ _ _).trans (within_answerBlock _ _ _)

theorem within_holdIfIdle (s : State) (d : DishId) : Within s (s.holdIfIdle d) :=
  within_ite (within_writeHoldBrake _ _) (.refl s)

theorem within_stowOnSwitch (s : State) (d : DishId) : Within s (s.stowOnSwitch d) :=
  within_ite ((within_stopDish _ _).trans (within_markDish _ _ _ _)) (within_stowOnLocked _ _)

theorem within_switchSet (s : State) (d : DishId) : Within s (s.switchSet d) :=
  (within_excludeMember _ _ _).trans <| (within_stowOnSwitch _ _).trans <| (within_stopShed _ _ _).trans <|
    (within_skipShed _ _).trans <| (within_holdIfIdle _ _).trans (within_answerBlock _ _ _)

theorem within_moveLockEnded (s : State) (d : DishId) : Within s (s.moveLockEnded d) :=
  within_ite (.refl s) ((within_ite (within_putSlot _ _ _) (.refl s)).trans (within_rejoinBlocked _ _))

theorem within_switchClear (s : State) (d : DishId) : Within s (s.switchClear d) :=
  (within_moveLockEnded _ _).trans <| (within_answerBlock _ _ _).trans (within_askRound _)

theorem within_switchReport (s : State) (d : DishId) (former : Bool) : Within s (s.switchReport d former) := by
  unfold State.switchReport; split
  · exact within_switchSet _ _
  · exact within_switchClear _ _
  · exact .refl s
  · exact .refl s

theorem within_markArrived (s : State) (g : SlotId) (d : DishId) : Within s (s.markArrived g d) :=
  within_ite ((within_setMember _ _ _ _).trans (within_judgeGroup _ _)) (.refl s)

theorem within_returnMember (s : State) (g : SlotId) (d : DishId) : Within s (s.returnMember g d) :=
  (within_setMotion _ _ _).trans <| (within_writeHoldBrake _ _).trans <| (within_setMember _ _ _ _).trans
    (within_judgeGroup _ _)

theorem within_stopBraked (s : State) (g : SlotId) (d : DishId) : Within s (s.stopBraked g d) :=
  (within_stopDish _ _).trans (within_setMember _ _ _ _)

theorem within_groupReport (s : State) (d : DishId) : Within s (s.groupReport d) := by
  unfold State.groupReport; split
  · exact .refl s
  · split
    · exact within_ite ((within_setMember _ _ _ _).trans (within_judgeGroup _ _)) (.refl s)
    · exact within_markArrived _ _ _
    · exact within_ite (within_returnMember _ _ _) (.refl s)
    iterate 3 exact within_ite (within_stopBraked _ _ _) (within_ite (within_returnMember _ _ _) (.refl s))
    all_goals exact .refl s

theorem within_stowGo (s : State) (d : DishId) (m : StowMove) : Within s (s.stowGo d m) :=
  (within_writeGo _ _ _).trans (within_setMove _ _ _)

theorem within_stowArrive (s : State) (d : DishId) : Within s (s.stowArrive d) :=
  (within_setMotion _ _ _).trans <| (within_writeHoldBrake _ _).trans <| (within_releaseReservation _ _).trans <|
    (within_setMove _ _ _).trans (within_checkStowedHold _)

theorem within_stowReport (s : State) (d : DishId) : Within s (s.stowReport d) := by
  unfold State.stowReport; dsimp only; split
  · split
    · exact .refl s
    · split
      · exact within_ite (within_stowGo _ _ _) (.refl s)
      · exact within_ite (within_stowArrive _ _) (.refl s)
  · exact .refl s

theorem within_shedReport (s : State) (d : DishId) : Within s (s.shedReport d) := by
  unfold State.shedReport; dsimp only; split
  · split
    · exact .refl s
    · split
      · exact within_ite ((within_writeGo _ _ _).trans (within_setShedMove _ _ _)) (.refl s)
      · exact within_ite
          (within_ite ((within_releaseReservation _ _).trans <| (within_endShed _ _ _).trans (within_enterIdle _ _)) (.refl s))
          (within_ite ((within_writeHoldBrake _ _).trans (within_setShedMove _ _ _)) (.refl s))
  · exact .refl s

theorem within_hold (s : State) (g : SlotId) (h : HeldFrom) : Within s (s.hold g h) :=
  (within_onDishes _ _ _ within_stopDish).trans (within_setGroup _ _ _)

theorem within_releaseMember (s : State) (d : DishId) : Within s (s.releaseMember d) :=
  within_ite ((within_leaveGroup _ _).trans (within_enterIdle _ _)) (within_leaveGroup _ _)

theorem within_releaseBraked (s : State) (g : SlotId) : Within s (s.releaseBraked g) :=
  (within_onDishes _ _ _ within_releaseMember).trans (within_freeSlot _ _ _)

theorem within_excludeAll (s : State) (g : SlotId) (ds : List DishId) (why : ExclReason) : Within s (s.excludeAll g ds why) :=
  within_onDishes _ _ _ fun s _ => within_ite (within_exclude _ _ _ _) (.refl s)

theorem within_cancelDish (s : State) (kinds : List ZoneKind) (d : DishId) : Within s (s.cancelDish kinds d) :=
  (within_foldl _ (fun _ _ => within_cancelZone _ _) _ _).trans <| (within_iceAfterCancel _ _).trans (within_skipShed _ _)

theorem within_conflictIfQueued (s : State) (d : DishId) : Within s (s.conflictIfQueued d) :=
  within_ite (within_raiseConflict _ _ _) (.refl s)

theorem within_answerMoveLock (s : State) (d : DishId) : Within s (s.answerMoveLock d) := by
  refine (within_skipShed s d).trans ?_
  unfold State.answerMoveLock; dsimp only; split
  · exact .trans (within_ite ((within_writeHoldBrake _ _).trans (within_stowOnLocked _ _)) (within_conflictIfQueued _ _))
      (within_excludeMember _ _ _)
  · exact within_excludeMember _ _ _
  · exact (within_conflictIfQueued _ _).trans (within_excludeMember _ _ _)
  · exact within_raiseConflict _ _ _
  · exact within_stopShed _ _ _
  all_goals exact .refl _

theorem within_answerPlacing (s before : State) (d : DishId) (sc : Scope) : Within s (s.answerPlacing before d sc) := by
  have h : Within s (if sc = .heat ∨ 1 ≤ before.appliedMove d then s else s.answerMoveLock d) :=
    within_ite (.refl s) (within_answerMoveLock _ _)
  unfold State.answerPlacing; dsimp only
  exact within_ite h (h.trans (within_answerBlock _ _ _))

theorem within_moveEntryGone (s : State) (e : LockEntry) : Within s (s.moveEntryGone e) := by
  unfold State.moveEntryGone; split
  · exact .refl s
  · exact within_ite (.refl s) (within_moveLockEnded _ _)

theorem within_heatEntryGone (s : State) (e : LockEntry) : Within s (s.heatEntryGone e) :=
  within_ite (.refl s) (within_answerBlock _ _ _)

theorem within_answerRemoval (s : State) (e : LockEntry) : Within s (s.answerRemoval e) := by
  refine Within.trans ?_ (within_askRound _)
  unfold State.entryGone; split
  · exact within_moveEntryGone _ _
  · exact within_heatEntryGone _ _
  · exact (within_moveEntryGone _ _).trans (within_heatEntryGone _ _)

theorem within_meterZone (s : State) (z : ZoneId) : Within s (s.meterZone z) := by
  unfold State.meterZone; dsimp only
  exact within_ite (within_ite ((within_chargeZone _ _).trans (within_unpower _ _ _)) (within_chargeZone _ _)) (.refl s)

theorem within_toTail (s : State) (z : ZoneId) : Within s (s.toTail z) :=
  within_ite (.of_same rfl rfl rfl rfl rfl rfl) (.refl s)

theorem within_slotExpired (s : State) (z : ZoneId) : Within s (s.slotExpired z) :=
  within_ite ((within_unpower _ _ _).trans <| (within_toTail _ _).trans (within_settle _))
    (within_setZone _ _ _ (by intro _; exact le_rfl))

theorem within_judgeStaleWrite (s before else_ : State) (h : Within s else_) : Within s (s.judgeStaleWrite before else_) :=
  within_ite (within_plainTrigger _) h

theorem within_removeOrder (s : State) (tag : Nat) (hs : List Order)
    (h : hs = s.orders.filter fun o => decide (o.tag ≠ tag)) : Within { s with orders := hs } (s.removeOrder tag) := by
  subst h; unfold State.removeOrder; dsimp only
  exact within_ite (within_askRound _) (.refl _)

theorem within_resetStow (s : State) : Within s s.resetStow :=
  within_ite ((within_onDishes _ _ _ fun s _ =>
    within_ite ((within_stopDish _ _).trans (within_setMove _ _ _)) (.refl s)).trans (within_buildQueue _)) (.refl s)

/-! ## Locks that a report applies -/

/-- The second state is reached from the first by the shared operations and by the application of PENDING locks of one dish, with
a free value drawn or not (R148). -/
structure WithinLocks (d : DishId) (s t : State) : Prop where
  locks : t.locks = { s.locks with entries := t.locks.entries }
  entries : ∀ p : Fin 96, t.locks.entries[p] = s.locks.entries[p]
    ∨ ∃ e, s.locks.entries[p] = some e ∧ e.dish = d ∧ e.state = .pending
        ∧ t.locks.entries[p] = some { e with state := .applied }
  within : Within { s with locks := t.locks, fresh := t.fresh } t

section
variable {d : DishId} {s t u : State}

theorem Within.relabel (h : Within s t) (l : Locks) (n : Nat) :
    Within { s with locks := l, fresh := n } { t with locks := l, fresh := n } := by
  refine ⟨?_, h.orders, h.energy, h.ice, h.buffer, h.overrun, h.pending⟩
  exact congrArg (fun f : Fixed => { f with locks := l, fresh := n }) h.fixed

theorem Within.withinLocks (h : Within s t) : WithinLocks d s t := by
  have hl : t.locks = s.locks := congrArg Fixed.locks h.fixed
  have hf : t.fresh = s.fresh := congrArg Fixed.fresh h.fixed
  refine ⟨by rw [hl], fun p => .inl (by rw [hl]), ?_⟩
  rw [hl, hf]; exact h

theorem WithinLocks.refl (s : State) : WithinLocks d s s := (Within.refl s).withinLocks

theorem WithinLocks.trans (h : WithinLocks d s t) (k : WithinLocks d t u) : WithinLocks d s u := by
  refine ⟨?_, fun p => ?_, (h.within.relabel u.locks u.fresh).trans k.within⟩
  · rw [k.locks, h.locks]
  · rcases k.entries p with e | ⟨e, h1, h2, h3, h4⟩
    · rw [e]; exact h.entries p
    · rcases h.entries p with e' | ⟨e', h1', -, -, h4'⟩
      · exact .inr ⟨e, by rw [← e', h1], h2, h3, h4⟩
      · rw [h4'] at h1; cases h1; cases h3

theorem withinLocks_ite {c : Prop} [Decidable c] (ht : WithinLocks d s t) (hu : WithinLocks d s u) :
    WithinLocks d s (if c then t else u) := by split <;> assumption

theorem withinLocks_foldl {α : Type} (f : State → α → State) (h : ∀ s x, WithinLocks d s (f s x)) :
    ∀ (xs : List α) (s : State), WithinLocks d s (xs.foldl f s)
  | [], s => .refl s
  | x :: xs, s => (h s x).trans (withinLocks_foldl f h xs (f s x))

end

theorem withinLocks_putLock {d : DishId} {s : State} {p : Fin 96} {e : LockEntry} (he : s.locks.entries[p] = some e)
    (hp : e.pendingOn d = true) : WithinLocks d s (s.putLock p (some { e with state := .applied })) := by
  simp only [LockEntry.pendingOn, Bool.and_eq_true, decide_eq_true_eq] at hp
  refine ⟨rfl, fun q => ?_, .refl _⟩
  by_cases hq : q = p
  · subst hq; exact .inr ⟨e, he, hp.1, hp.2, by simp [State.putLock]⟩
  · exact .inl (by simp [State.putLock, set_get, hq])

theorem withinLocks_applyAt (d : DishId) (s : State) (p : Fin 96) : WithinLocks d s (State.applyAt d s p) := by
  unfold State.applyAt; split
  · exact .refl s
  · next e he =>
    split
    · next hp => exact (withinLocks_putLock he hp).trans (within_raise _ _ _).withinLocks
    · exact .refl s

theorem withinLocks_applyPending (s : State) (d : DishId) : WithinLocks d s (s.applyPending d) :=
  (withinLocks_foldl _ (withinLocks_applyAt d) _ _).trans <|
    .trans (Within.withinLocks (within_ite (within_writeHoldBrake _ _) (.refl _))) (within_askRound _).withinLocks

theorem withinLocks_lockReport (s : State) (d : DishId) : WithinLocks d s (s.lockReport d) :=
  withinLocks_ite (withinLocks_applyPending _ _) (.refl s)

theorem withinLocks_drawFresh (s : State) (d : DishId) : WithinLocks d s s.drawFresh :=
  ⟨rfl, fun _ => .inl rfl, .refl _⟩

theorem withinLocks_reportIdle (s : State) (d : DishId) : WithinLocks d s (s.reportIdle d) :=
  withinLocks_ite
    (withinLocks_ite
      ((withinLocks_drawFresh _ _).trans <| (withinLocks_applyPending _ _).trans (within_enterIdle _ _).withinLocks)
      ((withinLocks_drawFresh _ _).trans (within_enterIdle _ _).withinLocks))
    (within_enterIdle _ _).withinLocks

theorem within_reportStop (s : State) (d : DishId) : Within s (s.reportStop d) :=
  (within_stopDish _ _).trans (within_rejoinUnreachable _ _)

theorem withinLocks_stateRules (s : State) (d : DishId) : WithinLocks d s (s.stateRules d) := by
  have hi := withinLocks_reportIdle s d
  have hs := (within_reportStop s d).withinLocks (d := d)
  unfold State.stateRules; dsimp only; split
  · exact withinLocks_ite hi hs
  · exact (within_ite (within_stopDish _ _) (.refl s)).withinLocks
  · exact withinLocks_ite hi (.refl s)
  · exact (within_ite (within_writeStop _ _) (within_ite (within_writeHoldBrake _ _) (.refl s))).withinLocks
  · exact withinLocks_ite hi (.refl s)
  · exact (withinLocks_ite hi hs).trans (within_answerBlock _ _ _).withinLocks
  all_goals exact .refl s

/-- The first answer to a report that has been stored: a fault code's, or the state rules' (R12). -/
def State.reportRules (s : State) (d : DishId) : State :=
  if (s.dish d).faultReported then s.faultByReport d else s.stateRules d

/-- A report taken is stored and offered to the blocks in log 13's order. -/
theorem takeReport_eq (s : State) (d : DishId) (r : Report) :
    s.takeReport d r = ((((((s.storeReport d r).reportRules d).lockReport d).switchReport d (s.dish d).switchLock).groupReport
      d).stowReport d).shedReport d := rfl

theorem withinLocks_reportRules (s : State) (d : DishId) : WithinLocks d s (s.reportRules d) :=
  withinLocks_ite (within_faultByReport _ _).withinLocks (withinLocks_stateRules _ _)

/-- What a report taken does after it has been stored (R12). -/
theorem withinLocks_takeReport (s : State) (d : DishId) (r : Report) : WithinLocks d (s.storeReport d r) (s.takeReport d r) := by
  rw [takeReport_eq]
  exact (withinLocks_reportRules _ _).trans <| (withinLocks_lockReport _ _).trans <|
    (within_switchReport _ _ _).withinLocks.trans <| (within_groupReport _ _).withinLocks.trans <|
      (within_stowReport _ _).withinLocks.trans (within_shedReport _ _).withinLocks

end Sys2Proof.Machine
end

section
/-! Owners of the parts of the state: the relation KeepsBut, and what each operation that is no shared one keeps. -/

namespace Sys2Proof

/-! ## Owners of the parts of the state -/

/-- The parts of the state that the spec gives an owner each. -/
inductive Part where
  | settings | allowance | guard | frame | seconds | entries | energy

/-- A step of the table is the owner of a part: it alone may change it, or raise a zone's energy. -/
def Instr.owns (i : Instr) : Part → Prop
  | .settings => i.request = some (.safety, .writeConfig)
  | .allowance => i.request = some (.safety, .setAllowance)
  | .guard => i.request = some (.safety, .setMeltGuard)
  | .frame => i = .frameStart
  | .seconds => i = .secondsCountTick
  | .entries => (∃ d r, i = .validReport d r)
      ∨ ∃ n, i.request = some (.station n, .placeLock) ∨ i.request = some (.station n, .releaseLock)
  | .energy => i.request = some (.safety, .meltOrder)

end Sys2Proof

namespace Sys2Proof.Machine

/-- Between the two states no part has changed but those that may, a census COMPLETE has stayed so, and the queue of steps that
wait is the same. -/
structure KeepsBut (may : Part → Prop) (s t : State) : Prop where
  settings : t.settings ≠ s.settings → may .settings
  allowance : t.feeder.allowance ≠ s.feeder.allowance → may .allowance
  guard : t.feeder.guard ≠ s.feeder.guard → may .guard
  frame : t.ring.frame ≠ s.ring.frame → may .frame
  seconds : t.locks.seconds ≠ s.locks.seconds → may .seconds
  entries : t.locks.entries ≠ s.locks.entries → may .entries
  census : ∀ n x, s.locks.census = .complete n x → t.locks.census = .complete n x
  energy : ∀ z, (s.zone z).remaining < (t.zone z).remaining → may .energy
  waiting : t.pending = s.pending

section
variable {may : Part → Prop} {s t u : State}

/-- A quantity that has changed over two spans has changed over one of them. -/
theorem ne_trans {α : Type} {p : Prop} {a b c : α} (h : b ≠ a → p) (k : c ≠ b → p) (e : c ≠ a) : p := by
  by_cases hb : b = a
  · subst hb; exact k e
  · exact h hb

theorem KeepsBut.of_same (h1 : t.settings = s.settings) (h2 : t.feeder.allowance = s.feeder.allowance)
    (h3 : t.feeder.guard = s.feeder.guard) (h4 : t.ring.frame = s.ring.frame) (h5 : t.locks = s.locks)
    (h6 : t.melt.zones = s.melt.zones) (h7 : t.pending = s.pending) : KeepsBut may s t where
  settings h := absurd h1 h
  allowance h := absurd h2 h
  guard h := absurd h3 h
  frame h := absurd h4 h
  seconds h := absurd (by rw [h5]) h
  entries h := absurd (by rw [h5]) h
  census n x h := by rw [h5]; exact h
  energy z h := by simp [State.zone, h6] at h
  waiting := h7

theorem KeepsBut.refl (s : State) : KeepsBut may s s := .of_same rfl rfl rfl rfl rfl rfl rfl

theorem KeepsBut.trans (h : KeepsBut may s t) (k : KeepsBut may t u) : KeepsBut may s u where
  settings := ne_trans h.settings k.settings
  allowance := ne_trans h.allowance k.allowance
  guard := ne_trans h.guard k.guard
  frame := ne_trans h.frame k.frame
  seconds := ne_trans h.seconds k.seconds
  entries := ne_trans h.entries k.entries
  census n x e := k.census n x (h.census n x e)
  energy z e := by
    by_cases ht : (s.zone z).remaining < (t.zone z).remaining
    · exact h.energy z ht
    · exact k.energy z (by omega)
  waiting := k.waiting.trans h.waiting

/-- The shared operations of the blocks change no owned part. -/
theorem Within.keeps (h : Within s t) : KeepsBut may s t where
  settings e := absurd (congrArg Fixed.settings h.fixed) e
  allowance e := absurd (congrArg Fixed.allowance h.fixed) e
  guard e := absurd (congrArg Fixed.guard h.fixed) e
  frame e := absurd (congrArg Fixed.frame h.fixed) e
  seconds e := absurd (congrArg (·.locks.seconds) h.fixed) e
  entries e := absurd (congrArg (·.locks.entries) h.fixed) e
  census n x e := (congrArg (·.locks.census) h.fixed).trans e
  energy z e := absurd (h.energy z) (by omega)
  waiting := congrArg Fixed.waiting h.fixed

theorem WithinLocks.keeps {d : DishId} (h : WithinLocks d s t) (hm : may .entries) : KeepsBut may s t := by
  refine KeepsBut.trans (t := { s with locks := t.locks, fresh := t.fresh }) ?_ h.within.keeps
  refine { KeepsBut.refl (may := may) s with
    seconds := fun e => absurd ?_ e, entries := fun _ => hm, census := fun n x e => ?_ }
  · exact (congrArg Locks.seconds h.locks :)
  · exact (congrArg Locks.census h.locks :).trans e

theorem keepsBut_ite {c : Prop} [Decidable c] (ht : KeepsBut may s t) (hu : KeepsBut may s u) :
    KeepsBut may s (if c then t else u) := by split <;> assumption

theorem keepsBut_foldl {α : Type} (f : State → α → State) (h : ∀ s x, KeepsBut may s (f s x)) :
    ∀ (xs : List α) (s : State), KeepsBut may s (xs.foldl f s)
  | [], s => .refl s
  | x :: xs, s => (h s x).trans (keepsBut_foldl f h xs (f s x))

theorem KeepsBut.settle (h : KeepsBut may s t) : KeepsBut may s t.settle := h.trans (within_settle t).keeps

theorem KeepsBut.putHolder (h : KeepsBut may s t) (src : Sender) (r : Option Response) : KeepsBut may s (t.putHolder src r) :=
  h.trans (.of_same (by simp) (by simp) (by simp) (by simp) (by simp) (by simp) (by simp))

theorem KeepsBut.answer (h : KeepsBut may s t) (src : Sender) (r : Request) (st : Status) (bs : List Byte) :
    KeepsBut may s (t.answer src r st bs) := h.putHolder _ _

theorem keepsBut_refuse (src : Sender) (r : Request) (st : Status) : KeepsBut may s (s.refuse src r st) :=
  (KeepsBut.refl s).putHolder _ _

theorem keepsBut_setViolation (p : Port) (v : Violation) : KeepsBut may s (s.setViolation p v) := by
  rw [setViolation_ports]; exact .of_same rfl rfl rfl rfl rfl rfl rfl

theorem keepsBut_endTransaction (p : Port) : KeepsBut may s (s.endTransaction p) := by
  rw [endTransaction_ports]; exact .of_same rfl rfl rfl rfl rfl rfl rfl

/-- An event keeps what its meaning keeps. -/
theorem event_keeps {take : State} (h : event s take = .next t) (k : KeepsBut may s take) : KeepsBut may s t := by
  rcases event_cases h with ⟨-, rfl⟩ | ⟨-, rfl⟩
  · exact .refl _
  · exact k

/-- A request keeps what its meaning keeps: unheard, not permitted or of a wrong length it changes the ports alone. -/
theorem serve_keeps {α : Type} {src : Sender} {r : Request} {body : Body α} {take : α → State}
    (h : serve src r body s take = .next t) (k : ∀ f, permitted src.port r = true → KeepsBut may s (take f)) :
    KeepsBut may s t := by
  rcases serve_cases h with ⟨-, rfl⟩ | ⟨-, rfl⟩ | ⟨-, -, rfl⟩ | ⟨f, -, hp, -, rfl⟩
  · exact .refl _
  · exact (keepsBut_setViolation _ _).trans (keepsBut_refuse _ _ _)
  · exact keepsBut_refuse _ _ _
  · exact k f hp

theorem keepsBut_onSlot {src : Sender} {r : Request} {n : Nat} {take : SlotId → State}
    (k : ∀ g, KeepsBut may s (take g)) : KeepsBut may s (s.onSlot src r n take) := by
  unfold State.onSlot; split
  · exact k _
  · exact keepsBut_refuse _ _ _

theorem keepsBut_onStream {src : Sender} {r : Request} {g : SlotId} {take : State} (k : KeepsBut may s take) :
    KeepsBut may s (s.onStream src r g take) := keepsBut_ite k (keepsBut_refuse _ _ _)

theorem keepsBut_refuseWrite (src : Sender) : KeepsBut may s (s.refuseWrite src) :=
  ((KeepsBut.refl s).answer _ _ _ _).trans (.of_same rfl rfl rfl rfl rfl rfl rfl)

theorem keepsBut_judgeWrite {src : Sender} {any : Bool} {oks : List Bool} {constraint : Bool} {take : State}
    (k : KeepsBut may s take) : KeepsBut may s (s.judgeWrite src any oks constraint take) := by
  unfold State.judgeWrite; split
  · exact keepsBut_refuseWrite _
  · split
    · exact (KeepsBut.refl s).answer _ _ _ _
    · exact keepsBut_ite k (keepsBut_refuseWrite _)

end

/-! ## Who sends a request of one port -/

theorem port_safety {src : Sender} (h : src.port = .safety) : src = .safety := by
  cases src
  case safety => rfl
  all_goals cases h

theorem port_maintenance {src : Sender} (h : src.port = .maintenance) : ∃ n, src = .station n := by
  cases src with
  | station n => exact ⟨n, rfl⟩
  | _ => cases h

/-- A request that the safety port alone carries is sent by its master. -/
theorem sent_by_safety {src : Sender} (r : Request) (h : decide (src.port = .safety) = true) :
    some (src, r) = some (Sender.safety, r) := by rw [port_safety (of_decide_eq_true h)]

/-! ## Operations that are no shared ones -/

section
variable {may : Part → Prop} {s : State}

theorem keepsBut_storeReport (d : DishId) (r : Report) : KeepsBut may s (s.storeReport d r) :=
  .of_same rfl rfl rfl rfl rfl rfl rfl

theorem keepsBut_capture (m : MastId) (x : SnapEntry) : KeepsBut may s (s.capture m x) := .of_same rfl rfl rfl rfl rfl rfl rfl

theorem keepsBut_offerSnapshot (m : MastId) (x : SnapEntry) : KeepsBut may s (s.offerSnapshot m x) :=
  keepsBut_ite (keepsBut_capture _ _) (.refl s)

theorem keepsBut_noteTrip (m : MastId) (x : Option Level) : KeepsBut may s (s.noteTrip m x) :=
  keepsBut_ite (.of_same rfl rfl rfl rfl rfl rfl rfl) (.refl s)

theorem keepsBut_setMast (m : MastId) (x : Mast) : KeepsBut may s (s.setMast m x) := .of_same rfl rfl rfl rfl rfl rfl rfl

theorem within_answerSample (s : State) (m : MastId) (x : SnapEntry) : Within s (s.answerSample m x) :=
  within_ite (within_tripTrigger _ _) (within_ite (within_judgeWeather _) (.refl s))

theorem keepsBut_takeSample (m : MastId) (mean gust : Nat) : KeepsBut may s (s.takeSample m mean gust) :=
  (keepsBut_setMast _ _).trans <| (keepsBut_offerSnapshot _ _).trans <| (keepsBut_noteTrip _ _).trans
    (within_answerSample _ _ _).keeps

theorem keepsBut_passTo (n : Nat) : KeepsBut may s (s.passTo n) := .of_same rfl rfl rfl rfl rfl rfl rfl

theorem keepsBut_goStale (m : MastId) : KeepsBut may s (s.goStale m) := by
  unfold State.goStale; dsimp only
  have h : KeepsBut may s (((s.setMast m s.wind.masts[m].silenced).offerSnapshot m (s.snapOf m)).noteTrip m (s.snapOf m).level) :=
    (keepsBut_setMast _ _).trans <| (keepsBut_offerSnapshot _ _).trans (keepsBut_noteTrip _ _)
  exact h.trans (within_ite (within_plainTrigger _) (within_judgeWeather _)).keeps

theorem keepsBut_setSource (x : Source) (f : SourceState → SourceState) : KeepsBut may s (s.setSource x f) :=
  .of_same rfl rfl rfl rfl rfl rfl rfl

theorem keepsBut_keepCensusRaised : KeepsBut may s s.keepCensusRaised :=
  keepsBut_ite (.refl s) (within_raise _ _ _).keeps

theorem keepsBut_maskSources (mask : Byte) : ∀ (xs : List Source) (n : Nat) (s : State),
    KeepsBut may s (State.maskSources mask xs n s)
  | [], _, s => .refl s
  | _ :: xs, n, _ => (keepsBut_setSource _ _).trans (keepsBut_maskSources mask xs (n + 1) _)

theorem keepsBut_setStream (g : SlotId) (f : Stream → Stream) : KeepsBut may s (s.setStream g f) :=
  .of_same rfl rfl rfl rfl rfl rfl rfl

theorem keepsBut_pushEntries (g : SlotId) (es : List TrackEntry) : KeepsBut may s (s.pushEntries g es) := by
  refine keepsBut_ite (.refl s) ((keepsBut_setStream g _).trans (keepsBut_ite ?_ (.refl _)))
  exact (keepsBut_setStream _ _).trans (within_setGroupState _ _ _).keeps

theorem keepsBut_flush (g : SlotId) : KeepsBut may s (s.flush g) := by
  unfold State.flush; dsimp only
  exact keepsBut_ite ((keepsBut_setStream _ _).trans (within_setGroupState _ _ _).keeps) (keepsBut_setStream _ _)

theorem keepsBut_clearFault (g : SlotId) : KeepsBut may s (s.clearFault g) := by
  unfold State.clearFault; dsimp only
  exact keepsBut_ite ((keepsBut_setStream _ _).trans (within_setGroupState _ _ _).keeps) (keepsBut_setStream _ _)

theorem keepsBut_setOrders (os : List Order) : KeepsBut may s { s with orders := os } := .of_same rfl rfl rfl rfl rfl rfl rfl

theorem keepsBut_removeOrder (tag : Nat) : KeepsBut may s (s.removeOrder tag) :=
  (keepsBut_setOrders _).trans (within_removeOrder s tag _ rfl).keeps

theorem keepsBut_commit (g : Staging) : KeepsBut may s (s.commit g) := by
  unfold State.commit; dsimp only
  exact keepsBut_ite (.of_same rfl rfl rfl rfl rfl rfl rfl) (.of_same rfl rfl rfl rfl rfl rfl rfl)

theorem keepsBut_driveReset : KeepsBut may s s.driveReset := by
  unfold State.driveReset; dsimp only
  refine KeepsBut.trans (.of_same rfl rfl rfl rfl rfl rfl rfl : KeepsBut may s
    { s with staging := none, resetCommit := s.afterReset, orders := [] }) (Within.keeps ?_)
  exact (within_dissolveAll _ _).trans <| (within_clearSheds _ _).trans <| (within_resetStow _).trans (within_askJudge _)

theorem keepsBut_portResetBlocks (p : Port) : KeepsBut may s (s.portResetBlocks p) := by
  cases p with
  | scheduler => exact .of_same rfl rfl rfl rfl rfl rfl rfl
  | safety => exact .refl s
  | maintenance => exact keepsBut_keepCensusRaised

theorem keepsBut_emptyHolders (p : Port) : KeepsBut may s (s.emptyHolders p) := by
  cases p <;> exact .of_same rfl rfl rfl rfl rfl rfl rfl

/-- A state that differs in its settings, wind and ports alone keeps all but the settings. -/
theorem keepsBut_putSettings {t : State} (hm : may .settings) (h : t = { s with settings := t.settings, wind := t.wind, ports := t.ports }) :
    KeepsBut may s t := by
  rw [h]
  exact { KeepsBut.refl (may := may) s with settings := fun _ => hm }

theorem keepsBut_writeMast (hm : may .settings) (flags : Vector (Option Bool) 6) (s : State) (m : MastId) :
    KeepsBut may s (State.writeMast flags s m) := by
  unfold State.writeMast; split
  · exact .refl s
  · exact keepsBut_ite (.refl s) (((keepsBut_putSettings hm rfl : KeepsBut may s (s.putConfigured m _)).trans
      (keepsBut_setMast _ _)).trans (keepsBut_offerSnapshot _ _))

theorem keepsBut_judgeMast (hm : may .settings) (flags : Vector (Option Bool) 6) (s : State) (m : MastId) :
    KeepsBut may s (State.judgeMast flags s m) := by
  have h := keepsBut_writeMast hm flags s m
  unfold State.judgeMast; dsimp only
  exact keepsBut_ite h (h.trans (within_judgeWeather _).keeps)

theorem keepsBut_takeMasts (hm : may .settings) (flags : Vector (Option Bool) 6) : KeepsBut may s (s.takeMasts flags) :=
  keepsBut_ite ((keepsBut_foldl _ (keepsBut_writeMast hm flags) _ _).trans (within_plainTrigger _).keeps)
    (keepsBut_foldl _ (keepsBut_judgeMast hm flags) _ _)

theorem within_answerWind (s before : State) : Within s (s.answerWind before) :=
  within_ite (.refl s) (within_judgeStaleWrite _ _ _ (within_judgeRelease _))

theorem keepsBut_setDish (d : DishId) (f : Dish → Dish) : KeepsBut may s (s.setDish d f) := .of_same rfl rfl rfl rfl rfl rfl rfl

theorem keepsBut_unframe (d : DishId) : KeepsBut may s (s.unframe d) := .of_same rfl rfl rfl rfl rfl rfl rfl

theorem keepsBut_clearPresent (d : DishId) : KeepsBut may s (s.clearPresent d) := by
  have h : Within s (((zonesOf d).foldl State.cancelZone s).iceAfterCancel d).askScan :=
    (within_foldl _ within_cancelZone _ _).trans <| (within_iceAfterCancel _ _).trans (within_askScan _)
  exact h.keeps.trans <| (keepsBut_setDish _ _).trans <| (keepsBut_unframe _).trans (within_setMark _ _ _).keeps

theorem within_setPresent (s : State) (d : DishId) : Within s (s.setPresent d) := by
  unfold State.setPresent; dsimp only
  exact within_ite ((within_setMotion _ _ _).trans (within_setMark _ _ _)) (within_setMotion _ _ _)

theorem keepsBut_answerPresent (d : DishId) (former : Bool) : KeepsBut may s (s.answerPresent d former) := by
  unfold State.answerPresent; split
  · exact keepsBut_clearPresent _
  · exact (within_setPresent _ _).keeps
  · exact .refl s
  · exact .refl s

theorem keepsBut_writeDish (hm : may .settings) (src : Sender) (d : DishId) (c : DishSettings) :
    KeepsBut may s (s.writeDish src d c) := by
  unfold State.writeDish; dsimp only
  refine keepsBut_ite ((KeepsBut.refl s).answer _ _ _ _) (KeepsBut.answer (KeepsBut.settle ?_) _ _ _ _)
  exact (keepsBut_putSettings hm rfl).trans (keepsBut_answerPresent _ _)

/-- The allowance alone, with what the shared operations then do. -/
theorem keepsBut_putAllowance (hm : may .allowance) (v : Nat) : KeepsBut may s (s.putAllowance v) :=
  { KeepsBut.refl (may := may) s with allowance := fun _ => hm }

theorem within_judgeOverCommit (s : State) (n : Nat) : Within s (s.judgeOverCommit n) :=
  within_ite ((within_putFeeder _ _ (by rfl) (by rfl)).trans (within_raise _ _ _)) (within_judgeRestored _)

theorem keepsBut_shedTo (hm : may .allowance) (v : Nat) : KeepsBut may s (s.shedTo v) :=
  keepsBut_ite ((keepsBut_putAllowance hm v).trans (within_shedHeaters _).keeps) (keepsBut_putAllowance hm v)

theorem within_noteCut (s : State) (lowered : Bool) (n : Nat) : Within s (s.noteCut lowered n) :=
  within_ite (within_raise _ _ _) (.refl _)

theorem keepsBut_takeAllowance (hm : may .allowance) (v : Nat) : KeepsBut may s (s.takeAllowance v) :=
  (keepsBut_shedTo hm v).trans <| Within.keeps <| (within_judgeOverCommit _ _).trans <| (within_noteCut _ _ _).trans <|
    (within_askRound _).trans (within_askScan _)

/-- A change of zones and rotation alone keeps all but the zones' energy. -/
theorem keepsBut_putMelt {t : State} (hm : may .energy) (h : t = { s with melt := t.melt, scanDue := t.scanDue }) : KeepsBut may s t := by
  rw [h]
  exact { KeepsBut.refl (may := may) s with energy := fun _ _ => hm }

theorem keepsBut_addEnergy (hm : may .energy) (s : State) (n : Nat) (z : ZoneId) : KeepsBut may s (s.addEnergy n z) := by
  unfold State.addEnergy; dsimp only
  split <;> exact keepsBut_putMelt hm rfl

theorem keepsBut_setIce (s : State) (d : DishId) : KeepsBut may s (s.setIce d) :=
  keepsBut_ite (.refl s) <| KeepsBut.trans
    (.of_same rfl rfl rfl rfl rfl rfl rfl : KeepsBut may s { s with melt := { s.melt with ice := s.melt.ice.set d true } })
    (within_excludeMember _ _ _).keeps

theorem keepsBut_takeOffer (s : State) (d : DishId) (o : ShedOffer) : KeepsBut may s (s.takeOffer d o) := by
  cases o <;> exact .of_same rfl rfl rfl rfl rfl rfl rfl

theorem keepsBut_meltZones (hm : may .energy) (s : State) (kinds : List ZoneKind) (n : Nat) (ice : Bool) (d : DishId) :
    KeepsBut may s (s.meltZones kinds n ice d) := by
  have h := keepsBut_foldl (may := may) (fun (s : State) k => s.addEnergy n ⟨d, k⟩) (fun s k => keepsBut_addEnergy hm s n ⟨d, k⟩)
    kinds s
  unfold State.meltZones; dsimp only
  exact keepsBut_ite (h.trans (keepsBut_setIce _ _)) h

theorem keepsBut_meltWalk (hm : may .energy) (kinds : List ZoneKind) (n : Nat) (ice shed : Bool) :
    ∀ (ds : List DishId) (s : State), KeepsBut may s (meltWalk kinds n ice shed ds s).1
  | [], s => .refl s
  | _ :: ds, _ => (keepsBut_meltZones hm _ _ _ _ _).trans <| (keepsBut_takeOffer _ _ _).trans
      (keepsBut_meltWalk hm kinds n ice shed ds _)

theorem keepsBut_placeLock (hm : may .entries) (src : Sender) (n : StationId) (d : DishId) (sc : Scope) (tag : Nat) :
    KeepsBut may s (s.placeLock src n d sc tag) := by
  unfold State.placeLock
  refine keepsBut_ite (keepsBut_refuse _ _ _) (keepsBut_ite ((KeepsBut.refl s).answer _ _ _ _) ?_)
  split
  · exact (KeepsBut.refl s).answer _ _ _ _
  · refine KeepsBut.answer (KeepsBut.settle (KeepsBut.trans (t := s.putLock _ _) ?_ (within_answerPlacing _ _ _ _).keeps)) _ _ _ _
    exact { KeepsBut.refl (may := may) s with entries := fun _ => hm }

theorem keepsBut_removeLock (hm : may .entries) (src : Sender) (i : Fin 96) (e : LockEntry) :
    KeepsBut may s (s.removeLock src i e) := by
  unfold State.removeLock; dsimp only
  refine KeepsBut.answer (KeepsBut.settle (KeepsBut.trans (t := s.putLock _ _) ?_ (within_answerRemoval _ _).keeps)) _ _ _ _
  exact { KeepsBut.refl (may := may) s with entries := fun _ => hm }

theorem keepsBut_completeCensus (h : s.locks.census = .incomplete) (n : StationId) : KeepsBut may s (s.completeCensus n) := by
  unfold State.completeCensus; dsimp only
  refine KeepsBut.trans (t := { s with locks := { s.locks with census := .complete n s.locks.seconds } })
    { KeepsBut.refl (may := may) s with census := fun m x e => ?_ } ?_
  · rw [h] at e; cases e
  · exact (keepsBut_setSource _ _).trans ((within_reblockAll _).trans (within_askRound _)).keeps

end
end Sys2Proof.Machine
end

section
/-! Each step of the opcode table keeps the parts that it does not own. -/

namespace Sys2Proof.Machine

/-! ## The steps, one by one -/

section
variable {may : Part → Prop} {s : State}

theorem keepsBut_judgeLoss (d : DishId) : KeepsBut may s (s.judgeLoss d) :=
  (within_ite ((within_loseDish _ _).trans (within_settle _)) (.refl s)).keeps

theorem keepsBut_takeReport (hm : may .entries) (d : DishId) (r : Report) : KeepsBut may s (s.takeReport d r) :=
  (keepsBut_storeReport d r).trans ((withinLocks_takeReport s d r).keeps hm)

theorem keepsBut_closeWindow : KeepsBut may s s.closeWindow := .of_same rfl rfl rfl rfl rfl rfl rfl

theorem keepsBut_countMiss (d : DishId) : KeepsBut may s (s.countMiss d) := .of_same rfl rfl rfl rfl rfl rfl rfl

theorem keepsBut_sendTo (d : DishId) : KeepsBut may s (s.sendTo d) := by
  unfold State.sendTo State.advance; dsimp only
  split <;> exact .of_same rfl rfl rfl rfl rfl rfl rfl

theorem keepsBut_nextFrame (hm : may .frame) : KeepsBut may s s.nextFrame :=
  { KeepsBut.refl (may := may) s with frame := fun _ => hm }

theorem keepsBut_setSeconds (hm : may .seconds) (n : BitVec 32) (k : Nat) :
    KeepsBut may s { s with locks := { s.locks with seconds := n, secondTimer := k } } :=
  { KeepsBut.refl (may := may) s with seconds := fun _ => hm }

theorem keepsBut_restartMeter : KeepsBut may s s.restartMeter := .of_same rfl rfl rfl rfl rfl rfl rfl

theorem keepsBut_setStaging (g : Option Staging) : KeepsBut may s { s with staging := g } := .of_same rfl rfl rfl rfl rfl rfl rfl

theorem keepsBut_takeAttention (src : Sender) : KeepsBut may s (s.takeAttention src) := by
  unfold State.takeAttention; dsimp only; split
  · exact (KeepsBut.refl s).answer _ _ _ _
  · exact ((keepsBut_setSource _ _).trans keepsBut_keepCensusRaised).answer _ _ _ _

end

/-- Every step but power-on reset keeps all parts but those it owns. -/
theorem exec_keeps {i : Instr} {s t : State} (h : exec i s = .next t) (hi : i ≠ .powerOnReset) : KeepsBut i.owns s t := by
  cases i with
  | powerOnReset => exact absurd rfl hi
  | frameStart =>
    exact event_keeps h (KeepsBut.settle ((keepsBut_nextFrame (may := Instr.frameStart.owns) rfl).trans (within_foldl _ within_consume _ _).keeps))
  | commandSend d => exact event_keeps h (keepsBut_ite (keepsBut_sendTo d) (.refl s))
  | validReport d r =>
    exact event_keeps h (keepsBut_ite (keepsBut_closeWindow.trans (keepsBut_takeReport (.inl ⟨d, r, rfl⟩) d r)).settle (.refl s))
  | miss d =>
    exact event_keeps h (keepsBut_ite (keepsBut_closeWindow.trans <| (keepsBut_countMiss d).trans (keepsBut_judgeLoss d)) (.refl s))
  | lossOfDish d => exact event_keeps h (keepsBut_judgeLoss d)
  | loadAckLimit g => exact event_keeps h (keepsBut_ite (within_excludeAll _ _ _ _).keeps.settle (.refl s))
  | arrivalGrace g => exact event_keeps h (keepsBut_ite (within_excludeAll _ _ _ _).keeps.settle (.refl s))
  | orderExpiry tag =>
    exact event_keeps h (keepsBut_ite ((keepsBut_removeOrder tag).trans (within_raise _ _ _).keeps).settle (.refl s))
  | stowMoveTimeout d =>
    exact event_keeps h (keepsBut_ite ((within_faultDish s d).trans (within_markDish _ _ _ _)).keeps.settle (.refl s))
  | shedMoveTimeout d =>
    exact event_keeps h (keepsBut_ite ((within_faultDish s d).trans (within_endShed _ _ _)).keeps.settle (.refl s))
  | admissionRound => exact event_keeps h (within_admissionRound s).keeps.settle
  | poweringScan => exact event_keeps h (within_poweringScan s).keeps
  | mastStalenessExpiry m =>
    refine event_keeps h ?_
    split
    · exact .refl s
    · exact keepsBut_ite ((keepsBut_passTo _).trans (keepsBut_goStale m)).settle (.refl s)
  | holdOffExpiry =>
    refine event_keeps h ?_
    split
    · exact .refl s
    · exact keepsBut_ite ((keepsBut_passTo _).trans (within_enterClear _).keeps).settle (.refl s)
  | meltSlotExpiry z =>
    refine event_keeps h ?_
    split
    · exact .refl s
    · exact keepsBut_ite ((keepsBut_passTo _).trans (within_slotExpired _ z).keeps) (.refl s)
  | meterTimerExpiry =>
    refine event_keeps h (KeepsBut.settle ?_)
    exact (keepsBut_passTo _).trans <| keepsBut_restartMeter.trans (within_foldl _ within_meterZone _ _).keeps
  | secondsCountTick =>
    exact event_keeps h ((keepsBut_passTo _).trans (keepsBut_setSeconds (may := Instr.secondsCountTick.owns) rfl _ _))
  | linkTimeout l =>
    refine event_keeps h ?_
    cases l <;> exact .of_same rfl rfl rfl rfl rfl rfl rfl
  | maintenanceLinkTimeout n =>
    cases h; exact keepsBut_ite (.of_same rfl rfl rfl rfl rfl rfl rfl) (.refl s)
  | fetchResponse src => cases h; exact keepsBut_ite (keepsBut_endTransaction _) (.refl s)
  | unknownRequest src c => cases h; exact keepsBut_ite ((KeepsBut.refl s).putHolder _ _) (.refl s)
  | badFrame src first =>
    cases h
    refine keepsBut_ite ?_ (.refl s)
    split
    · exact keepsBut_ite (keepsBut_endTransaction _) ((KeepsBut.refl s).putHolder _ _)
    · exact ((KeepsBut.refl s).putHolder _ _).trans (.of_same rfl rfl rfl rfl rfl rfl rfl)
  | resetPinAsserted => cases h; exact .of_same rfl rfl rfl rfl rfl rfl rfl
  | openOrder src body =>
    refine serve_keeps h fun f _ => ?_
    split
    · exact keepsBut_refuse _ _ _
    · exact keepsBut_ite ((keepsBut_setStaging _).answer _ _ _ _) (keepsBut_refuse _ _ _)
  | addMembers src body =>
    refine serve_keeps h fun f _ => ?_
    split
    · exact keepsBut_refuse _ _ _
    · split
      · exact keepsBut_refuse _ _ _
      · exact keepsBut_ite (keepsBut_refuse _ _ _) (keepsBut_ite (keepsBut_refuse _ _ _)
          ((keepsBut_setStaging _).answer _ _ _ _))
  | commitOrder src body =>
    refine serve_keeps h fun f _ => ?_
    have he : KeepsBut (Instr.owns (.commitOrder src body)) s s.endResetCommit := .of_same rfl rfl rfl rfl rfl rfl rfl
    dsimp only; split
    · exact he.trans (keepsBut_refuse _ _ _)
    · exact keepsBut_ite (he.trans (keepsBut_refuse _ _ _)) (keepsBut_ite (he.trans (keepsBut_refuse _ _ _))
        (keepsBut_ite (he.trans (keepsBut_refuse _ _ _)) ((he.trans (keepsBut_commit _)).settle.answer _ _ _ _)))
  | cancelOrder src body =>
    exact serve_keeps h fun f _ => keepsBut_ite ((keepsBut_removeOrder _).settle.answer _ _ _ _)
      (keepsBut_ite (keepsBut_refuse _ _ _) (keepsBut_refuse _ _ _))
  | holdGroup src body =>
    refine serve_keeps h fun f _ => keepsBut_onSlot fun g => ?_
    split
    iterate 2 exact (within_hold _ _ _).keeps.settle.answer _ _ _ _
    iterate 2 exact ((within_hold _ _ _).keeps.trans (keepsBut_setStream _ _)).settle.answer _ _ _ _
    · exact (within_setGroupState _ _ _).keeps.answer _ _ _ _
    all_goals exact keepsBut_refuse _ _ _
  | resumeGroup src body =>
    refine serve_keeps h fun f _ => keepsBut_onSlot fun g => ?_
    split
    · exact keepsBut_ite (keepsBut_refuse _ _ _)
        (((within_setGroupState _ _ _).trans (within_askRound _)).keeps.settle.answer _ _ _ _)
    all_goals exact keepsBut_refuse _ _ _
  | releaseGroup src body =>
    refine serve_keeps h fun f _ => keepsBut_onSlot fun g => ?_
    split
    iterate 2 exact (within_releaseBraked _ _).keeps.settle.answer _ _ _ _
    iterate 2 exact (within_endGroup _ _ _).keeps.settle.answer _ _ _ _
    all_goals exact keepsBut_refuse _ _ _
  | abortGroup src body =>
    exact serve_keeps h fun f _ => keepsBut_onSlot fun g =>
      keepsBut_ite (keepsBut_refuse _ _ _) ((within_endGroup _ _ _).keeps.settle.answer _ _ _ _)
  | pushTrack src body =>
    exact serve_keeps h fun f _ => keepsBut_onSlot fun g => keepsBut_ite (keepsBut_refuse _ _ _)
      (keepsBut_onStream ((keepsBut_pushEntries _ _).answer _ _ _ _))
  | flushTrack src body =>
    exact serve_keeps h fun f _ => keepsBut_onSlot fun g => keepsBut_onStream ((keepsBut_flush _).answer _ _ _ _)
  | clearTrackFault src body =>
    exact serve_keeps h fun f _ => keepsBut_onSlot fun g => keepsBut_onStream
      (keepsBut_ite (keepsBut_refuse _ _ _) ((keepsBut_clearFault _).answer _ _ _ _))
  | readGroup src body => exact serve_keeps h fun f _ => keepsBut_onSlot fun g => (KeepsBut.refl s).answer _ _ _ _
  | readQueue src body => exact serve_keeps h fun f _ => (KeepsBut.refl s).answer _ _ _ _
  | windSample src body =>
    refine serve_keeps h fun f _ => ?_
    split
    · exact keepsBut_refuse _ _ _
    · exact (keepsBut_takeSample _ _ _).settle.answer _ _ _ _
  | stowArray src body => exact serve_keeps h fun f _ => (within_plainTrigger s).keeps.settle.answer _ _ _ _
  | releaseStow src body =>
    refine serve_keeps h fun f _ => ?_
    split
    · exact (within_enterClear s).keeps.settle.answer _ _ _ _
    all_goals exact keepsBut_refuse _ _ _
  | resetWeatherSnapshot src body =>
    refine serve_keeps h fun f _ => KeepsBut.answer ?_ _ _ _ _
    have ho : KeepsBut (Instr.owns (.resetWeatherSnapshot src body)) s s.openSnapshot := .of_same rfl rfl rfl rfl rfl rfl rfl
    split
    · exact ho.trans (keepsBut_capture _ _)
    · exact ho
  | readWeather src body => exact serve_keeps h fun f _ => (KeepsBut.refl s).answer _ _ _ _
  | setAllowance src body =>
    refine serve_keeps h fun f hp => keepsBut_ite ((KeepsBut.refl s).answer _ _ _ _)
      ((keepsBut_takeAllowance ?_ _).settle.answer _ _ _ _)
    exact sent_by_safety _ hp
  | setMeltGuard src body =>
    refine serve_keeps h fun f hp => keepsBut_ite ((KeepsBut.refl s).answer _ _ _ _)
      (KeepsBut.answer (KeepsBut.settle (KeepsBut.trans (t := { s with feeder := { s.feeder with guard := f.value } }) ?_
        (within_askRound _).keeps)) _ _ _ _)
    exact { KeepsBut.refl (may := Instr.owns (.setMeltGuard src body)) s with
      guard := fun _ => sent_by_safety _ hp }
  | readFeeder src body => exact serve_keeps h fun f _ => (KeepsBut.refl s).answer _ _ _ _
  | meltOrder src body =>
    refine serve_keeps h fun f hp => ?_
    split
    · exact keepsBut_refuse _ _ _
    · refine keepsBut_ite (keepsBut_refuse _ _ _)
        (((keepsBut_meltWalk ?_ _ _ _ _ _ s).trans (within_askScan _).keeps).settle.answer _ _ _ _)
      exact sent_by_safety _ hp
  | cancelMelt src body =>
    refine serve_keeps h fun f _ => ?_
    split
    · exact keepsBut_refuse _ _ _
    · exact keepsBut_ite (keepsBut_refuse _ _ _)
        (((within_onDishes _ _ _ fun _ _ => within_cancelDish _ _ _).trans (within_askScan _)).keeps.settle.answer _ _ _ _)
  | readMelt src body =>
    refine serve_keeps h fun f _ => keepsBut_ite ((KeepsBut.refl s).answer _ _ _ _) ?_
    split
    · exact (KeepsBut.refl s).answer _ _ _ _
    · exact keepsBut_refuse _ _ _
  | writeConfigDish src body =>
    refine serve_keeps h fun f hp => ?_
    have hm : Instr.owns (.writeConfigDish src body) .settings :=
      sent_by_safety _ hp
    split
    · exact keepsBut_judgeWrite (keepsBut_writeDish hm _ _ _)
    · exact keepsBut_refuseWrite _
  | writeConfigMast src body =>
    refine serve_keeps h fun f hp => keepsBut_judgeWrite ((keepsBut_takeMasts ?_ _).settle.answer _ _ _ _)
    exact sent_by_safety _ hp
  | writeConfigWind src body =>
    refine serve_keeps h fun f hp => keepsBut_judgeWrite
      (((keepsBut_putSettings ?_ rfl).trans (within_answerWind _ _).keeps).settle.answer _ _ _ _)
    exact sent_by_safety _ hp
  | writeConfigTrack src body =>
    refine serve_keeps h fun f hp => keepsBut_judgeWrite ((keepsBut_putSettings ?_ rfl).answer _ _ _ _)
    exact sent_by_safety _ hp
  | writeConfigMelt src body =>
    refine serve_keeps h fun f hp => keepsBut_judgeWrite ((keepsBut_putSettings ?_ rfl).answer _ _ _ _)
    exact sent_by_safety _ hp
  | writeConfigStation src body =>
    refine serve_keeps h fun f hp => keepsBut_judgeWrite ((keepsBut_putSettings ?_ rfl).answer _ _ _ _)
    exact sent_by_safety _ hp
  | readConfig src body =>
    refine serve_keeps h fun f _ => ?_
    split
    · exact keepsBut_refuse _ _ _
    · exact (KeepsBut.refl s).answer _ _ _ _
  | driveReset src body => exact serve_keeps h fun f _ => keepsBut_driveReset.settle.answer _ _ _ _
  | placeLock src body =>
    refine serve_keeps h fun f hp => ?_
    obtain ⟨n, rfl⟩ := port_maintenance (of_decide_eq_true hp)
    have hm : Instr.owns (.placeLock (.station n) body) .entries := .inr ⟨n, .inl rfl⟩
    dsimp only [senderStation]; split
    · split
      · exact keepsBut_refuse _ _ _
      · exact keepsBut_ite (keepsBut_placeLock hm _ _ _ _ _) (keepsBut_refuse _ _ _)
    · exact keepsBut_refuse _ _ _
  | releaseLock src body =>
    refine serve_keeps h fun f hp => ?_
    obtain ⟨n, rfl⟩ := port_maintenance (of_decide_eq_true hp)
    have hm : Instr.owns (.releaseLock (.station n) body) .entries := .inr ⟨n, .inr rfl⟩
    split
    · refine keepsBut_ite ?_ (keepsBut_refuse _ _ _)
      split
      · exact keepsBut_refuse _ _ _
      · split
        · exact keepsBut_refuse _ _ _
        · exact keepsBut_removeLock hm _ _ _
    · exact keepsBut_refuse _ _ _
  | readLocks src body =>
    refine serve_keeps h fun f _ => keepsBut_ite ((KeepsBut.refl s).answer _ _ _ _) ?_
    split
    · exact (KeepsBut.refl s).answer _ _ _ _
    · exact keepsBut_refuse _ _ _
  | censusComplete src body =>
    refine serve_keeps h fun f _ => ?_
    split
    · next hc => exact (keepsBut_completeCensus hc _).settle.answer _ _ _ _
    · exact keepsBut_refuse _ _ _
    · exact .refl s
  | readDish src body =>
    refine serve_keeps h fun f _ => ?_
    split
    · exact (KeepsBut.refl s).answer _ _ _ _
    · exact keepsBut_refuse _ _ _
  | takeAttention src body => exact serve_keeps h fun f _ => keepsBut_takeAttention _
  | endAttention src body =>
    refine serve_keeps h fun f _ => ?_
    split
    · exact keepsBut_refuse _ _ _
    · exact (keepsBut_setSource _ _).answer _ _ _ _
  | setAttentionMask src body =>
    exact serve_keeps h fun f _ => keepsBut_ite (keepsBut_refuse _ _ _) ((keepsBut_maskSources _ _ _ _).answer _ _ _ _)
  | readViolation src body => exact serve_keeps h fun f _ => (keepsBut_setViolation _ _).answer _ _ _ _
  | portReset src body =>
    exact serve_keeps h fun f _ => KeepsBut.answer ((keepsBut_foldl _ (fun _ _ => keepsBut_setSource _ _) _ _).trans <|
      (keepsBut_emptyHolders _).trans (keepsBut_portResetBlocks _)) _ _ _ _

/-- Settles O60: each step keeps all parts but those it owns. -/
theorem onlyOwnersChange : Obligations.OnlyOwnersChange := by
  intro i s t h hi
  have k := exec_keeps h hi
  exact ⟨k.settings, k.allowance, k.guard, k.frame, k.seconds, k.entries, k.census, k.energy, k.waiting⟩

end Sys2Proof.Machine
end

section
/-! The lists and counts of which Within does not speak: what every shared operation of the blocks keeps of them. -/

namespace Sys2Proof.Machine

/-! ## Orderly: lists without repetition, counts within their capacity -/

/-- The part of a state that its lists and counts stand in. -/
structure Lists where
  groups : Vector Group 4
  orders : List Order
  coastLimit : Nat
  streams : Vector Stream 4
  queue : List DishId
  trips : List MastId
  shedList : List ShedEntry
  rotation : List ZoneId
  zones : Vector DishZones 48

/-- The lists and counts of a state. -/
def State.lists (s : State) : Lists :=
  { groups := s.groups, orders := s.orders, coastLimit := s.settings.track.coastLimit, streams := s.streams
    queue := s.stow.queue, trips := s.stow.tripOrder, shedList := s.melt.shedList, rotation := s.melt.rotation
    zones := s.melt.zones }

/-- Member lists of orders and groups within 48 (R36, R45), coast counters within 40 (R75), no dish, mast or zone twice in a list (R98,
R128, R138), carries within 9 (R127). -/
structure Lists.Orderly (l : Lists) : Prop where
  grouped : ∀ g : SlotId, l.groups[g].members.length ≤ 48
  ordered : ∀ o ∈ l.orders, o.members.length ≤ 48
  limit : l.coastLimit ≤ 40
  coast : ∀ g : SlotId, l.streams[g].coast ≤ 40
  queue : l.queue.Nodup
  trips : l.trips.Nodup
  shedList : (l.shedList.map (·.dish)).Nodup
  rotation : l.rotation.Nodup
  carry : ∀ z : ZoneId, (l.zones[z.dish].get z.kind).carry ≤ 9

/-- The lists and counts of a state are orderly. -/
abbrev State.Orderly (s : State) : Prop := s.lists.Orderly

namespace State.Orderly

variable {s t : State} {d : DishId} {g : SlotId} {z : ZoneId}

theorem ite {c : Prop} [Decidable c] (ht : t.Orderly) (hs : s.Orderly) : (if c then t else s).Orderly := by
  split <;> assumption

theorem foldl (h : s.Orderly) {α : Type} {f : State → α → State} (hf : ∀ s x, s.Orderly → (f s x).Orderly) (xs : List α) :
    (xs.foldl f s).Orderly := by
  induction xs generalizing s with
  | nil => exact h
  | cons x xs ih => exact ih (hf s x h)

/-! ## The updates that touch a list or a count -/

theorem setGroup (h : s.Orderly) {f : Group → Group} (hf : (f (s.group g)).members.length ≤ 48) : (s.setGroup g f).Orderly :=
  { h with
    grouped := fun k => by
      change ((s.setGroup g f).group k).members.length ≤ 48
      rw [setGroup_group]; split
      · next e => subst e; exact hf
      · exact h.grouped k }

/-- A change of a group record that leaves the member list as long as it was. -/
theorem setGroupOf (h : s.Orderly) {f : Group → Group} (hf : ∀ x, (f x).members.length = x.members.length) :
    (s.setGroup g f).Orderly := h.setGroup (by rw [hf]; exact h.grouped g)

theorem setStream (h : s.Orderly) {f : Stream → Stream} (hf : (f (s.stream g)).coast ≤ 40) : (s.setStream g f).Orderly :=
  { h with
    coast := fun k => by
      change ((s.setStream g f).stream k).coast ≤ 40
      rw [setStream_stream]; split
      · next e => subst e; exact hf
      · exact h.coast k }

theorem setZone (h : s.Orderly) {f : Zone → Zone} (hf : ∀ x : Zone, x.carry ≤ 9 → (f x).carry ≤ 9) : (s.setZone z f).Orderly :=
  { h with
    carry := fun w => by
      change ((s.setZone z f).zone w).carry ≤ 9
      rw [setZone_zone]; split
      · exact hf _ (h.carry w)
      · exact h.carry w }

theorem putQueue (h : s.Orderly) {q : List DishId} (hq : q.Nodup) : { s with stow := { s.stow with queue := q } }.Orderly :=
  { h with queue := hq }

theorem putTrips (h : s.Orderly) {ms : List MastId} (hm : ms.Nodup) :
    { s with stow := { s.stow with tripOrder := ms } }.Orderly := { h with trips := hm }

theorem putRotation (h : s.Orderly) {zs : List ZoneId} (hz : zs.Nodup) :
    { s with melt := { s.melt with rotation := zs } }.Orderly := { h with rotation := hz }

theorem askRound (h : s.Orderly) : s.askRound.Orderly := h

theorem askScan (h : s.Orderly) : s.askScan.Orderly := h

theorem askJudge (h : s.Orderly) : s.askJudge.Orderly := h

theorem setDish (h : s.Orderly) {f : Dish → Dish} : (s.setDish d f).Orderly := h

theorem writeHoldBrake (h : s.Orderly) : (s.writeHoldBrake d).Orderly := h

theorem raise (h : s.Orderly) {x : Source} {w : Detail} : (s.raise x w).Orderly := h

/-! ## Slots, reservations, attention -/

theorem judgeRestored (h : s.Orderly) : s.judgeRestored.Orderly := by
  unfold State.judgeRestored; split
  · exact h
  · exact ite h h

theorem enterReservation (h : s.Orderly) {n : Nat} {p : Purpose} : (s.enterReservation d n p).Orderly := ite h h

theorem releaseReservation (h : s.Orderly) : (s.releaseReservation d).Orderly := by
  unfold State.releaseReservation; split <;> exact h

theorem limitReservation (h : s.Orderly) {n : Nat} : (s.limitReservation d n).Orderly := by
  unfold State.limitReservation; split
  · exact h
  · exact ite h h

theorem writeStop (h : s.Orderly) : (s.writeStop d).Orderly := releaseReservation (s := s.putSlot d .stop) h

theorem writeLoad (h : s.Orderly) {az el : AxisLoad} {n : Nat} : (s.writeLoad d az el n).Orderly := ite h h

theorem writeGo (h : s.Orderly) {f : Frame} : (s.writeGo d f).Orderly := ite h h

theorem writeTrackStep (h : s.Orderly) {az el : Int} : (s.writeTrackStep d az el).Orderly := ite h h

theorem stopDish (h : s.Orderly) : (s.stopDish d).Orderly := h.writeStop

theorem faultDish (h : s.Orderly) : (s.faultDish d).Orderly := h.writeStop

theorem raiseConflict (h : s.Orderly) {k : ConflictKind} : (s.raiseConflict d k).Orderly := by
  unfold State.raiseConflict; split <;> exact h

/-! ## Heaters -/

theorem chargeZone (h : s.Orderly) : (s.chargeZone z).Orderly :=
  h.setZone fun x hx => by
    unfold Zone.chargeAt; split
    · exact Nat.le_of_lt_succ (Nat.mod_lt _ (by decide))
    · exact hx

theorem cutPower (h : s.Orderly) {st : ZoneState} : (s.cutPower z st).Orderly :=
  setZone (s := s.leavePowerOrder z) h fun _ hx => hx

theorem leaveRotation (h : s.Orderly) : (s.leaveRotation z).Orderly := h.putRotation (h.rotation.filter _)

theorem retireZone (h : s.Orderly) : (s.retireZone z).Orderly := (h.setZone fun _ _ => Nat.zero_le _).leaveRotation

theorem clearIce (h : s.Orderly) : (s.clearIce d).Orderly := h

theorem completeZone (h : s.Orderly) : (s.completeZone z).Orderly := by
  unfold State.completeZone; dsimp only
  exact ite h.retireZone.clearIce.raise h.retireZone

theorem unpower (h : s.Orderly) {st : ZoneState} : (s.unpower z st).Orderly := by
  unfold State.unpower; dsimp only
  exact ite h.chargeZone.cutPower.completeZone h.chargeZone.cutPower

theorem reblockZone (h : s.Orderly) : (s.reblockZone z).Orderly := by
  unfold State.reblockZone; split
  · exact h
  · exact ite h.unpower.askScan h
  · exact ite (askScan (h.setZone fun _ hx => hx)) h
  · exact ite h (askScan (h.setZone fun _ hx => hx))

theorem reblockDish (h : s.Orderly) : (s.reblockDish d).Orderly := by
  unfold State.reblockDish
  exact h.foldl (fun _ _ hs => hs.reblockZone) _

theorem answerBlock (h : s.Orderly) {b : Bool} : (s.answerBlock d b).Orderly := ite h.reblockDish.askScan h.reblockDish

theorem reblockAll (h : s.Orderly) : s.reblockAll.Orderly := by
  unfold State.reblockAll
  exact (h.foldl (fun _ _ hs => hs.reblockZone) _).askScan

theorem powerZone (h : s.Orderly) {p : Nat} : (s.powerZone z p).Orderly :=
  setZone (s := { s with feeder := { s.feeder with powerOrder := s.feeder.powerOrder ++ [PoweredZone.mk z p] } }) h
    fun _ hx => hx

theorem scanWalk (zs : List ZoneId) (h : s.Orderly) : (Machine.scanWalk zs s).Orderly := by
  induction zs generalizing s with
  | nil => exact h
  | cons z zs ih =>
    unfold Machine.scanWalk; split
    · exact ite (ih h.powerZone) h
    all_goals exact ih h

theorem poweringScan (h : s.Orderly) : s.poweringScan.Orderly := h.scanWalk _

theorem shedWalk (xs : List PoweredZone) (h : s.Orderly) : (Machine.shedWalk xs s).Orderly := by
  induction xs generalizing s with
  | nil => exact h
  | cons x xs ih => exact ite h (ih h.unpower)

theorem shedHeaters (h : s.Orderly) : s.shedHeaters.Orderly := h.shedWalk _

theorem cancelZone (h : s.Orderly) : (s.cancelZone z).Orderly := by
  unfold State.cancelZone; split
  · exact h
  · exact retireZone (s := s.leavePowerOrder z) h
  · exact h.retireZone
  · exact h.retireZone

theorem iceAfterCancel (h : s.Orderly) : (s.iceAfterCancel d).Orderly := ite h h

/-! ## Stow Controller -/

theorem setMark (h : s.Orderly) {m : StowMark} : (s.setMark d m).Orderly := h

theorem setMove (h : s.Orderly) {m : Option StowMove} : (s.setMove d m).Orderly := h

theorem setStowState (h : s.Orderly) {x : StowState} : (s.setStowState x).Orderly := ite h h

theorem enterCalmWait (h : s.Orderly) : s.enterCalmWait.Orderly :=
  setStowState (s := { s with stow := { s.stow with holdOff := some (s.clock + s.settings.wind.holdOff * 1000) } }) h

theorem checkStowedHold (h : s.Orderly) : s.checkStowedHold.Orderly := by
  unfold State.checkStowedHold; dsimp only
  exact ite (ite h.setStowState.reblockAll.enterCalmWait h.setStowState.reblockAll) h

theorem unqueue (h : s.Orderly) : (s.unqueue d).Orderly := ite (askRound (h.putQueue (h.queue.filter _))) h

theorem joinQueue (h : s.Orderly) : (s.joinQueue d).Orderly := by
  have hq : (if s.queued d then s.stow.queue else s.stow.queue ++ [d]).Nodup := by
    split
    · exact h.queue
    · next hn =>
      refine h.queue.append (List.nodup_singleton d) (List.disjoint_singleton.2 fun hm => hn ?_)
      exact List.contains_iff_mem.2 hm
  unfold State.joinQueue; dsimp only
  exact ite (raiseConflict (askRound (h.putQueue hq))) (askRound (h.putQueue hq))

theorem rejoinTail (h : s.Orderly) : (s.rejoinTail d).Orderly := by
  unfold State.rejoinTail; dsimp only
  exact ite h.setMark.joinQueue.setStowState.reblockAll h.setMark.joinQueue

theorem rejoinBlocked (h : s.Orderly) : (s.rejoinBlocked d).Orderly := by
  unfold State.rejoinBlocked; split
  · split
    iterate 3 exact h
    all_goals exact h.rejoinTail
  · exact h

theorem rejoinUnreachable (h : s.Orderly) : (s.rejoinUnreachable d).Orderly := ite (ite h h.rejoinTail) h

theorem rejoinAll (h : s.Orderly) : s.rejoinAll.Orderly := by
  unfold State.rejoinAll
  exact h.foldl (fun _ _ hs => hs.rejoinBlocked.rejoinUnreachable) _

theorem enterIdle (h : s.Orderly) : (s.enterIdle d).Orderly := by
  unfold State.enterIdle; dsimp only
  exact rejoinUnreachable (askRound (ite h h))

theorem markDish (h : s.Orderly) {m : StowMark} {w : Detail} : (s.markDish d m w).Orderly :=
  h.unqueue.setMove.setMark.raise.checkStowedHold

theorem stowOnFault (h : s.Orderly) {p : Motion} : (s.stowOnFault d p).Orderly := ite h (ite h.markDish (ite h.markDish h))

theorem stowOnLoss (h : s.Orderly) {p : Motion} : (s.stowOnLoss d p).Orderly := ite h (ite h.markDish h)

theorem stowOnLocked (h : s.Orderly) : (s.stowOnLocked d).Orderly := ite h.markDish h

theorem buildDish (h : s.Orderly) : (s.buildDish d).Orderly := ite h (ite h (ite h (ite h (ite h.joinQueue h))))

end State.Orderly

/-! ## Ranking of the Stow Queue -/

theorem insertBy_perm {α : Type} (before : α → α → Bool) (x : α) : ∀ ys : List α, (insertBy before x ys).Perm (x :: ys)
  | [] => .refl _
  | y :: ys => by
    unfold insertBy; split
    · exact .refl _
    · exact ((insertBy_perm before x ys).cons y).trans (.swap x y ys)

theorem sortBy_perm {α : Type} (before : α → α → Bool) : ∀ xs : List α, (sortBy before xs).Perm xs
  | [] => .refl _
  | x :: xs => (insertBy_perm before x _).trans ((sortBy_perm before xs).cons x)

section
variable {s : State} {m : MastId} {ds : List DishId} {d : DishId}

theorem mem_mastGroup : d ∈ s.mastGroup m ds ↔ d ∈ ds ∧ (s.cfg d).mast = m := by
  rw [State.mastGroup, (sortBy_perm _ _).mem_iff, List.mem_filter, decide_eq_true_eq]

theorem mastGroup_nodup (h : ds.Nodup) : (s.mastGroup m ds).Nodup := (sortBy_perm _ _).nodup_iff.2 (h.filter _)

/-- The order of the mast groups names every mast once. -/
theorem mastOrder_nodup (h : s.stow.tripOrder.Nodup) : s.mastOrder.Nodup := by
  have hrest : (allMasts.filter fun m => !s.stow.tripOrder.contains m).Nodup := (List.nodup_finRange 6).filter _
  have hsort : (sortBy s.gustBefore ((allMasts.filter fun m => !s.stow.tripOrder.contains m).filter fun m =>
      !s.silentMast m)).Nodup := (sortBy_perm _ _).nodup_iff.2 (hrest.filter _)
  unfold State.mastOrder; dsimp only
  refine (h.append (hrest.filter _) fun m h1 h2 => ?_).append hsort fun m h1 h2 => ?_
  · simp [h1] at h2
  · rw [(sortBy_perm _ _).mem_iff] at h2
    rcases List.mem_append.1 h1 with h1 | h1
    · simp [h1] at h2
    · simp only [List.mem_filter, Bool.not_eq_true'] at h1 h2
      rw [h1.2] at h2; cases h2.2

theorem rankQueue_nodup (ht : s.stow.tripOrder.Nodup) (h : ds.Nodup) : (s.rankQueue ds).Nodup := by
  refine List.nodup_flatMap.2 ⟨fun m _ => mastGroup_nodup h, (mastOrder_nodup ht).imp fun {a b} hab d h1 h2 => hab ?_⟩
  rw [← (mem_mastGroup.1 h1).2, ← (mem_mastGroup.1 h2).2]

theorem splitAfterLast_append (p : DishId → Bool) (ds : List DishId) :
    (splitAfterLast p ds).1 ++ (splitAfterLast p ds).2 = ds := by
  have hb : (ds.reverse.takeWhile fun d => !p d).reverse <:+ ds := by
    have := (List.takeWhile_prefix (l := ds.reverse) fun d => !p d).reverse
    rwa [List.reverse_reverse] at this
  obtain ⟨front, hf⟩ := hb
  unfold splitAfterLast; dsimp only
  conv_rhs => rw [← hf]
  congr 1
  have hl := congrArg List.length hf
  rw [List.length_append] at hl
  rw [← hl, Nat.add_sub_cancel]
  conv_lhs => rw [← hf]
  exact List.take_left

/-- A mast's dishes set down between two parts of the others leave every dish once. -/
theorem reranked_nodup {p : DishId → Bool} (h : ds.Nodup) :
    ((splitAfterLast p (ds.filter fun d => decide ((s.cfg d).mast ≠ m))).1 ++ s.mastGroup m ds
      ++ (splitAfterLast p (ds.filter fun d => decide ((s.cfg d).mast ≠ m))).2).Nodup := by
  have hperm := List.perm_append_comm (l₁ := (splitAfterLast p (ds.filter fun d => decide ((s.cfg d).mast ≠ m))).1)
    (l₂ := s.mastGroup m ds)
  refine (hperm.append_right _).nodup_iff.2 ?_
  rw [List.append_assoc, splitAfterLast_append]
  refine (mastGroup_nodup h).append (h.filter _) fun d h1 h2 => ?_
  exact of_decide_eq_true (List.mem_filter.1 h2).2 (mem_mastGroup.1 h1).2

end

namespace State.Orderly

variable {s t : State} {d : DishId} {g : SlotId} {z : ZoneId}

theorem buildQueue (h : s.Orderly) : s.buildQueue.Orderly := by
  have h0 : { s with stow := { s.stow with queue := [], marks := Vector.replicate 48 .none } }.Orderly :=
    { h with queue := List.nodup_nil }
  have h1 := h0.foldl (f := State.buildDish) (fun _ _ hs => hs.buildDish) allDishes
  generalize hu : allDishes.foldl State.buildDish _ = u at h1
  unfold State.buildQueue; dsimp only
  rw [hu]
  exact askRound (h1.putQueue (rankQueue_nodup h1.trips h1.queue))

theorem rerank (h : s.Orderly) {m : MastId} : (s.rerank m).Orderly := by
  unfold State.rerank; dsimp only
  exact askRound (h.putQueue (reranked_nodup h.queue))

theorem judgeWatch (h : s.Orderly) : s.judgeWatch.Orderly := by
  unfold State.judgeWatch; split
  · exact ite h.setStowState h
  · exact ite h h.setStowState
  all_goals exact h

theorem judgeRelease (h : s.Orderly) : s.judgeRelease.Orderly := by
  unfold State.judgeRelease; split
  · exact ite h.enterCalmWait h
  · exact ite h (rejoinAll (setStowState (s := { s with stow := { s.stow with holdOff := none } }) h))
  all_goals exact h

theorem judgeWeather (h : s.Orderly) : s.judgeWeather.Orderly := h.judgeRelease.judgeWatch

theorem enterClear (h : s.Orderly) : s.enterClear.Orderly := by
  have h1 : (allDishes.foldl (fun s d => if (s.dish d).motion = .stowed then s.enterIdle d else s) s).Orderly :=
    h.foldl (fun _ _ hs => ite hs.enterIdle hs) _
  generalize hu : allDishes.foldl (fun s d => if (s.dish d).motion = .stowed then s.enterIdle d else s) s = u at h1
  have h2 : { u with stow := { u.stow with marks := Vector.replicate 48 .none, tripOrder := [], holdOff := none } }.Orderly :=
    { h1 with trips := List.nodup_nil }
  unfold State.enterClear; dsimp only
  rw [hu]
  exact judgeWatch (s := State.askRound _) h2.setStowState

/-! ## Groups -/

theorem setMember (h : s.Orderly) {f : Member → Member} : (s.setMember g d f).Orderly :=
  h.setGroupOf fun _ => List.length_map _

theorem setGroupState (h : s.Orderly) {x : GroupState} : (s.setGroupState g x).Orderly := h.setGroupOf fun _ => rfl

theorem onDishes (h : s.Orderly) {f : State → DishId → State} {ds : List DishId}
    (hf : ∀ s d, s.Orderly → (f s d).Orderly) : (s.onDishes ds f).Orderly := h.foldl hf ds

/-- A change of a stream that leaves its coast counter or sets it to 0. -/
theorem setStreamOf (h : s.Orderly) {f : Stream → Stream} (hf : ∀ x : Stream, x.coast ≤ 40 → (f x).coast ≤ 40) :
    (s.setStream g f).Orderly := h.setStream (hf _ (h.coast g))

theorem freeSlot (h : s.Orderly) {r : GroupResult} : (s.freeSlot g r).Orderly := by
  refine askRound (setStreamOf (h.setGroupOf ?_) fun _ _ => Nat.zero_le _)
  exact fun _ => rfl

theorem raiseArrived (h : s.Orderly) {x : GroupState} : (s.raiseArrived g x).Orderly := h

theorem passPositioned (h : s.Orderly) : (s.passPositioned g).Orderly := by
  have h1 : (s.onDishes (s.group g).activeDishes State.writeHoldBrake).Orderly := h.onDishes fun _ _ hs => hs.writeHoldBrake
  exact (h1.onDishes (f := State.releaseReservation) fun _ _ hs => hs.releaseReservation).setGroupState.raiseArrived

theorem passTracking (h : s.Orderly) : (s.passTracking g).Orderly := by
  unfold State.passTracking; dsimp only
  have h1 := h.onDishes (f := fun s d => s.limitReservation d (s.trackSum d)) (ds := (s.group g).activeDishes)
    fun _ _ hs => hs.limitReservation
  exact (h1.setStreamOf fun _ _ => Nat.zero_le _).setGroupState.raiseArrived

theorem passOnArrival (h : s.Orderly) : (s.passOnArrival g).Orderly := by
  unfold State.passOnArrival; split
  · exact h.passPositioned
  · exact h.passTracking

theorem judgeStart (h : s.Orderly) : (s.judgeStart g).Orderly :=
  ite ((h.onDishes fun _ _ hs => hs.writeGo).setGroupOf fun _ => rfl) h

theorem judgeGroup (h : s.Orderly) : (s.judgeGroup g).Orderly := by
  unfold State.judgeGroup; split
  · exact h.judgeStart
  · exact ite h.passOnArrival h
  · exact ite h.setGroupState h
  all_goals exact h

theorem stopUnlessLost (h : s.Orderly) : (s.stopUnlessLost d).Orderly := ite h h.stopDish

theorem afterExclusion (h : s.Orderly) : (s.afterExclusion g).Orderly := ite h.freeSlot h.judgeGroup

theorem exclude (h : s.Orderly) {w : ExclReason} : (s.exclude g d w).Orderly :=
  h.setMember.setDish.stopUnlessLost.afterExclusion

theorem excludeMember (h : s.Orderly) {w : ExclReason} : (s.excludeMember d w).Orderly := by
  unfold State.excludeMember; split
  · exact h
  · exact h.exclude

theorem endGroup (h : s.Orderly) {r : GroupResult} : (s.endGroup g r).Orderly :=
  (h.onDishes (f := fun s d => (s.leaveGroup d).stopUnlessLost d) fun _ _ hs => hs.setDish.stopUnlessLost).freeSlot

theorem dissolve (h : s.Orderly) {r : GroupResult} : (State.dissolve r s g).Orderly := ite h h.endGroup.raise

theorem dissolveAll (h : s.Orderly) {r : GroupResult} : (s.dissolveAll r).Orderly := by
  unfold State.dissolveAll
  exact h.foldl (fun _ _ hs => hs.dissolve) _

/-! ## Shed moves and stow triggers -/

theorem unlistShed (h : s.Orderly) : (s.unlistShed d).Orderly :=
  { h with shedList := h.shedList.sublist (List.filter_sublist.map _) }

theorem skipShed (h : s.Orderly) : (s.skipShed d).Orderly := ite h.unlistShed h

theorem stopShed (h : s.Orderly) {r : ShedResult} : (s.stopShed d r).Orderly := ite h.stopDish h

theorem clearSheds (h : s.Orderly) {r : ShedResult} : (s.clearSheds r).Orderly :=
  (h.onDishes (f := fun s d => s.stopShed d r) fun _ _ hs => hs.stopShed).onDishes fun _ _ hs => hs.skipShed

theorem enterActive (h : s.Orderly) : s.enterActive.Orderly := by
  have h1 : ((s.dissolveAll .stowAbort).clearSheds .aborted).Orderly := h.dissolveAll.clearSheds
  generalize hu : (s.dissolveAll .stowAbort).clearSheds .aborted = u at h1
  unfold State.enterActive; dsimp only
  rw [hu]
  exact (setStowState (s := { u with stow := { u.stow with holdOff := none } }) h1).reblockAll.buildQueue

theorem noteTripOrder (h : s.Orderly) {m : MastId} : (s.noteTripOrder m).Orderly := by
  unfold State.noteTripOrder; split
  · exact h
  · next hn =>
    refine h.putTrips (h.trips.append (List.nodup_singleton m) (List.disjoint_singleton.2 fun hm => hn ?_))
    exact List.contains_iff_mem.2 hm

theorem tripTrigger (h : s.Orderly) {m : MastId} : (s.tripTrigger m).Orderly := by
  unfold State.tripTrigger; split
  · exact ite h h.noteTripOrder.rerank
  all_goals exact h.noteTripOrder.enterActive

theorem plainTrigger (h : s.Orderly) : s.plainTrigger.Orderly := ite h h.enterActive

/-! ## Rounds -/

theorem conflictAtStow (h : s.Orderly) : (s.conflictAtStow d).Orderly := ite h.raiseConflict h

theorem admitStow (h : s.Orderly) {p : MovePlan} : (s.admitStow d p).Orderly := by
  have h1 : ((s.unqueue d).conflictAtStow d).Orderly := h.unqueue.conflictAtStow
  exact ite h1 h1.enterReservation.shedHeaters.writeLoad

theorem noteFloor (h : s.Orderly) {p : MovePlan} : (s.noteFloor d p).Orderly := ite h h

theorem stowWalk (ds : List DishId) (h : s.Orderly) : (Machine.stowWalk ds s).state.Orderly := by
  induction ds generalizing s with
  | nil => exact h
  | cons d ds ih =>
    unfold Machine.stowWalk; dsimp only; split
    · exact ih h
    · split
      · exact ih h.unqueue
      · split
        · exact ih h.admitStow
        · split
          · exact h
          · exact h.admitStow.noteFloor

theorem stowTurn (h : s.Orderly) : s.stowTurn.state.Orderly := by
  unfold State.stowTurn; split
  · exact (h.stowWalk _).checkStowedHold
  · exact h

theorem loadMembers (h : s.Orderly) : (s.loadMembers g).Orderly := by
  unfold State.loadMembers
  refine h.foldl (fun _ _ hs => ?_) _
  split
  · exact hs.writeLoad
  · exact hs

theorem launch (h : s.Orderly) : (s.launch g).Orderly := ite h.passOnArrival (h.loadMembers.setGroupOf fun _ => rfl)

theorem enterGroup (h : s.Orderly) {draws : List (DishId × Nat)} : (s.enterGroup draws).Orderly :=
  h.foldl (fun _ _ hs => hs.enterReservation) _

theorem resumeTurn (h : s.Orderly) : (s.resumeTurn g).state.Orderly := by
  unfold State.resumeTurn; split
  · split
    · dsimp only; split
      · exact setGroupOf h.enterGroup.shedHeaters fun _ => rfl
      · exact h
    all_goals
      dsimp only; split
      · exact launch (setGroup h.enterGroup.shedHeaters (by rw [List.length_map]; exact h.grouped g))
      · exact h
  · exact h

theorem resumeWalk (gs : List SlotId) (h : s.Orderly) : (Machine.resumeWalk gs s).state.Orderly := by
  induction gs generalizing s with
  | nil => exact h
  | cons g gs ih =>
    unfold Machine.resumeWalk; dsimp only; split
    · exact h.resumeTurn
    · exact ih h.resumeTurn

theorem putOrders (h : s.Orderly) {os : List Order} (ho : ∀ o ∈ os, o.members.length ≤ 48) : { s with orders := os }.Orderly :=
  { h with ordered := ho }

theorem tailOrders (h : s.Orderly) : { s with orders := s.orders.tail }.Orderly :=
  h.putOrders fun o ho => h.ordered o (List.mem_of_mem_tail ho)

theorem admitOrder (h : s.Orderly) {o : Order} (ho : o.members.length ≤ 48) {n : Nat} {draws : List (DishId × Nat)} :
    (s.admitOrder o g n draws).Orderly := by
  unfold State.admitOrder; dsimp only
  refine launch (shedHeaters (enterGroup (onDishes ?_ fun _ _ hs => hs.setDish)))
  exact setGroup (h.tailOrders.setStreamOf fun _ _ => Nat.zero_le _) (by rw [List.length_map]; exact ho)

theorem orderWalk (os : List Order) (h : s.Orderly) (ho : ∀ o ∈ os, o.members.length ≤ 48) :
    (Machine.orderWalk os s).state.Orderly := by
  induction os generalizing s with
  | nil => exact h
  | cons o os ih =>
    have hos : ∀ x ∈ os, x.members.length ≤ 48 := fun x hx => ho x (List.mem_cons_of_mem _ hx)
    unfold Machine.orderWalk; split
    · exact h
    · split
      · exact h
      · split
        · exact h
        · split
          · exact ih h.tailOrders hos
          · dsimp only; split
            · exact ih (h.admitOrder (ho o List.mem_cons_self)) hos
            · exact h

theorem admitShed (h : s.Orderly) {p : MovePlan} : (s.admitShed d p).Orderly := by
  have h1 : (s.unlistShed d).Orderly := h.unlistShed
  exact ite h1 h1.enterReservation.shedHeaters.writeLoad

theorem shedListWalk (es : List ShedEntry) (h : s.Orderly) : (Machine.shedListWalk es s).state.Orderly := by
  induction es generalizing s with
  | nil => exact h
  | cons e es ih =>
    unfold Machine.shedListWalk; split
    · exact h
    · split
      · exact ih h.unlistShed
      · dsimp only; split
        · exact ih h.admitShed
        · exact h

theorem admissionRound (h : s.Orderly) : s.admissionRound.Orderly := by
  have h1 := h.stowTurn
  unfold State.admissionRound; dsimp only; split
  · exact h1
  · have h2 := h1.resumeWalk allSlots
    split
    · exact h2
    · have h3 := h2.orderWalk _ h2.ordered
      split
      · exact h3
      · exact h3.shedListWalk _

theorem settleFuel (n : Nat) (h : s.Orderly) : (Machine.settleFuel n s).Orderly := by
  induction n generalizing s with
  | zero => exact h
  | succ n ih =>
    refine ite (ih (judgeRestored ?_)) (ite (ih (admissionRound ?_)) (ite (ih (poweringScan ?_)) h)) <;> exact h

theorem settle (h : s.Orderly) : s.settle.Orderly := h.settleFuel _

/-! ## Frame start -/

theorem writeSteps (h : s.Orderly) {az el : Int} : (s.writeSteps g az el).Orderly := h.onDishes fun _ _ hs => hs.writeTrackStep

theorem starve (h : s.Orderly) {c : StarveCause} : (s.starve g c).Orderly := by
  refine raise (writeSteps (setGroupState (h.setStreamOf ?_)))
  exact fun _ hx => hx

theorem coastStep (h : s.Orderly) : (s.coastStep g).Orderly := by
  unfold State.coastStep; dsimp only; split
  · next hc =>
    split
    · refine writeSteps (setStream h ?_)
      have hlim : s.settings.track.coastLimit ≤ 40 := h.limit
      dsimp only; omega
    · exact h.starve
  · exact h.starve

theorem passFinish (h : s.Orderly) : (s.passFinish g).Orderly := h.passPositioned.setStreamOf fun _ hx => hx

theorem judgeLow (h : s.Orderly) {n : Nat} : (s.judgeLow g n).Orderly := by
  refine ite (raise (h.setStreamOf ?_)) h
  exact fun _ hx => hx

theorem lockEntry (h : s.Orderly) {e : TrackEntry} {f : LimitFailure} : (s.lockEntry g e f).Orderly := by
  refine raise (setGroupState (h.setStreamOf ?_))
  exact fun _ hx => hx

theorem passEntry (h : s.Orderly) {e : TrackEntry} {rest : List TrackEntry} : (s.passEntry g e rest).Orderly :=
  judgeLow (writeSteps (h.setStreamOf fun _ _ => Nat.zero_le _))

theorem consume (h : s.Orderly) : (s.consume g).Orderly := by
  unfold State.consume; dsimp only; split
  · split
    · exact h.passFinish
    · split
      · exact h.setGroupState
      · split
        · split
          · exact h.passEntry
          · exact h.lockEntry
        · exact h.coastStep
  · exact ite h.writeSteps h
  all_goals exact h

end State.Orderly

end Sys2Proof.Machine
end

section
/-! Ranges and capacities: what the operations of each step keep of them (R1 and the capacities of WithinCapacity). -/

namespace Sys2Proof.Machine

namespace State.Orderly

variable {s t : State} {d : DishId} {g : SlotId} {z : ZoneId}

/-! ## Reports and losses -/

theorem failShed (h : s.Orderly) {p : Motion} : (s.failShed d p).Orderly := ite h h

theorem faultByReport (h : s.Orderly) : (s.faultByReport d).Orderly :=
  h.faultDish.excludeMember.stowOnFault.failShed.answerBlock

theorem setMotion (h : s.Orderly) {m : Motion} : (s.setMotion d m).Orderly := h

theorem loseDish (h : s.Orderly) : (s.loseDish d).Orderly := by
  unfold State.loseDish; dsimp only
  exact h.writeStop.setMotion.excludeMember.stowOnLoss.failShed.answerBlock

theorem applyAt (h : s.Orderly) {p : Fin 96} : (State.applyAt d s p).Orderly := by
  unfold State.applyAt; split
  · exact h
  · exact ite h h

theorem applyPending (h : s.Orderly) : (s.applyPending d).Orderly := by
  have h1 := h.foldl (f := State.applyAt d) (fun _ _ hs => hs.applyAt) lockPositions
  generalize hu : lockPositions.foldl (State.applyAt d) s = u at h1
  unfold State.applyPending; dsimp only
  rw [hu]
  exact askRound (ite h1 h1)

theorem lockReport (h : s.Orderly) : (s.lockReport d).Orderly := ite h.applyPending h

theorem reportIdle (h : s.Orderly) : (s.reportIdle d).Orderly :=
  ite (ite (applyPending (s := s.drawFresh) h).enterIdle (enterIdle (s := s.drawFresh) h)) h.enterIdle

theorem reportStop (h : s.Orderly) : (s.reportStop d).Orderly := h.stopDish.rejoinUnreachable

theorem stateRules (h : s.Orderly) : (s.stateRules d).Orderly := by
  unfold State.stateRules; dsimp only; split
  · exact ite h.reportIdle h.reportStop
  · exact ite h.stopDish h
  · exact ite h.reportIdle h
  · exact ite h.writeStop (ite h.writeHoldBrake h)
  · exact ite h.reportIdle h
  · exact answerBlock (ite h.reportIdle h.reportStop)
  all_goals exact h

theorem reportRules (h : s.Orderly) : (s.reportRules d).Orderly := ite h.faultByReport h.stateRules

theorem stowOnSwitch (h : s.Orderly) : (s.stowOnSwitch d).Orderly := ite h.stopDish.markDish h.stowOnLocked

theorem holdIfIdle (h : s.Orderly) : (s.holdIfIdle d).Orderly := ite h.writeHoldBrake h

theorem switchSet (h : s.Orderly) : (s.switchSet d).Orderly :=
  h.excludeMember.stowOnSwitch.stopShed.skipShed.holdIfIdle.answerBlock

theorem putSlot (h : s.Orderly) {c : Command} : (s.putSlot d c).Orderly := h

theorem moveLockEnded (h : s.Orderly) : (s.moveLockEnded d).Orderly := ite h (rejoinBlocked (ite h.putSlot h))

theorem switchClear (h : s.Orderly) : (s.switchClear d).Orderly := h.moveLockEnded.answerBlock.askRound

theorem switchReport (h : s.Orderly) {b : Bool} : (s.switchReport d b).Orderly := by
  unfold State.switchReport; split
  · exact h.switchSet
  · exact h.switchClear
  · exact h
  · exact h

theorem markArrived (h : s.Orderly) : (s.markArrived g d).Orderly := ite h.setMember.judgeGroup h

theorem returnMember (h : s.Orderly) : (s.returnMember g d).Orderly := h.setMotion.writeHoldBrake.setMember.judgeGroup

theorem stopBraked (h : s.Orderly) : (s.stopBraked g d).Orderly := h.stopDish.setMember

theorem groupReport (h : s.Orderly) : (s.groupReport d).Orderly := by
  unfold State.groupReport; split
  · exact h
  · split
    · exact ite h.setMember.judgeGroup h
    · exact h.markArrived
    · exact ite h.returnMember h
    iterate 3 exact ite h.stopBraked (ite h.returnMember h)
    all_goals exact h

theorem stowArrive (h : s.Orderly) : (s.stowArrive d).Orderly :=
  h.setMotion.writeHoldBrake.releaseReservation.setMove.checkStowedHold

theorem stowReport (h : s.Orderly) : (s.stowReport d).Orderly := by
  unfold State.stowReport; dsimp only; split
  · split
    · exact h
    · split
      · exact ite h.writeGo.setMove h
      · exact ite h.stowArrive h
  · exact h

theorem setShedMove (h : s.Orderly) {m : Option ShedMove} : (s.setShedMove d m).Orderly := h

theorem endShed (h : s.Orderly) {r : ShedResult} : (s.endShed d r).Orderly := h

theorem shedReport (h : s.Orderly) : (s.shedReport d).Orderly := by
  unfold State.shedReport; dsimp only; split
  · split
    · exact h
    · split
      · exact ite h.writeGo.setShedMove h
      · exact ite (ite h.releaseReservation.endShed.enterIdle h) (ite h.writeHoldBrake.setShedMove h)
  · exact h

theorem takeReport (h : s.Orderly) {r : Report} : (s.takeReport d r).Orderly := by
  have h1 : (s.storeReport d r).Orderly := h
  rw [takeReport_eq]
  exact h1.reportRules.lockReport.switchReport.groupReport.stowReport.shedReport

/-! ## Requests and deadlines -/

theorem hold (h : s.Orderly) {f : HeldFrom} : (s.hold g f).Orderly := by
  refine setGroupOf (h.onDishes fun _ _ hs => hs.stopDish) ?_
  exact fun _ => List.length_map _

theorem releaseBraked (h : s.Orderly) : (s.releaseBraked g).Orderly :=
  (h.onDishes (f := State.releaseMember) fun _ _ hs => ite hs.setDish.enterIdle hs.setDish).freeSlot

theorem excludeAll (h : s.Orderly) {ds : List DishId} {w : ExclReason} : (s.excludeAll g ds w).Orderly :=
  h.onDishes fun _ _ hs => ite hs.exclude hs

theorem cancelDish (h : s.Orderly) {kinds : List ZoneKind} : (s.cancelDish kinds d).Orderly := by
  have h1 := h.foldl (f := fun (s : State) k => s.cancelZone ⟨d, k⟩) (fun _ _ hs => hs.cancelZone) kinds
  exact h1.iceAfterCancel.skipShed

theorem answerMoveLock (h : s.Orderly) : (s.answerMoveLock d).Orderly := by
  have h1 : (s.skipShed d).Orderly := h.skipShed
  have hc : ((s.skipShed d).conflictIfQueued d).Orderly := ite h1.raiseConflict h1
  unfold State.answerMoveLock; dsimp only; split
  · exact excludeMember (ite h1.writeHoldBrake.stowOnLocked hc)
  · exact h1.excludeMember
  · exact hc.excludeMember
  · exact h1.raiseConflict
  · exact h1.stopShed
  all_goals exact h1

theorem answerPlacing (h : s.Orderly) {before : State} {sc : Scope} : (s.answerPlacing before d sc).Orderly := by
  have h1 : (if sc = .heat ∨ 1 ≤ before.appliedMove d then s else s.answerMoveLock d).Orderly := ite h h.answerMoveLock
  unfold State.answerPlacing; dsimp only
  exact ite h1 h1.answerBlock

theorem moveEntryGone (h : s.Orderly) {e : LockEntry} : (s.moveEntryGone e).Orderly := by
  unfold State.moveEntryGone; split
  · exact h
  · exact ite h h.moveLockEnded

theorem heatEntryGone (h : s.Orderly) {e : LockEntry} : (s.heatEntryGone e).Orderly := ite h h.answerBlock

theorem answerRemoval (h : s.Orderly) {e : LockEntry} : (s.answerRemoval e).Orderly := by
  refine askRound ?_
  unfold State.entryGone; split
  · exact h.moveEntryGone
  · exact h.heatEntryGone
  · exact h.moveEntryGone.heatEntryGone

theorem meterZone (h : s.Orderly) : (s.meterZone z).Orderly := by
  unfold State.meterZone; dsimp only
  exact ite (ite h.chargeZone.unpower h.chargeZone) h

theorem toTail (h : s.Orderly) : (s.toTail z).Orderly := by
  refine ite (askScan (h.putRotation ?_)) h
  refine (h.rotation.filter _).append (List.nodup_singleton z) (List.disjoint_singleton.2 fun hm => ?_)
  exact of_decide_eq_true (List.mem_filter.1 hm).2 rfl

theorem slotExpired (h : s.Orderly) : (s.slotExpired z).Orderly := by
  refine ite h.unpower.toTail.settle (h.setZone ?_)
  exact fun _ hx => hx

theorem resetStow (h : s.Orderly) : s.resetStow.Orderly :=
  ite (h.onDishes (f := State.resetStowing) fun _ _ hs => ite hs.stopDish.setMove hs).buildQueue h

theorem judgeOverCommit (h : s.Orderly) {n : Nat} : (s.judgeOverCommit n).Orderly := ite h h.judgeRestored

theorem noteCut (h : s.Orderly) {b : Bool} {n : Nat} : (s.noteCut b n).Orderly := ite h h

theorem answerSample (h : s.Orderly) {m : MastId} {x : SnapEntry} : (s.answerSample m x).Orderly :=
  ite h.tripTrigger (ite h.judgeWeather h)

theorem judgeStaleWrite (h : s.Orderly) {before : State} (ht : t.Orderly) : (s.judgeStaleWrite before t).Orderly :=
  ite h.plainTrigger ht

theorem setPresent (h : s.Orderly) : (s.setPresent d).Orderly := by
  unfold State.setPresent; dsimp only
  exact ite h.setMotion.setMark h.setMotion

end State.Orderly

/-! ## What the shared operations leave, part by part -/

section
variable {s t : State} (h : Within s t)
include h

theorem Within.settings_eq : t.settings = s.settings := congrArg Fixed.settings h.fixed
theorem Within.reported_eq (d : DishId) : (t.dish d).reported = (s.dish d).reported :=
  congrFun (congrArg Fixed.reports h.fixed) d
theorem Within.frame_eq : t.ring.frame = s.ring.frame := congrArg Fixed.frame h.fixed
theorem Within.miss_eq : t.ring.miss = s.ring.miss := congrArg Fixed.miss h.fixed
theorem Within.staging_eq : t.staging = s.staging := congrArg Fixed.staging h.fixed
theorem Within.resetCommit_eq : t.resetCommit = s.resetCommit := congrArg Fixed.resetCommit h.fixed
theorem Within.wind_eq : t.wind = s.wind := congrArg Fixed.wind h.fixed
theorem Within.locks_eq : t.locks = s.locks := congrArg Fixed.locks h.fixed
theorem Within.ports_eq : t.ports = s.ports := congrArg Fixed.ports h.fixed
theorem Within.clock_eq : t.clock = s.clock := congrArg Fixed.clock h.fixed

end

/-! ## Bounded: ranges and capacities kept -/

/-- Between the two states the reported positions have stayed in range and the lists and counts within capacity. -/
structure Bounded (s t : State) : Prop where
  positions : s.PositionsInRange → t.PositionsInRange
  capacity : s.WithinCapacity → t.WithinCapacity

theorem State.WithinCapacity.orderly {s : State} (h : s.WithinCapacity) : s.Orderly where
  grouped := h.grouped
  ordered := h.ordered
  limit := h.coast.1
  coast := h.coast.2
  queue := h.queue
  trips := h.trips
  shedList := h.shedList
  rotation := h.rotation
  carry := h.carry

section
variable {s t u : State}

theorem Bounded.refl (s : State) : Bounded s s := ⟨id, id⟩

theorem Bounded.trans (h : Bounded s t) (k : Bounded t u) : Bounded s u :=
  ⟨fun p => k.positions (h.positions p), fun p => k.capacity (h.capacity p)⟩

theorem bounded_ite {c : Prop} [Decidable c] (ht : Bounded s t) (hu : Bounded s u) : Bounded s (if c then t else u) := by
  split <;> assumption

theorem bounded_foldl {α : Type} (f : State → α → State) (h : ∀ s x, Bounded s (f s x)) :
    ∀ (xs : List α) (s : State), Bounded s (xs.foldl f s)
  | [], s => .refl s
  | x :: xs, s => (h s x).trans (bounded_foldl f h xs (f s x))

theorem violation_eq {p : Port} (h : t.ports = s.ports) : t.violation p = s.violation p := by
  cases p <;> simp [State.violation, h]

/-- Where every reported field is the same, so are the positions. -/
theorem positions_of_reports (h : ∀ d, (t.dish d).reported = (s.dish d).reported) (k : s.PositionsInRange) :
    t.PositionsInRange := fun d => by
  have haz : (t.dish d).repAz = (s.dish d).repAz := congrArg Reported.az (h d)
  have hel : (t.dish d).repEl = (s.dish d).repEl := congrArg Reported.el (h d)
  rw [haz, hel]; exact k d

/-- The shared operations of the blocks keep ranges and capacities where they keep the lists and counts orderly. -/
theorem Within.bounded (h : Within s t) (k : s.Orderly → t.Orderly) : Bounded s t where
  positions := positions_of_reports h.reported_eq
  capacity c :=
    have o : t.Orderly := k c.orderly
    { orders := (h.orders.length_le).trans c.orders
      staged := by rw [h.staging_eq]; exact c.staged
      toCommit := by rw [h.resetCommit_eq]; exact c.toCommit
      ordered := o.ordered
      grouped := o.grouped
      miss := by rw [h.miss_eq]; exact c.miss
      buffers := fun g => (h.buffer g).trans (c.buffers g)
      coast := ⟨o.limit, o.coast⟩
      queue := o.queue
      trips := o.trips
      shedList := o.shedList
      rotation := o.rotation
      energy := fun z => (h.energy z).trans (c.energy z)
      carry := o.carry
      overrun := fun x => h.overrun x (c.overrun x)
      violations := fun p => by rw [violation_eq h.ports_eq]; exact c.violations p }

theorem WithinLocks.bounded {d : DishId} (h : WithinLocks d s t) (k : s.Orderly → t.Orderly) : Bounded s t := by
  have b : Bounded { s with locks := t.locks, fresh := t.fresh } t := h.within.bounded k
  exact ⟨b.positions, fun c => b.capacity { c with }⟩

/-! ## Updates that are no shared operations -/

/-- A change of the ports alone that keeps the violation counts within 255. -/
theorem bounded_putPorts {ps : Ports} (h : s.WithinCapacity → ∀ p, ({ s with ports := ps }.violation p).refused ≤ 255
    ∧ ({ s with ports := ps }.violation p).linkTimeouts ≤ 255) : Bounded s { s with ports := ps } :=
  ⟨id, fun c => { c with violations := h c }⟩

theorem bounded_putHolder (src : Sender) (r : Option Response) : Bounded s (s.putHolder src r) := by
  rw [putHolder_ports]
  exact bounded_putPorts fun c p => by rw [← putHolder_ports, putHolder_violation]; exact c.violations p

end
end Sys2Proof.Machine
end

section
/-! Each step of the opcode table keeps the reported positions in range, lists and counts within capacity, and leaves nothing asked
for. -/

namespace Sys2Proof.Machine

/-! ## What a whole step keeps -/

/-- Between the two states ranges and capacities have been kept, and nothing is left asked for that was not asked for before. -/
structure StepKeeps (s t : State) : Prop extends Bounded s t where
  quiet : s.Quiet → t.Quiet

section
variable {s t u : State}

theorem StepKeeps.refl (s : State) : StepKeeps s s := ⟨.refl s, id⟩

theorem StepKeeps.trans (h : StepKeeps s t) (k : StepKeeps t u) : StepKeeps s u :=
  ⟨h.toBounded.trans k.toBounded, fun q => k.quiet (h.quiet q)⟩

theorem stepKeeps_ite {c : Prop} [Decidable c] (ht : StepKeeps s t) (hu : StepKeeps s u) : StepKeeps s (if c then t else u) := by
  split <;> assumption

theorem stepKeeps_foldl {α : Type} (f : State → α → State) (h : ∀ s x, StepKeeps s (f s x)) :
    ∀ (xs : List α) (s : State), StepKeeps s (xs.foldl f s)
  | [], s => .refl s
  | x :: xs, s => (h s x).trans (stepKeeps_foldl f h xs (f s x))

/-- Operations after which settle runs what they have asked for. -/
theorem Bounded.settled (h : Bounded s t) : StepKeeps s t.settle :=
  ⟨h.trans ((within_settle t).bounded fun o => o.settle), fun _ => settle_quiet t⟩

/-- Shared operations after which settle runs what they have asked for. -/
theorem Within.settled (h : Within s t) (k : s.Orderly → t.Orderly) : StepKeeps s t.settle := (h.bounded k).settled

theorem StepKeeps.answer (h : StepKeeps s t) (src : Sender) (r : Request) (st : Status) (bs : List Byte) :
    StepKeeps s (t.answer src r st bs) :=
  h.trans ⟨bounded_putHolder _ _, fun q => by simpa [State.Quiet, State.answer, State.respond] using q⟩

theorem stepKeeps_refuse (src : Sender) (r : Request) (st : Status) : StepKeeps s (s.refuse src r st) :=
  (StepKeeps.refl s).answer _ _ _ _

theorem stepKeeps_respond (src : Sender) (c : Byte) (st : Status) (bs : List Byte) : StepKeeps s (s.respond src c st bs) :=
  ⟨bounded_putHolder _ _, fun q => by simpa [State.Quiet, State.respond] using q⟩

theorem setViolation_violation (p q : Port) (v : Violation) :
    (s.setViolation p v).violation q = if q = p then v else s.violation q := by cases p <;> cases q <;> rfl

theorem stepKeeps_setViolation (p : Port) {v : Violation}
    (hv : (s.violation p).refused ≤ 255 ∧ (s.violation p).linkTimeouts ≤ 255 → v.refused ≤ 255 ∧ v.linkTimeouts ≤ 255) :
    StepKeeps s (s.setViolation p v) := by
  rw [setViolation_ports]
  refine ⟨bounded_putPorts fun c q => ?_, id⟩
  rw [← setViolation_ports, setViolation_violation]; split
  · exact hv (c.violations p)
  · exact c.violations q

theorem refuse_counts (v : Violation) (c : Byte) (n : Option StationId) (h : v.refused ≤ 255 ∧ v.linkTimeouts ≤ 255) :
    (v.refuse c n).refused ≤ 255 ∧ (v.refuse c n).linkTimeouts ≤ 255 := by
  unfold Violation.refuse; dsimp only
  split <;> exact ⟨Nat.min_le_left _ _, h.2⟩

/-- An event keeps what its meaning keeps. -/
theorem event_stepKeeps {take : State} (h : event s take = .next t) (k : StepKeeps s take) : StepKeeps s t := by
  rcases event_cases h with ⟨-, rfl⟩ | ⟨-, rfl⟩
  · exact .refl _
  · exact k

/-- A request keeps what its meaning keeps. -/
theorem serve_stepKeeps {α : Type} {src : Sender} {r : Request} {body : Body α} {take : α → State}
    (h : serve src r body s take = .next t) (k : ∀ f, StepKeeps s (take f)) : StepKeeps s t := by
  rcases serve_cases h with ⟨-, rfl⟩ | ⟨-, rfl⟩ | ⟨-, -, rfl⟩ | ⟨f, -, -, -, rfl⟩
  · exact .refl _
  · exact (stepKeeps_setViolation _ (refuse_counts _ _ _)).trans (stepKeeps_refuse _ _ _)
  · exact stepKeeps_refuse _ _ _
  · exact k f

theorem stepKeeps_onSlot {src : Sender} {r : Request} {n : Nat} {take : SlotId → State} (k : ∀ g, StepKeeps s (take g)) :
    StepKeeps s (s.onSlot src r n take) := by
  unfold State.onSlot; split
  · exact k _
  · exact stepKeeps_refuse _ _ _

theorem stepKeeps_onStream {src : Sender} {r : Request} {g : SlotId} {take : State} (k : StepKeeps s take) :
    StepKeeps s (s.onStream src r g take) := stepKeeps_ite k (stepKeeps_refuse _ _ _)

theorem stepKeeps_refuseWrite (src : Sender) : StepKeeps s (s.refuseWrite src) :=
  ((StepKeeps.refl s).answer _ _ _ _).trans ⟨⟨id, fun c => { c with }⟩, id⟩

/-- A write of the configuration keeps what its taking keeps, which is done with every item in its range. -/
theorem stepKeeps_judgeWrite {src : Sender} {any : Bool} {oks : List Bool} {constraint : Bool} {take : State}
    (k : (∀ ok ∈ oks, ok = true) → StepKeeps s take) : StepKeeps s (s.judgeWrite src any oks constraint take) := by
  unfold State.judgeWrite; split
  · exact stepKeeps_refuseWrite _
  · split
    · exact (StepKeeps.refl s).answer _ _ _ _
    · next hb =>
      refine stepKeeps_ite (k fun ok hok => ?_) (stepKeeps_refuseWrite _)
      simpa using List.findIdx?_eq_none_iff.1 hb ok hok

end

/-! ## The ring -/

section
variable {s : State}

theorem stepKeeps_setDish (d : DishId) (f : Dish → Dish) (hf : ∀ x, (f x).reported = x.reported) : StepKeeps s (s.setDish d f) :=
  ⟨(within_setDish s d f hf).bounded id, id⟩

theorem stepKeeps_closeWindow : StepKeeps s s.closeWindow := ⟨⟨id, fun c => { c with }⟩, id⟩

theorem clamp_range (x y : Int) :
    -270000 ≤ clampAz x ∧ clampAz x ≤ 270000 ∧ 15000 ≤ clampEl y ∧ clampEl y ≤ 90000 := by
  unfold clampAz clampEl; omega

theorem bounded_storeReport (d : DishId) (r : Report) : Bounded s (s.storeReport d r) where
  positions k e := by
    unfold State.storeReport; rw [setDish_dish]; split
    · exact clamp_range _ _
    · exact k e
  capacity c := { c with
    miss := fun e => by
      change (s.ring.miss.set d 0)[e.val] ≤ 20
      rw [set_get]; split
      · exact Nat.zero_le _
      · exact c.miss e }

theorem bounded_takeReport (d : DishId) (r : Report) : Bounded s (s.takeReport d r) :=
  (bounded_storeReport d r).trans <| (withinLocks_takeReport s d r).bounded fun o => State.Orderly.takeReport (s := s) o

theorem stepKeeps_countMiss (d : DishId) : StepKeeps s (s.countMiss d) := by
  refine ⟨⟨id, fun c => { c with miss := fun e => ?_ }⟩, id⟩
  change (upd s.ring.miss d fun n => min 20 (n + 1))[e.val] ≤ 20
  rw [upd_get]; split
  · exact Nat.min_le_left _ _
  · exact c.miss e

theorem stepKeeps_judgeLoss (d : DishId) : StepKeeps s (s.judgeLoss d) :=
  stepKeeps_ite ((within_loseDish s d).settled fun o => o.loseDish) (.refl s)

theorem stepKeeps_sendTo (d : DishId) : StepKeeps s (s.sendTo d) := by
  have h : StepKeeps s { (s.putSlot d (s.toSend d).afterSend).setWindow (d.val + 1) (some d) with
      ring := { ((s.putSlot d (s.toSend d).afterSend).setWindow (d.val + 1) (some d)).ring with
        out := some ⟨d, s.ring.frame, s.toSend d⟩ } } := ⟨⟨id, fun c => { c with }⟩, id⟩
  refine h.trans ?_
  unfold State.sendTo State.advance; dsimp only; split
  · exact stepKeeps_setDish _ _ fun _ => rfl
  all_goals exact .refl _

theorem stepKeeps_nextFrame : StepKeeps s s.nextFrame := ⟨⟨id, fun c => { c with }⟩, id⟩

theorem bounded_consumeAll : Bounded s (allSlots.foldl State.consume s) :=
  (within_foldl _ within_consume _ _).bounded fun o => o.foldl (fun _ _ hs => hs.consume) _

/-! ## Orders and staging -/

theorem stepKeeps_setStaging {g : Option Staging} (hg : s.WithinCapacity → ∀ x, g = some x → x.members.length ≤ 48) :
    StepKeeps s { s with staging := g } := ⟨⟨id, fun c => { c with staged := hg c }⟩, id⟩

theorem bounded_filterOrders (p : Order → Bool) : Bounded s { s with orders := s.orders.filter p } :=
  ⟨id, fun c => { c with
    orders := (List.length_filter_le _ _).trans c.orders
    ordered := fun o ho => c.ordered o (List.mem_of_mem_filter ho) }⟩

theorem bounded_askRound : Bounded s s.askRound := (within_askRound s).bounded id

theorem bounded_raise (x : Source) (d : Detail) : Bounded s (s.raise x d) := (within_raise s x d).bounded id

theorem bounded_removeOrder (tag : Nat) : Bounded s (s.removeOrder tag) := by
  unfold State.removeOrder; dsimp only
  exact bounded_ite ((bounded_filterOrders _).trans bounded_askRound) (bounded_filterOrders _)

/-- An order found for a COMMIT ORDER holds at most 48 members. -/
theorem orderToCommit_length {g : Staging} (c : s.WithinCapacity) (h : s.orderToCommit = some g) : g.members.length ≤ 48 := by
  rcases orderToCommit_eq_some.1 h with h | ⟨-, h⟩
  · exact c.staged g h
  · exact c.toCommit g h

theorem stepKeeps_endResetCommit : StepKeeps s s.endResetCommit :=
  ⟨⟨id, fun c => { c with toCommit := fun _ h => nomatch h }⟩, id⟩

theorem bounded_commit {g : Staging} (hl : s.orders.length < 16) (hg : s.WithinCapacity → g.members.length ≤ 48) :
    Bounded s (s.commit g) := by
  have h : Bounded s { s with
      staging := none
      orders := s.orders ++ [Order.mk g.tag g.action g.deadline g.members s.ring.frame] } := by
    refine ⟨id, fun c => { c with staged := fun _ h => (nomatch h), orders := ?_, ordered := fun o ho => ?_ }⟩
    · change (s.orders ++ [_]).length ≤ 16
      rw [List.length_append]; exact hl
    · rcases List.mem_append.1 ho with ho | ho
      · exact c.ordered o ho
      · rw [List.mem_singleton.1 ho]; exact hg c
  unfold State.commit; dsimp only
  exact bounded_ite (h.trans bounded_askRound) h

theorem bounded_driveReset : Bounded s s.driveReset := by
  have h : Bounded s { s with staging := none, resetCommit := s.afterReset, orders := [] } := by
    refine ⟨id, fun c => { c with
      staged := fun _ h => (nomatch h), orders := Nat.zero_le _, ordered := fun _ h => (nomatch h)
      toCommit := fun g hg => c.staged g (afterReset_eq_holds.1 hg).2 }⟩
  generalize hu : { s with staging := none, resetCommit := s.afterReset, orders := [] } = u at h
  unfold State.driveReset; dsimp only
  rw [hu]
  refine h.trans (Within.bounded ?_ fun o => o.dissolveAll.clearSheds.resetStow.askJudge)
  exact (within_dissolveAll _ _).trans <| (within_clearSheds _ _).trans <| (within_resetStow _).trans (within_askJudge _)

/-! ## Track streams -/

theorem stepKeeps_setGroupState (g : SlotId) (x : GroupState) : StepKeeps s (s.setGroupState g x) :=
  ⟨(within_setGroupState s g x).bounded fun o => o.setGroupState, id⟩

theorem stepKeeps_setStream {g : SlotId} {f : Stream → Stream}
    (hb : (s.stream g).buffer.length ≤ 64 → (f (s.stream g)).buffer.length ≤ 64)
    (hc : (s.stream g).coast ≤ 40 → (f (s.stream g)).coast ≤ 40) : StepKeeps s (s.setStream g f) := by
  refine ⟨⟨id, fun c => ?_⟩, id⟩
  have o : (s.setStream g f).Orderly := c.orderly.setStream (hc (c.coast.2 g))
  refine { c with buffers := fun k => ?_, coast := ⟨o.limit, o.coast⟩ }
  rw [setStream_stream]; split
  · next e => subst e; exact hb (c.buffers k)
  · exact c.buffers k

/-- A walk of entries into a buffer of at most 64 leaves it at most 64 (R77). -/
theorem pushWalk_length : ∀ (es : List EntryFields) (load : Nat), load ≤ 64 → load + (pushWalk load es).accepted.length ≤ 64
  | [], _, h => h
  | e :: es, load, h => by
    unfold pushWalk; split
    · exact h
    · split
      · exact h
      · have := pushWalk_length es (load + 1) (by omega)
        simp only [List.length_cons]; omega

theorem stepKeeps_revive (g : SlotId) : StepKeeps s (s.revive g) :=
  stepKeeps_ite ((stepKeeps_setStream id fun _ => Nat.zero_le _).trans (stepKeeps_setGroupState _ _)) (.refl s)

theorem stepKeeps_pushEntries (g : SlotId) (fs : List EntryFields) :
    StepKeeps s (s.pushEntries g (pushWalk (s.stream g).buffer.length fs).accepted) := by
  refine stepKeeps_ite (.refl s) (StepKeeps.trans (stepKeeps_setStream (fun hb => ?_) id) (stepKeeps_revive g))
  rw [List.length_append]; exact pushWalk_length fs _ hb

theorem stepKeeps_flush (g : SlotId) : StepKeeps s (s.flush g) := by
  have h : StepKeeps s (s.setStream g fun x => { x with buffer := [], lock := none, lowReported := false }) :=
    stepKeeps_setStream (fun _ => Nat.zero_le _) id
  exact stepKeeps_ite (h.trans (stepKeeps_setGroupState _ _)) h

theorem stepKeeps_clearFault (g : SlotId) : StepKeeps s (s.clearFault g) := by
  have h : StepKeeps s (s.setStream g fun x =>
      { x with
        buffer := x.buffer.tail, lock := none
        lowReported := x.lowReported || decide (x.buffer.tail.length ≤ s.settings.track.lowMark) }) :=
    stepKeeps_setStream (fun hb => by rw [List.length_tail]; omega) id
  exact stepKeeps_ite (h.trans (stepKeeps_setGroupState _ _)) h

/-! ## Weather, attention, ports -/

theorem stepKeeps_setWind (w : Wind) : StepKeeps s { s with wind := w } := ⟨⟨id, fun c => { c with }⟩, id⟩

theorem stepKeeps_raise (x : Source) (d : Detail) : StepKeeps s (s.raise x d) := ⟨bounded_raise x d, id⟩

theorem stepKeeps_capture (m : MastId) (x : SnapEntry) : StepKeeps s (s.capture m x) :=
  (stepKeeps_setWind _).trans (stepKeeps_raise _ _)

theorem stepKeeps_offerSnapshot (m : MastId) (x : SnapEntry) : StepKeeps s (s.offerSnapshot m x) :=
  stepKeeps_ite (stepKeeps_capture _ _) (.refl s)

theorem stepKeeps_noteTrip (m : MastId) (x : Option Level) : StepKeeps s (s.noteTrip m x) :=
  stepKeeps_ite ((stepKeeps_setWind _).trans (stepKeeps_raise _ _)) (.refl s)

theorem stepKeeps_setMast (m : MastId) (x : Mast) : StepKeeps s (s.setMast m x) := stepKeeps_setWind _

theorem bounded_takeSample (m : MastId) (mean gust : Nat) : Bounded s (s.takeSample m mean gust) :=
  ((stepKeeps_setMast _ _).trans <| (stepKeeps_offerSnapshot _ _).trans (stepKeeps_noteTrip _ _)).toBounded.trans
    ((within_answerSample _ _ _).bounded fun o => o.answerSample)

theorem stepKeeps_passTo (n : Nat) : StepKeeps s (s.passTo n) := ⟨⟨id, fun c => { c with }⟩, id⟩

theorem bounded_goStale (m : MastId) : Bounded s (s.goStale m) := by
  unfold State.goStale; dsimp only
  have h : StepKeeps s (((s.setMast m s.wind.masts[m].silenced).offerSnapshot m (s.snapOf m)).noteTrip m (s.snapOf m).level) :=
    (stepKeeps_setMast _ _).trans <| (stepKeeps_offerSnapshot _ _).trans (stepKeeps_noteTrip _ _)
  exact h.toBounded.trans <| (within_ite (within_plainTrigger _) (within_judgeWeather _)).bounded fun o =>
    .ite o.plainTrigger o.judgeWeather

theorem stepKeeps_setSource (x : Source) (f : SourceState → SourceState) (hf : ∀ y : SourceState, y.overrun ≤ 15 → (f y).overrun ≤ 15) :
    StepKeeps s (s.setSource x f) := by
  refine ⟨⟨id, fun c => { c with overrun := fun y => ?_ }⟩, id⟩
  rw [setSource_source]; split
  · exact hf _ (c.overrun y)
  · exact c.overrun y

theorem stepKeeps_keepCensusRaised : StepKeeps s s.keepCensusRaised := stepKeeps_ite (.refl s) (stepKeeps_raise _ _)

theorem stepKeeps_takeAttention (src : Sender) : StepKeeps s (s.takeAttention src) := by
  unfold State.takeAttention; dsimp only; split
  · exact (StepKeeps.refl s).answer _ _ _ _
  · exact ((stepKeeps_setSource _ _ fun _ _ => Nat.zero_le _).trans stepKeeps_keepCensusRaised).answer _ _ _ _

theorem stepKeeps_maskSources (mask : Byte) : ∀ (xs : List Source) (n : Nat) (s : State),
    StepKeeps s (State.maskSources mask xs n s)
  | [], _, s => .refl s
  | x :: xs, n, s => by
    have h : StepKeeps s (s.setSource x fun y => { y with enabled := mask.getLsbD n }) := stepKeeps_setSource _ _ fun _ h => h
    exact h.trans (stepKeeps_maskSources mask xs (n + 1) _)

theorem stepKeeps_endTransaction (p : Port) : StepKeeps s (s.endTransaction p) := by
  rw [endTransaction_ports]
  refine ⟨bounded_putPorts fun c q => ?_, id⟩
  rw [← endTransaction_ports, show (s.endTransaction p).violation q = s.violation q by cases p <;> cases q <;> rfl]
  exact c.violations q

theorem timeout_counts (v : Violation) (h : v.refused ≤ 255 ∧ v.linkTimeouts ≤ 255) :
    v.timeout.refused ≤ 255 ∧ v.timeout.linkTimeouts ≤ 255 := ⟨h.1, Nat.min_le_left _ _⟩

/-- A change of the ports alone that leaves every violation record. -/
theorem stepKeeps_putPorts {ps : Ports} (h : ∀ p, { s with ports := ps }.violation p = s.violation p) :
    StepKeeps s { s with ports := ps } := ⟨bounded_putPorts fun c p => by rw [h]; exact c.violations p, id⟩

theorem stepKeeps_freeBus (p : Port) : StepKeeps s (s.freeBus p) := by
  cases p with
  | maintenance => exact stepKeeps_putPorts fun q => by cases q <;> rfl
  | _ => exact .refl s

theorem stepKeeps_setAbandoned (p : Port) (b : Bool) : StepKeeps s (s.setAbandoned p b) := by
  cases p <;> exact stepKeeps_putPorts fun q => by cases q <;> rfl

theorem stepKeeps_abandon (p : Port) : StepKeeps s (s.abandon p) :=
  (stepKeeps_setViolation p (timeout_counts _)).trans <| (stepKeeps_freeBus p).trans (stepKeeps_setAbandoned p true)

theorem stepKeeps_emptyHolders (p : Port) : StepKeeps s (s.emptyHolders p) := by
  cases p <;> exact stepKeeps_putPorts fun q => by cases q <;> rfl

theorem stepKeeps_portResetBlocks (p : Port) : StepKeeps s (s.portResetBlocks p) := by
  cases p with
  | scheduler => exact stepKeeps_setStaging fun _ _ h => by cases h
  | safety => exact .refl s
  | maintenance => exact stepKeeps_keepCensusRaised

/-! ## Configuration -/

/-- A change of settings that keeps the coast limit within 40 (R75). -/
theorem stepKeeps_setSettings (x : Settings) (hx : s.settings.track.coastLimit ≤ 40 → x.track.coastLimit ≤ 40) :
    StepKeeps s { s with settings := x } := ⟨⟨id, fun c => { c with coast := ⟨hx c.coast.1, c.coast.2⟩ }⟩, id⟩

theorem bounded_unframe (d : DishId) : Bounded s (s.unframe d) := by
  refine ⟨id, fun c => { c with miss := fun e => ?_ }⟩
  change (s.ring.miss.set d 0)[e.val] ≤ 20
  rw [set_get]; split
  · exact Nat.zero_le _
  · exact c.miss e

theorem bounded_clearRecord (d : DishId) : Bounded s (s.setDish d Dish.cleared) := by
  refine ⟨fun k e => ?_, fun c => { c with }⟩
  rw [setDish_dish]; split
  · simp [Dish.cleared, Dish.reset]
  · exact k e

theorem bounded_clearPresent (d : DishId) : Bounded s (s.clearPresent d) := by
  have h : Within s (((zonesOf d).foldl State.cancelZone s).iceAfterCancel d).askScan :=
    (within_foldl _ within_cancelZone _ _).trans <| (within_iceAfterCancel _ _).trans (within_askScan _)
  have o : s.Orderly → (((zonesOf d).foldl State.cancelZone s).iceAfterCancel d).askScan.Orderly := fun o =>
    (o.foldl (fun _ _ hs => hs.cancelZone) (zonesOf d)).iceAfterCancel.askScan
  exact (h.bounded o).trans <| (bounded_clearRecord d).trans <| (bounded_unframe d).trans <|
    (within_setMark _ d .none).bounded fun o => o.setMark

theorem bounded_answerPresent (d : DishId) (former : Bool) : Bounded s (s.answerPresent d former) := by
  unfold State.answerPresent; split
  · exact bounded_clearPresent _
  · exact (within_setPresent _ _).bounded fun o => o.setPresent
  · exact .refl s
  · exact .refl s

theorem stepKeeps_writeDish (src : Sender) (d : DishId) (c : DishSettings) : StepKeeps s (s.writeDish src d c) := by
  unfold State.writeDish; dsimp only
  refine stepKeeps_ite ((StepKeeps.refl s).answer _ _ _ _) (StepKeeps.answer (Bounded.settled ?_) _ _ _ _)
  have h : StepKeeps s (s.putCfg d c) := stepKeeps_setSettings _ id
  exact h.toBounded.trans (bounded_answerPresent d _)

theorem stepKeeps_writeMast (flags : Vector (Option Bool) 6) (s : State) (m : MastId) : StepKeeps s (State.writeMast flags s m) := by
  unfold State.writeMast; split
  · exact .refl s
  · next b _ =>
    have h : StepKeeps s (s.putConfigured m b) := stepKeeps_setSettings _ id
    exact stepKeeps_ite (.refl s) ((h.trans (stepKeeps_setMast _ _)).trans (stepKeeps_offerSnapshot _ _))

theorem bounded_judgeMast (flags : Vector (Option Bool) 6) (s : State) (m : MastId) : Bounded s (State.judgeMast flags s m) := by
  have h := (stepKeeps_writeMast flags s m).toBounded
  unfold State.judgeMast; dsimp only
  exact bounded_ite h (h.trans ((within_judgeWeather _).bounded fun o => o.judgeWeather))

theorem bounded_takeMasts (flags : Vector (Option Bool) 6) : Bounded s (s.takeMasts flags) :=
  bounded_ite ((stepKeeps_foldl _ (stepKeeps_writeMast flags) _ _).toBounded.trans
      ((within_plainTrigger _).bounded fun o => o.plainTrigger))
    (bounded_foldl _ (bounded_judgeMast flags) _ _)

theorem bounded_answerWind (before : State) : Bounded s (s.answerWind before) :=
  (within_answerWind s before).bounded fun o => .ite o (o.judgeStaleWrite o.judgeRelease)

theorem carried_le {lo hi n : Nat} {x : Option Nat} (h : inRange lo hi x = true) (hn : n ≤ hi) : carried x n ≤ hi := by
  cases x with
  | none => exact hn
  | some m =>
    simp only [inRange, Option.all_some, Bool.and_eq_true, decide_eq_true_eq] at h
    exact h.2

/-! ## Feeder and melt -/

theorem stepKeeps_setFeeder (f : Feeder) : StepKeeps s { s with feeder := f } := ⟨⟨id, fun c => { c with }⟩, id⟩

theorem bounded_shedTo (v : Nat) : Bounded s (s.shedTo v) :=
  bounded_ite ((stepKeeps_setFeeder _).toBounded.trans ((within_shedHeaters _).bounded fun o => o.shedHeaters))
    (stepKeeps_setFeeder _).toBounded

theorem bounded_takeAllowance (v : Nat) : Bounded s (s.takeAllowance v) := by
  refine (bounded_shedTo v).trans (Within.bounded ?_ fun o => o.judgeOverCommit.noteCut.askRound.askScan)
  exact (within_judgeOverCommit _ _).trans <| (within_noteCut _ _ _).trans <| (within_askRound _).trans (within_askScan _)

theorem bounded_setZone {z : ZoneId} {f : Zone → Zone}
    (hf : ∀ x : Zone, (f x).remaining ≤ 1000000000 ∧ (f x).carry = x.carry) : Bounded s (s.setZone z f) := by
  refine ⟨id, fun c => ?_⟩
  have o : (s.setZone z f).Orderly := c.orderly.setZone fun x hx => by rw [(hf x).2]; exact hx
  refine { c with carry := o.carry, energy := fun w => ?_ }
  rw [setZone_zone]; split
  · exact (hf _).1
  · exact c.energy w

theorem bounded_putRotation {zs : List ZoneId} (h : s.melt.rotation.Nodup → zs.Nodup) :
    Bounded s { s with melt := { s.melt with rotation := zs } } := ⟨id, fun c => { c with rotation := h c.rotation }⟩

theorem bounded_askScan : Bounded s s.askScan := (within_askScan s).bounded id

/-- A zone joins the tail of the Melt Rotation List where it does not stand there yet (R128). -/
theorem bounded_joinRotation (z : ZoneId) : Bounded s { s with melt := { s.melt with
    rotation := if s.melt.rotation.contains z then s.melt.rotation else s.melt.rotation ++ [z] } }.askScan := by
  refine (bounded_putRotation fun h => ?_).trans bounded_askScan
  split
  · exact h
  · next hn =>
    refine h.append (List.nodup_singleton z) (List.disjoint_singleton.2 fun hm => hn ?_)
    exact List.contains_iff_mem.2 hm

theorem bounded_addEnergy (s : State) (n : Nat) (z : ZoneId) : Bounded s (s.addEnergy n z) := by
  have hr : min energyLimit ((s.zone z).remaining + n) ≤ 1000000000 := Nat.min_le_left _ _
  unfold State.addEnergy; dsimp only; split
  · refine (bounded_setZone ?_).trans (bounded_joinRotation z)
    exact fun _ => ⟨hr, rfl⟩
  all_goals exact bounded_setZone fun _ => ⟨hr, rfl⟩

theorem bounded_setIce (s : State) (d : DishId) : Bounded s (s.setIce d) := by
  have h : Bounded s { s with melt := { s.melt with ice := s.melt.ice.set d true } } := ⟨id, fun c => { c with }⟩
  exact bounded_ite (.refl s) (h.trans ((within_excludeMember _ _ _).bounded fun o => o.excludeMember))

theorem bounded_listShed {d : DishId} (h : s.shedListed d = false) : Bounded s (s.listShed d) := by
  refine ⟨id, fun c => { c with shedList := ?_ }⟩
  change ((s.melt.shedList ++ [ShedEntry.mk d s.ring.frame]).map (·.dish)).Nodup
  rw [List.map_append]
  refine c.shedList.append (List.nodup_singleton d) (List.disjoint_singleton.2 fun hm => ?_)
  obtain ⟨e, he, hd⟩ := List.mem_map.1 hm
  have hany : s.shedListed d = true := List.any_eq_true.2 ⟨e, he, decide_eq_true hd⟩
  rw [h] at hany; cases hany

/-- An offer that lists a dish was made for one that did not stand in the Shed List. -/
theorem offerFor_listed {shed : Bool} {d : DishId} (h : s.offerFor shed d = .listed) : s.shedListed d = false := by
  unfold State.offerFor State.judgeShedOffer at h
  split at h
  · split at h
    · cases h
    · next hn => simpa using hn
  · cases h

theorem bounded_takeOffer (shed : Bool) (d : DishId) : Bounded s (s.takeOffer d (s.offerFor shed d)) := by
  cases h : s.offerFor shed d with
  | listed => exact bounded_listShed (offerFor_listed h)
  | _ => exact .refl s

theorem bounded_meltZones (s : State) (kinds : List ZoneKind) (n : Nat) (ice : Bool) (d : DishId) :
    Bounded s (s.meltZones kinds n ice d) := by
  have h := bounded_foldl (fun (s : State) k => s.addEnergy n ⟨d, k⟩) (fun s k => bounded_addEnergy s n ⟨d, k⟩) kinds s
  unfold State.meltZones; dsimp only
  exact bounded_ite (h.trans (bounded_setIce _ _)) h

theorem bounded_meltWalk (kinds : List ZoneKind) (n : Nat) (ice shed : Bool) :
    ∀ (ds : List DishId) (s : State), Bounded s (meltWalk kinds n ice shed ds s).1
  | [], s => .refl s
  | _ :: ds, _ => (bounded_meltZones _ _ _ _ _).trans <| (bounded_takeOffer _ _).trans (bounded_meltWalk kinds n ice shed ds _)

/-- The powering scan asks for nothing. -/
theorem scanWalk_quiet : ∀ (zs : List ZoneId) (s : State), s.Quiet → (scanWalk zs s).Quiet
  | [], _, q => q
  | z :: zs, s, q => by
    unfold scanWalk; split
    · dsimp only; split
      · exact scanWalk_quiet zs _ q
      · exact q
    all_goals exact scanWalk_quiet zs s q

/-! ## Locks -/

theorem bounded_setLocks (l : Locks) : Bounded s { s with locks := l } := ⟨id, fun c => { c with }⟩

theorem bounded_place (n : StationId) (d : DishId) (sc : Scope) (tag : Nat) (i : Fin 96) : Bounded s (s.place n d sc tag i) := by
  have h : Bounded s (s.putLock i (some ⟨d, sc, tag, n, s.newLockState d sc, s.locks.seconds⟩)) := bounded_setLocks _
  exact h.trans ((within_answerPlacing _ _ _ _).bounded fun o => o.answerPlacing)

theorem stepKeeps_placeLock (src : Sender) (n : StationId) (d : DishId) (sc : Scope) (tag : Nat) :
    StepKeeps s (s.placeLock src n d sc tag) := by
  unfold State.placeLock
  refine stepKeeps_ite (stepKeeps_refuse _ _ _) (stepKeeps_ite ((StepKeeps.refl s).answer _ _ _ _) ?_)
  split
  · exact (StepKeeps.refl s).answer _ _ _ _
  · exact (bounded_place _ _ _ _ _).settled.answer _ _ _ _

theorem stepKeeps_removeLock (src : Sender) (i : Fin 96) (e : LockEntry) : StepKeeps s (s.removeLock src i e) := by
  have h : Bounded s (s.putLock i none) := bounded_setLocks _
  exact (h.trans ((within_answerRemoval _ e).bounded fun o => o.answerRemoval)).settled.answer _ _ _ _

theorem bounded_completeCensus (n : StationId) : Bounded s (s.completeCensus n) := by
  have h1 : Bounded s { s with locks := { s.locks with census := .complete n s.locks.seconds } } := bounded_setLocks _
  generalize hu : { s with locks := { s.locks with census := .complete n s.locks.seconds } } = u at h1
  have h2 : StepKeeps u (u.setSource .censusRequired fun x => { x with pending := false }) :=
    stepKeeps_setSource _ _ fun _ h => h
  unfold State.completeCensus; dsimp only
  rw [hu]
  refine (h1.trans h2.toBounded).trans (Within.bounded ?_ fun o => o.reblockAll.askRound)
  exact (within_reblockAll _).trans (within_askRound _)

/-! ## Single updates of whole steps -/

theorem stepKeeps_setLocks (l : Locks) : StepKeeps s { s with locks := l } := ⟨bounded_setLocks l, id⟩

theorem stepKeeps_drawFresh : StepKeeps s s.drawFresh := ⟨⟨id, fun c => { c with }⟩, id⟩

theorem bounded_restartMeter : Bounded s s.restartMeter := ⟨id, fun c => { c with }⟩

theorem slotExpired_quiet {z : ZoneId} (q : s.Quiet) : (s.slotExpired z).Quiet := by
  unfold State.slotExpired; split
  · exact settle_quiet _
  · exact q

/-- The commit of an order found, after the fall with a DRIVE RESET has ended. -/
theorem bounded_commitFound {g : Staging} (hg : s.orderToCommit = some g) (hl : s.orders.length < 16) :
    Bounded s (s.endResetCommit.commit g) := by
  refine ⟨positions_of_reports fun d => ?_, fun c => ?_⟩
  · unfold State.commit; dsimp only; split <;> rfl
  · exact (bounded_commit (s := s.endResetCommit) hl fun _ => orderToCommit_length c hg).capacity
      (stepKeeps_endResetCommit.capacity c)

theorem bounded_freeze (g : SlotId) : Bounded s (s.setStream g Stream.frozen) :=
  (stepKeeps_setStream id fun _ => Nat.zero_le _).toBounded

theorem stepKeeps_putStations (v : Vector StationSettings 4) : StepKeeps s (s.putStations v) := by
  have h : StepKeeps s { s with settings := { s.settings with station := v } } := stepKeeps_setSettings _ id
  exact h.trans (stepKeeps_putPorts fun p => by cases p <;> rfl)

end
end Sys2Proof.Machine
end

section
/-! Each step of the opcode table keeps ranges and capacities and leaves nothing asked for. -/

namespace Sys2Proof.Machine

/-- The state right after power-on reset stands within every capacity. -/
theorem reset_withinCapacity : State.reset.WithinCapacity where
  orders := Nat.zero_le _
  staged := fun _ h => nomatch h
  toCommit := fun _ h => nomatch h
  ordered := fun _ h => nomatch h
  grouped := fun g => by simp [State.group, State.reset, Group.reset]
  miss := fun d => by simp [State.reset, Ring.reset]
  buffers := fun g => by simp [State.stream, State.reset, Stream.reset]
  coast := ⟨by decide, fun g => by simp [State.stream, State.reset, Stream.reset]⟩
  queue := List.nodup_nil
  trips := List.nodup_nil
  shedList := List.nodup_nil
  rotation := List.nodup_nil
  energy := fun ⟨d, k⟩ => by cases k <;> simp [State.zone, State.reset, Melt.reset, DishZones.get, Zone.reset]
  carry := fun ⟨d, k⟩ => by cases k <;> simp [State.zone, State.reset, Melt.reset, DishZones.get, Zone.reset]
  overrun := fun x => by cases x <;> exact Nat.zero_le _
  violations := fun p => by cases p <;> exact ⟨Nat.zero_le _, Nat.zero_le _⟩

theorem stepKeeps_reset (s : State) : StepKeeps s { State.reset with pending := s.pending, fresh := s.fresh } where
  positions _ d := by simp [State.dish, State.reset, Dish.reset]
  quiet _ := ⟨rfl, rfl, rfl⟩
  capacity _ := { reset_withinCapacity with }

/-- Every step of the opcode table keeps ranges and capacities and leaves nothing asked for. -/
theorem exec_stepKeeps {i : Instr} {s t : State} (h : exec i s = .next t) : StepKeeps s t := by
  cases i with
  | powerOnReset => cases h; exact stepKeeps_reset s
  | frameStart => exact event_stepKeeps h (stepKeeps_nextFrame.toBounded.trans bounded_consumeAll).settled
  | commandSend d => exact event_stepKeeps h (stepKeeps_ite (stepKeeps_sendTo d) (.refl s))
  | validReport d r =>
    exact event_stepKeeps h (stepKeeps_ite (stepKeeps_closeWindow.toBounded.trans (bounded_takeReport d r)).settled (.refl s))
  | miss d =>
    exact event_stepKeeps h (stepKeeps_ite
      (stepKeeps_closeWindow.trans <| (stepKeeps_countMiss d).trans (stepKeeps_judgeLoss d)) (.refl s))
  | lossOfDish d => exact event_stepKeeps h (stepKeeps_judgeLoss d)
  | loadAckLimit g =>
    exact event_stepKeeps h (stepKeeps_ite ((within_excludeAll _ _ _ _).settled fun o => o.excludeAll) (.refl s))
  | arrivalGrace g =>
    exact event_stepKeeps h (stepKeeps_ite ((within_excludeAll _ _ _ _).settled fun o => o.excludeAll) (.refl s))
  | orderExpiry tag =>
    exact event_stepKeeps h (stepKeeps_ite ((bounded_removeOrder tag).trans (bounded_raise _ _)).settled (.refl s))
  | stowMoveTimeout d =>
    exact event_stepKeeps h (stepKeeps_ite
      (((within_faultDish s d).trans (within_markDish _ _ _ _)).settled fun o => o.faultDish.markDish) (.refl s))
  | shedMoveTimeout d =>
    exact event_stepKeeps h (stepKeeps_ite
      (((within_faultDish s d).trans (within_endShed _ _ _)).settled fun o => o.faultDish.endShed) (.refl s))
  | admissionRound => exact event_stepKeeps h ((within_admissionRound s).settled fun o => o.admissionRound)
  | poweringScan =>
    exact event_stepKeeps h ⟨(within_poweringScan s).bounded fun o => o.poweringScan, scanWalk_quiet _ s⟩
  | mastStalenessExpiry m =>
    refine event_stepKeeps h ?_
    split
    · exact .refl s
    · exact stepKeeps_ite ((stepKeeps_passTo _).toBounded.trans (bounded_goStale m)).settled (.refl s)
  | holdOffExpiry =>
    refine event_stepKeeps h ?_
    split
    · exact .refl s
    · exact stepKeeps_ite ((stepKeeps_passTo _).toBounded.trans ((within_enterClear _).bounded fun o => o.enterClear)).settled
        (.refl s)
  | meltSlotExpiry z =>
    refine event_stepKeeps h ?_
    split
    · exact .refl s
    · exact stepKeeps_ite ((stepKeeps_passTo _).trans
        ⟨(within_slotExpired _ z).bounded fun o => o.slotExpired, slotExpired_quiet⟩) (.refl s)
  | meterTimerExpiry =>
    refine event_stepKeeps h (Bounded.settled ?_)
    exact (stepKeeps_passTo _).toBounded.trans <| bounded_restartMeter.trans <|
      (within_foldl _ within_meterZone _ _).bounded fun o => o.foldl (fun _ _ hs => hs.meterZone) _
  | secondsCountTick => exact event_stepKeeps h ((stepKeeps_passTo _).trans (stepKeeps_setLocks _))
  | linkTimeout l => exact event_stepKeeps h (stepKeeps_abandon _)
  | maintenanceLinkTimeout n => cases h; exact stepKeeps_ite (stepKeeps_abandon _) (.refl s)
  | fetchResponse src => cases h; exact stepKeeps_ite (stepKeeps_endTransaction _) (.refl s)
  | unknownRequest src c => cases h; exact stepKeeps_ite (stepKeeps_respond _ _ _ _) (.refl s)
  | badFrame src first =>
    cases h
    refine stepKeeps_ite ?_ (.refl s)
    split
    · exact stepKeeps_ite (stepKeeps_endTransaction _) (stepKeeps_respond _ _ _ _)
    · exact (stepKeeps_respond _ _ _ _).trans stepKeeps_drawFresh
  | resetPinAsserted => cases h; exact ⟨⟨id, fun c => { c with }⟩, id⟩
  | openOrder src body =>
    refine serve_stepKeeps h fun f => ?_
    split
    · exact stepKeeps_refuse _ _ _
    · refine stepKeeps_ite ((stepKeeps_setStaging fun _ x hx => ?_).answer _ _ _ _) (stepKeeps_refuse _ _ _)
      cases hx; exact Nat.zero_le _
  | addMembers src body =>
    refine serve_stepKeeps h fun f => ?_
    split
    · exact stepKeeps_refuse _ _ _
    · split
      · exact stepKeeps_refuse _ _ _
      · refine stepKeeps_ite (stepKeeps_refuse _ _ _) ?_
        split
        · exact stepKeeps_refuse _ _ _
        · next hl =>
          refine (stepKeeps_setStaging fun _ x hx => ?_).answer _ _ _ _
          cases hx; rw [List.length_append]; exact Nat.le_of_not_lt hl
  | commitOrder src body =>
    refine serve_stepKeeps h fun f => ?_
    dsimp only
    split
    · exact stepKeeps_endResetCommit.trans (stepKeeps_refuse _ _ _)
    · next g hg =>
      refine stepKeeps_ite (stepKeeps_endResetCommit.trans (stepKeeps_refuse _ _ _)) (stepKeeps_ite
        (stepKeeps_endResetCommit.trans (stepKeeps_refuse _ _ _)) ?_)
      split
      · exact stepKeeps_endResetCommit.trans (stepKeeps_refuse _ _ _)
      · next hl => exact (bounded_commitFound hg (Nat.lt_of_not_le hl)).settled.answer _ _ _ _
  | cancelOrder src body =>
    exact serve_stepKeeps h fun f => stepKeeps_ite ((bounded_removeOrder _).settled.answer _ _ _ _)
      (stepKeeps_ite (stepKeeps_refuse _ _ _) (stepKeeps_refuse _ _ _))
  | holdGroup src body =>
    refine serve_stepKeeps h fun f => stepKeeps_onSlot fun g => ?_
    split
    iterate 2 exact ((within_hold _ _ _).settled fun o => o.hold).answer _ _ _ _
    iterate 2 exact (((within_hold _ _ _).bounded fun o => o.hold).trans (bounded_freeze _)).settled.answer _ _ _ _
    · exact (stepKeeps_setGroupState _ _).answer _ _ _ _
    all_goals exact stepKeeps_refuse _ _ _
  | resumeGroup src body =>
    refine serve_stepKeeps h fun f => stepKeeps_onSlot fun g => ?_
    split
    · exact stepKeeps_ite (stepKeeps_refuse _ _ _)
        (((stepKeeps_setGroupState _ _).toBounded.trans bounded_askRound).settled.answer _ _ _ _)
    all_goals exact stepKeeps_refuse _ _ _
  | releaseGroup src body =>
    refine serve_stepKeeps h fun f => stepKeeps_onSlot fun g => ?_
    split
    iterate 2 exact ((within_releaseBraked _ _).settled fun o => o.releaseBraked).answer _ _ _ _
    iterate 2 exact ((within_endGroup _ _ _).settled fun o => o.endGroup).answer _ _ _ _
    all_goals exact stepKeeps_refuse _ _ _
  | abortGroup src body =>
    exact serve_stepKeeps h fun f => stepKeeps_onSlot fun g =>
      stepKeeps_ite (stepKeeps_refuse _ _ _) (((within_endGroup _ _ _).settled fun o => o.endGroup).answer _ _ _ _)
  | pushTrack src body =>
    exact serve_stepKeeps h fun f => stepKeeps_onSlot fun g => stepKeeps_ite (stepKeeps_refuse _ _ _)
      (stepKeeps_onStream ((stepKeeps_pushEntries _ _).answer _ _ _ _))
  | flushTrack src body =>
    exact serve_stepKeeps h fun f => stepKeeps_onSlot fun g => stepKeeps_onStream ((stepKeeps_flush _).answer _ _ _ _)
  | clearTrackFault src body =>
    exact serve_stepKeeps h fun f => stepKeeps_onSlot fun g => stepKeeps_onStream
      (stepKeeps_ite (stepKeeps_refuse _ _ _) ((stepKeeps_clearFault _).answer _ _ _ _))
  | readGroup src body => exact serve_stepKeeps h fun f => stepKeeps_onSlot fun g => (StepKeeps.refl s).answer _ _ _ _
  | readQueue src body => exact serve_stepKeeps h fun f => (StepKeeps.refl s).answer _ _ _ _
  | windSample src body =>
    refine serve_stepKeeps h fun f => ?_
    split
    · exact stepKeeps_refuse _ _ _
    · exact (bounded_takeSample _ _ _).settled.answer _ _ _ _
  | stowArray src body =>
    exact serve_stepKeeps h fun f => ((within_plainTrigger s).settled fun o => o.plainTrigger).answer _ _ _ _
  | releaseStow src body =>
    refine serve_stepKeeps h fun f => ?_
    split
    · exact ((within_enterClear s).settled fun o => o.enterClear).answer _ _ _ _
    all_goals exact stepKeeps_refuse _ _ _
  | resetWeatherSnapshot src body =>
    refine serve_stepKeeps h fun f => StepKeeps.answer ?_ _ _ _ _
    have ho : StepKeeps s s.openSnapshot := stepKeeps_setWind _
    split
    · exact ho.trans (stepKeeps_capture _ _)
    · exact ho
  | readWeather src body => exact serve_stepKeeps h fun f => (StepKeeps.refl s).answer _ _ _ _
  | setAllowance src body =>
    exact serve_stepKeeps h fun f => stepKeeps_ite ((StepKeeps.refl s).answer _ _ _ _)
      ((bounded_takeAllowance _).settled.answer _ _ _ _)
  | setMeltGuard src body =>
    refine serve_stepKeeps h fun f => stepKeeps_ite ((StepKeeps.refl s).answer _ _ _ _) ?_
    exact ((stepKeeps_setFeeder _).toBounded.trans bounded_askRound).settled.answer _ _ _ _
  | readFeeder src body => exact serve_stepKeeps h fun f => (StepKeeps.refl s).answer _ _ _ _
  | meltOrder src body =>
    refine serve_stepKeeps h fun f => ?_
    split
    · exact stepKeeps_refuse _ _ _
    · exact stepKeeps_ite (stepKeeps_refuse _ _ _)
        (((bounded_meltWalk _ _ _ _ _ s).trans bounded_askScan).settled.answer _ _ _ _)
  | cancelMelt src body =>
    refine serve_stepKeeps h fun f => ?_
    split
    · exact stepKeeps_refuse _ _ _
    · refine stepKeeps_ite (stepKeeps_refuse _ _ _) (StepKeeps.answer (Within.settled ?_ fun o => ?_) _ _ _ _)
      · exact (within_onDishes _ _ _ fun _ _ => within_cancelDish _ _ _).trans (within_askScan _)
      · exact (o.onDishes fun _ _ hs => hs.cancelDish).askScan
  | readMelt src body =>
    refine serve_stepKeeps h fun f => stepKeeps_ite ((StepKeeps.refl s).answer _ _ _ _) ?_
    split
    · exact (StepKeeps.refl s).answer _ _ _ _
    · exact stepKeeps_refuse _ _ _
  | writeConfigDish src body =>
    refine serve_stepKeeps h fun f => ?_
    split
    · exact stepKeeps_judgeWrite fun _ => stepKeeps_writeDish _ _ _
    · exact stepKeeps_refuseWrite _
  | writeConfigMast src body =>
    exact serve_stepKeeps h fun f => stepKeeps_judgeWrite fun _ => (bounded_takeMasts _).settled.answer _ _ _ _
  | writeConfigWind src body =>
    refine serve_stepKeeps h fun f => stepKeeps_judgeWrite fun _ => ?_
    have hp : StepKeeps s (s.putWind (windAfter f s.settings.wind)) := stepKeeps_setSettings _ id
    exact (hp.toBounded.trans (bounded_answerWind s)).settled.answer _ _ _ _
  | writeConfigTrack src body =>
    refine serve_stepKeeps h fun f => stepKeeps_judgeWrite fun hok => (stepKeeps_setSettings _ fun hl => ?_).answer _ _ _ _
    exact carried_le (hok _ List.mem_cons_self) hl
  | writeConfigMelt src body =>
    refine serve_stepKeeps h fun f => stepKeeps_judgeWrite fun _ => (stepKeeps_setSettings _ ?_).answer _ _ _ _
    exact id
  | writeConfigStation src body =>
    exact serve_stepKeeps h fun f => stepKeeps_judgeWrite fun _ => (stepKeeps_putStations _).answer _ _ _ _
  | readConfig src body =>
    refine serve_stepKeeps h fun f => ?_
    split
    · exact stepKeeps_refuse _ _ _
    · exact (StepKeeps.refl s).answer _ _ _ _
  | driveReset src body => exact serve_stepKeeps h fun f => bounded_driveReset.settled.answer _ _ _ _
  | placeLock src body =>
    refine serve_stepKeeps h fun f => ?_
    split
    · exact .refl s
    · split
      · split
        · exact stepKeeps_refuse _ _ _
        · exact stepKeeps_ite (stepKeeps_placeLock _ _ _ _ _) (stepKeeps_refuse _ _ _)
      · exact stepKeeps_refuse _ _ _
  | releaseLock src body =>
    refine serve_stepKeeps h fun f => ?_
    split
    · refine stepKeeps_ite ?_ (stepKeeps_refuse _ _ _)
      split
      · exact stepKeeps_refuse _ _ _
      · split
        · exact stepKeeps_refuse _ _ _
        · exact stepKeeps_removeLock _ _ _
    · exact stepKeeps_refuse _ _ _
  | readLocks src body =>
    refine serve_stepKeeps h fun f => stepKeeps_ite ((StepKeeps.refl s).answer _ _ _ _) ?_
    split
    · exact (StepKeeps.refl s).answer _ _ _ _
    · exact stepKeeps_refuse _ _ _
  | censusComplete src body =>
    refine serve_stepKeeps h fun f => ?_
    split
    · exact (bounded_completeCensus _).settled.answer _ _ _ _
    · exact stepKeeps_refuse _ _ _
    · exact .refl s
  | readDish src body =>
    refine serve_stepKeeps h fun f => ?_
    split
    · exact (StepKeeps.refl s).answer _ _ _ _
    · exact stepKeeps_refuse _ _ _
  | takeAttention src body => exact serve_stepKeeps h fun f => stepKeeps_takeAttention _
  | endAttention src body =>
    refine serve_stepKeeps h fun f => ?_
    split
    · exact stepKeeps_refuse _ _ _
    · refine (stepKeeps_setSource _ _ ?_).answer _ _ _ _
      exact fun _ hy => hy
  | setAttentionMask src body =>
    exact serve_stepKeeps h fun f => stepKeeps_ite (stepKeeps_refuse _ _ _) ((stepKeeps_maskSources _ _ _ _).answer _ _ _ _)
  | readViolation src body =>
    exact serve_stepKeeps h fun f => (stepKeeps_setViolation _ fun _ => by decide).answer _ _ _ _
  | portReset src body =>
    refine serve_stepKeeps h fun f => StepKeeps.answer ?_ _ _ _ _
    have hc : StepKeeps s ((portSources src.port).foldl (fun s x => s.setSource x SourceState.cleared) s) :=
      stepKeeps_foldl _ (fun _ _ => stepKeeps_setSource _ _ fun _ _ => Nat.zero_le _) _ _
    exact hc.trans <| (stepKeeps_emptyHolders _).trans (stepKeeps_portResetBlocks _)

/-- Settles O57: a step runs the front of the queue on the rest, or lets 1 ms pass. -/
theorem stepKeepsRangesAndCapacities : Obligations.StepKeepsRangesAndCapacities := by
  intro s t h
  have k : StepKeeps s t := by
    unfold step at h; split at h
    · cases h
      exact stepKeeps_ite (.refl s) ⟨⟨id, fun c => { c with }⟩, id⟩
    · next i rest _ =>
      have hp : StepKeeps s { s with pending := rest } := ⟨⟨id, fun c => { c with }⟩, id⟩
      exact hp.trans (exec_stepKeeps h)
  exact ⟨k.positions, k.capacity, k.quiet⟩

end Sys2Proof.Machine
end

section
/-! What a send, a miss and a report do to a dish's exchange (R20, R22, R24, R31, R32). -/

namespace Sys2Proof.Machine

/-! ## The report window -/

/-- A report or a miss finds its dish's window open exactly where the dish's report is awaited, the pin apart. -/
theorem reportAwaited_iff {s : State} {d : DishId} : ReportAwaited d s ↔ s.resetHeld = false ∧ s.awaits d = true := by
  unfold ReportAwaited State.awaits State.exchanges
  simp only [Bool.and_eq_true, decide_eq_true_eq]
  tauto

/-- An event that waits on a report window, and leaves the state alone outside it. -/
theorem event_awaits_taken {s take : State} {d : DishId} (h : ReportAwaited d s) :
    event s (if s.awaits d then take else s) = .next take := by
  obtain ⟨hr, ha⟩ := reportAwaited_iff.1 h
  rw [event_taken hr, if_pos ha]

theorem event_awaits_idle {s take : State} {d : DishId} (h : ¬ ReportAwaited d s) :
    event s (if s.awaits d then take else s) = .next s := by
  unfold event; split
  · rfl
  · next hr =>
    have ha : s.awaits d ≠ true := fun ha => h (reportAwaited_iff.2 ⟨by simpa using hr, ha⟩)
    rw [if_neg ha]

theorem exec_miss_taken {s : State} {d : DishId} (h : ReportAwaited d s) :
    exec (.miss d) s = .next ((s.closeWindow.countMiss d).judgeLoss d) := event_awaits_taken h

theorem exec_report_taken {s : State} {d : DishId} (r : Report) (h : ReportAwaited d s) :
    exec (.validReport d r) s = .next (s.closeWindow.takeReport d r).settle := event_awaits_taken h

/-! ## Misses -/

theorem countMiss_self (s : State) (d : DishId) : (s.countMiss d).ring.miss[d] = min 20 (s.ring.miss[d] + 1) := by
  simp [State.countMiss]

theorem countMiss_ne (s : State) {d e : DishId} (h : e ≠ d) : (s.countMiss d).ring.miss[e] = s.ring.miss[e] := by
  simp [State.countMiss, upd_get, h]

/-- No loss is taken below 20 misses, nor of a dish that is OFFLINE (R16). -/
theorem judgeLoss_none {s : State} {d : DishId} (h : s.ring.miss[d] ≠ 20 ∨ (s.dish d).motion = .offline) :
    s.judgeLoss d = s := by
  unfold State.judgeLoss
  rw [if_neg]
  rintro ⟨-, h20, ho⟩
  exact h.elim (· h20) ho

/-- Settles O16: below 20 misses, or OFFLINE, judgeLoss takes no loss. -/
theorem missCounts : Obligations.MissCounts := by
  unfold Obligations.MissCounts
  refine fun d s => ⟨fun ha hm => ?_, fun hn => event_awaits_idle hn⟩
  have hcount := countMiss_self s.closeWindow d
  have hloss : (s.closeWindow.countMiss d).judgeLoss d = s.closeWindow.countMiss d := judgeLoss_none <| by
    rcases hm with hm | hm
    · left; rw [hcount]; change min 20 (s.ring.miss[d] + 1) ≠ 20; omega
    · exact .inr hm
  refine ⟨_, exec_miss_taken ha, ?_⟩
  rw [hloss]
  exact ⟨hcount, fun e he => countMiss_ne _ he, rfl⟩

/-! ## Sends -/

/-- The lowest index that meets a test is the first found in ascending order. -/
theorem find?_finRange_eq_some {n : Nat} {p : Fin n → Bool} {d : Fin n} :
    (List.finRange n).find? p = some d ↔ p d = true ∧ ∀ e, e < d → p e = false := by
  rw [List.find?_eq_some_iff_getElem]
  constructor
  · rintro ⟨hp, i, hi, hd, hlt⟩
    refine ⟨hp, fun e he => ?_⟩
    have hdi : d.val = i := by rw [← hd]; simp
    have := hlt e.val (by omega)
    simpa using this
  · rintro ⟨hp, hlt⟩
    refine ⟨hp, d.val, by simp, by simp, fun j hj => ?_⟩
    simpa using hlt ⟨j, by omega⟩ hj

/-- A dish's send is next where no window is open and it is the lowest that has an exchange and has not had it (R20). -/
theorem sendsNext_iff {s : State} {d : DishId} : s.sendsNext d = true ↔
    s.ring.window = none ∧ ((s.cfg d).present = true ∧ s.ring.framed[d] = true) ∧ s.ring.place ≤ d.val
      ∧ ∀ e, e < d → ((s.cfg e).present = true ∧ s.ring.framed[e] = true) → e.val < s.ring.place := by
  unfold State.sendsNext State.nextExchange State.exchanges allDishes
  simp only [Bool.and_eq_true, decide_eq_true_eq, find?_finRange_eq_some, Bool.and_eq_false_iff, decide_eq_false_iff_not,
    not_le]
  refine and_congr_right fun _ => ?_
  rw [and_comm (a := s.ring.place ≤ d.val), and_assoc]
  refine and_congr_right fun _ => and_congr_right fun _ => forall₂_congr fun e _ => ?_
  rw [← Bool.and_eq_false_iff, ← Bool.not_eq_true, Bool.and_eq_true]
  tauto

/-- What R24 has sent: HOLD BRAKE for what a move-locked dish may not hear. -/
theorem toSend_eq (s : State) (d : DishId) : s.toSend d = match s.slot d with
    | .keep | .load _ _ _ | .go _ | .trackStep _ _ => if s.moveLocked d then .holdBrake else s.slot d
    | .stop | .holdBrake => s.slot d := by
  unfold State.toSend
  cases h : s.slot d <;> cases s.moveLocked d <;> rfl

/-- A command sent advances the commanded positions of its own dish, and only a TRACK STEP does (R4). -/
theorem advance_dish (s : State) (d : DishId) (c : Command) : (s.advance d c).dish d = match c with
    | .trackStep az el => { s.dish d with cmdAz := (s.dish d).cmdAz + az, cmdEl := (s.dish d).cmdEl + el }
    | .keep | .load _ _ _ | .go _ | .stop | .holdBrake => s.dish d := by
  cases c with
  | trackStep => exact setDish_dish_self _ _ _
  | keep | load | go | stop | holdBrake => rfl

theorem advance_dish_ne (s : State) {d e : DishId} (c : Command) (h : e ≠ d) : (s.advance d c).dish e = s.dish e := by
  cases c with
  | trackStep => simp [State.advance, setDish_dish, h]
  | keep | load | go | stop | holdBrake => rfl

theorem advance_ring (s : State) (d : DishId) (c : Command) : (s.advance d c).ring = s.ring := by cases c <;> rfl

/-- The state whose send is to be shown on the ring: the record, the slot after it, the window opened (R20, R22). -/
def State.sent (s : State) (d : DishId) : State :=
  { s with ring := { s.ring with
      slots := s.ring.slots.set d (s.toSend d).afterSend, out := some ⟨d, s.ring.frame, s.toSend d⟩, place := d.val + 1
      window := some d } }

theorem sendTo_eq (s : State) (d : DishId) : s.sendTo d = (s.sent d).advance d (s.toSend d) := rfl

theorem sendTo_ring (s : State) (d : DishId) : (s.sendTo d).ring = (s.sent d).ring := by rw [sendTo_eq, advance_ring]

theorem sendTo_slot (s : State) (d e : DishId) :
    (s.sendTo d).slot e = if e = d then (s.toSend d).afterSend else s.slot e := by
  have : (s.sendTo d).slot e = (s.sent d).slot e := congrArg (fun x : Ring => x.slots[e]) (sendTo_ring s d)
  exact this.trans (set_get _ _ _ _)

/-- A send changes the ring and the record of its dish alone. -/
theorem sendTo_rest (s : State) (d : DishId) :
    s.sendTo d = { s with ring := (s.sent d).ring, dishes := (s.sendTo d).dishes } := by
  rw [sendTo_eq]; cases s.toSend d <;> rfl

theorem afterSend_eq (c : Command) : c.afterSend = match c with
    | .load _ _ _ | .go _ | .trackStep _ _ => .keep
    | .keep | .stop | .holdBrake => c := by cases c <;> rfl

/-- Settles O11: the send found next is sendTo, whose parts toSend, afterSend and advance say once what they do. -/
theorem sendTakesTheSlot : Obligations.SendTakesTheSlot := by
  unfold Obligations.SendTakesTheSlot
  intro d s hr exchanges next
  have hnext : s.sendsNext d = true ↔ next := sendsNext_iff
  have hexec : exec (.commandSend d) s = .next (if s.sendsNext d then s.sendTo d else s) := event_taken hr
  refine ⟨fun h => ?_, fun h => ?_⟩
  · rw [if_pos (hnext.2 h)] at hexec
    intro c
    have hc : s.toSend d = c := toSend_eq s d
    have hring := sendTo_ring s d
    have hdish := advance_dish (s.sent d) d (s.toSend d)
    rw [← hc]
    refine ⟨_, hexec, congrArg Ring.out hring, ?_, hdish, fun e he => ⟨?_, advance_dish_ne (s.sent d) _ he⟩, ?_⟩
    · rw [sendTo_slot, if_pos rfl]; exact afterSend_eq _
    · rw [sendTo_slot, if_neg he]
    · rw [hring]; exact sendTo_rest s d
  · rw [if_neg (fun hs => h (hnext.1 hs))] at hexec
    exact hexec

/-! ## Reports -/

theorem storeReport_reported (s : State) (d : DishId) (r : Report) : ((s.storeReport d r).dish d).reported =
    ⟨clampAz r.az, clampEl r.el, r.moving, r.brakesSet, r.inPosition, r.profileLoaded, r.switchLock, r.fault,
      some s.ring.frame⟩ := by
  unfold State.storeReport; rw [setDish_dish_self]; rfl

theorem storeReport_dish_ne (s : State) {d e : DishId} (r : Report) (h : e ≠ d) : (s.storeReport d r).dish e = s.dish e := by
  unfold State.storeReport; rw [setDish_dish, if_neg h]; rfl

theorem storeReport_miss (s : State) (d e : DishId) (r : Report) :
    (s.storeReport d r).ring.miss[e] = if e = d then 0 else s.ring.miss[e] := set_get _ _ _ _

/-- What a report in its window changes beside the reports, the miss counts, the window and PENDING entries (R12). -/
theorem withinLocks_report (s : State) (d : DishId) (r : Report) :
    WithinLocks d (s.closeWindow.storeReport d r) (s.closeWindow.takeReport d r).settle :=
  (withinLocks_takeReport _ _ _).trans (within_settle _).withinLocks

/-- Settles O13: the stored report is followed by operations that keep the fixed part, PENDING entries apart. -/
theorem reportStored : Obligations.ReportStored := by
  unfold Obligations.ReportStored
  refine fun d r s => ⟨fun ha => ?_, fun hn => event_awaits_idle hn⟩
  obtain ⟨hlocks, hentries, hw⟩ := withinLocks_report s d r
  refine ⟨_, exec_report_taken r ha, ?_⟩
  generalize (s.closeWindow.takeReport d r).settle = t at hlocks hentries hw
  have hrep : ∀ e, (t.dish e).reported = ((s.closeWindow.storeReport d r).dish e).reported :=
    congrFun (congrArg Fixed.reports hw.fixed :)
  have hmiss : t.ring.miss = (s.closeWindow.storeReport d r).ring.miss := (congrArg Fixed.miss hw.fixed :)
  refine ⟨?_, ?_, fun e he => ⟨?_, ?_⟩, hentries, ?_, hw.orders, hw.energy⟩
  · rw [hrep, storeReport_reported]; rfl
  · rw [hmiss, storeReport_miss, if_pos rfl]
  · rw [hrep, storeReport_dish_ne _ _ he]; rfl
  · rw [hmiss, storeReport_miss, if_neg he]; rfl
  · have hfix : t.fixed = { (s.closeWindow.storeReport d r).fixed with locks := t.locks, fresh := t.fresh } := hw.fixed
    rw [hfix, hlocks, hmiss]; rfl

end Sys2Proof.Machine
end

section
/-! What the read requests answer: the state's own bytes at the head of each response, and nothing else changed. -/

namespace Sys2Proof.Machine

/-! ## Bytes -/

theorem flag_eq (b : Bool) : flag b = [if b then 1 else 0] := by cases b <;> rfl

theorem maskField_lt : ∀ bs : List Bool, maskField bs < 2 ^ bs.length
  | [] => by simp [maskField]
  | b :: bs => by
    have := maskField_lt bs
    have hb : b.toNat ≤ 1 := Bool.toNat_le b
    simp only [maskField, List.length_cons, Nat.pow_succ]; omega

/-- Bit i of a mask is the flag at place i (log 11). -/
theorem maskField_testBit : ∀ (bs : List Bool) (i : Nat), (maskField bs).testBit i = bs.getD i false
  | [], i => by simp [maskField]
  | b :: bs, 0 => by cases b <;> simp [maskField, Nat.testBit_zero]
  | b :: bs, i + 1 => by
    have hhalf : (b.toNat + 2 * maskField bs) / 2 = maskField bs := by
      have hb : b.toNat ≤ 1 := Bool.toNat_le b
      omega
    rw [maskField, Nat.testBit_succ, hhalf, maskField_testBit bs i, List.getD_cons_succ]

/-- The mask byte of at most eight flags, in ascending index from bit 0. -/
theorem maskByte {n : Nat} (hn : n ≤ 8) (v : Vector Bool n) :
    (BitVec.ofNat 8 (maskField v.toList)).toNat < 2 ^ n
      ∧ ∀ i : Fin n, (BitVec.ofNat 8 (maskField v.toList)).getLsbD i.val = v[i] := by
  have hlt : maskField v.toList < 2 ^ n := by simpa using maskField_lt v.toList
  refine ⟨lt_of_le_of_lt (Nat.mod_le _ _) hlt, fun i => ?_⟩
  have hi : i.val < 8 := by omega
  rw [BitVec.getLsbD_ofNat, maskField_testBit]
  simp [hi]

theorem toList_four {α : Type} (v : Vector α 4) : v.toList = [v[0], v[1], v[2], v[3]] := by
  obtain ⟨⟨xs⟩, hxs⟩ := v
  match xs, hxs with
  | [_, _, _, _], _ => rfl

/-! ## Answers -/

section
variable {s : State} {src : Sender}

/-- What a state that has answered with the bytes given shows at the head of the response. -/
theorem answered_head {o : Host.Outcome State Fault Refusal} {r : Request} {bytes head : List Byte}
    (h : o = .next (s.answer src r .ok bytes)) (hp : head <+: bytes) :
    ∃ rest, o = .next (s.putHolder src (some ⟨r.code, .ok, head ++ rest⟩)) := by
  obtain ⟨rest, rfl⟩ := hp
  exact ⟨rest, h⟩

theorem exec_readGroup (hh : s.hears .scheduler = true) (n : Nat) :
    exec (.readGroup .scheduler (.fields ⟨n⟩)) s = .next (s.onSlot .scheduler .readGroup n fun g =>
      s.answer .scheduler .readGroup .ok ((s.group g).field ++ (s.stream g).field)) := serve_taken hh rfl _ _

theorem exec_readMelt (hh : s.hears .safety = true) (n : Nat) :
    exec (.readMelt .safety (.fields ⟨n⟩)) s = .next (
      if n = 255 then s.answer .safety .readMelt .ok s.wholeMeltReadField
      else if h : n < 48 then s.answer .safety .readMelt .ok (s.dishMeltField ⟨n, h⟩)
      else s.refuse .safety .readMelt .badField) := serve_taken hh rfl _ _

/-- READ CONFIG of a section that there is, and of one that there is not. -/
theorem exec_readConfig_some (hh : s.hears .safety = true) {sec n : Nat} {bytes : List Byte}
    (hb : s.sectionField sec n = some bytes) :
    exec (.readConfig .safety (.fields ⟨sec, n⟩)) s = .next (s.answer .safety .readConfig .ok bytes) := by
  refine (serve_taken hh rfl _ _).trans ?_
  dsimp only; rw [hb]

theorem exec_readConfig_none (hh : s.hears .safety = true) {sec n : Nat} (hb : s.sectionField sec n = none) :
    exec (.readConfig .safety (.fields ⟨sec, n⟩)) s = .next (s.refuse .safety .readConfig .badField) := by
  refine (serve_taken hh rfl _ _).trans ?_
  dsimp only; rw [hb]

theorem sectionField_dish (s : State) (d : DishId) : s.sectionField 0 d.val = some (s.dishSection d) := dif_pos d.isLt

theorem sectionField_station (s : State) (n : Nat) : s.sectionField 5 n = some
    (u8 s.settings.station[0].address ++ u8 s.settings.station[1].address ++ u8 s.settings.station[2].address
      ++ u8 s.settings.station[3].address ++ [BitVec.ofNat 8 (maskField (s.settings.station.map (·.enabled)).toList)]) := by
  have h : s.sectionField 5 n = some s.stationSection := rfl
  rw [h, State.stationSection, Vector.toList_map, toList_four]
  simp [u8]

theorem sectionField_none {sec n : Nat} (h : 6 ≤ sec ∨ sec = 0 ∧ 48 ≤ n) : s.sectionField sec n = none := by
  rcases h with h | ⟨rfl, h⟩
  · obtain ⟨k, rfl⟩ := Nat.exists_eq_add_of_le' h
    rfl
  · exact dif_neg (by omega)

theorem exec_readLocks (st : StationId) (hh : s.hears (.station st) = true) (n : Nat) :
    exec (.readLocks (.station st) (.fields ⟨n⟩)) s = .next (
      if n = 255 then
        s.answer (.station st) .readLocks .ok (s.lockHeadField ++ list s.positionField (s.positionsWhere fun _ => true))
      else if h : n < 48 then
        s.answer (.station st) .readLocks .ok
          (s.lockHeadField ++ flag (s.dish ⟨n, h⟩).switchLock ++ s.lockCountsField ⟨n, h⟩
            ++ list s.positionField (s.positionsWhere fun e => decide (e.dish = ⟨n, h⟩)))
      else s.refuse (.station st) .readLocks .badField) := serve_taken hh rfl _ _

/-- READ LOCKS of a dish or of the whole table begins with the head that both share. -/
theorem exec_readLocks_head (st : StationId) (hh : s.hears (.station st) = true) {n : Nat} (hn : n < 48 ∨ n = 255) :
    ∃ rest, exec (.readLocks (.station st) (.fields ⟨n⟩)) s
      = .next (s.answer (.station st) .readLocks .ok (s.lockHeadField ++ rest)) := by
  rw [exec_readLocks st hh]
  by_cases h255 : n = 255
  · rw [if_pos h255]; exact ⟨_, rfl⟩
  · rw [if_neg h255, dif_pos (hn.resolve_right h255), List.append_assoc, List.append_assoc]; exact ⟨_, rfl⟩

theorem exec_readDish (hh : s.hears src = true) (n : Nat) :
    exec (.readDish src (.fields ⟨n⟩)) s = .next (if h : n < 48 then s.answer src .readDish .ok (s.dishField ⟨n, h⟩)
      else s.refuse src .readDish .badField) := serve_taken hh (by cases src <;> rfl) _ _

end

/-- Settles O56: each read is answered by its own field function, whose head is the bytes named. -/
theorem readsChangeNothing : Obligations.ReadsChangeNothing := by
  unfold Obligations.ReadsChangeNothing
  intro s answers refuses
  refine ⟨fun hh => ⟨fun g => ?_, fun n hn => ?_, ?_⟩,
    fun hh => ⟨?_, ?_, fun d => ?_, ?_, fun n hn h255 => ?_, fun d => ?_, fun n => ⟨?_, ?_, ?_, ?_, ?_⟩, fun sec n hn => ?_⟩,
    fun st hh => ⟨fun n hn => ?_, fun n hn h255 => ?_⟩,
    fun src hh => ⟨fun d => ?_, fun n hn => ?_⟩⟩
  · refine answered_head (r := .readGroup) ((exec_readGroup hh g.val).trans ?_) (bytes := (s.group g).field ++ (s.stream g).field) ?_
    · rw [State.onSlot, dif_pos g.isLt]
    · simp [Group.field, u8, u16]
  · exact (exec_readGroup hh n).trans (by rw [State.onSlot, dif_neg (by omega)]; rfl)
  · refine answered_head (serve_taken hh rfl _ _) ?_
    cases s.staging <;> simp [stagingField, u8]
  · refine answered_head (serve_taken hh rfl _ _) ?_
    simp [allMasts, List.finRange_succ, State.mastField, flag_eq]
  · refine answered_head (serve_taken hh rfl _ _) ?_
    simp [Nat.sub_sub]
  · refine answered_head (r := .readMelt) ((exec_readMelt hh d.val).trans ?_) (bytes := s.dishMeltField d) ?_
    · rw [if_neg (by omega), dif_pos d.isLt]
    · simp [State.dishMeltField, flag_eq]
  · refine answered_head (r := .readMelt) (exec_readMelt hh 255) ?_
    simp [State.wholeMeltReadField, State.meltSection]
  · exact (exec_readMelt hh n).trans (by rw [if_neg h255, dif_neg (by omega)]; rfl)
  · refine answered_head (exec_readConfig_some hh (sectionField_dish s d)) ?_
    simp [State.dishSection, u8, flag_eq]
  · obtain ⟨hlt, hbits⟩ := maskByte (by decide) s.settings.mastConfigured
    exact ⟨_, hlt, hbits, exec_readConfig_some hh rfl⟩
  · exact exec_readConfig_some hh rfl
  · exact exec_readConfig_some hh rfl
  · exact exec_readConfig_some hh rfl
  · obtain ⟨hlt, hbits⟩ := maskByte (by decide) (s.settings.station.map (·.enabled))
    exact ⟨_, hlt, fun k => (hbits k).trans (by simp), exec_readConfig_some hh (sectionField_station s n)⟩
  · exact exec_readConfig_none hh (sectionField_none hn)
  · obtain ⟨rest, h⟩ := exec_readLocks_head st hh hn
    refine answered_head h ?_
    cases hc : s.locks.census <;> simp [State.lockHeadField, hc, Census.field, u8]
  · exact (exec_readLocks st hh n).trans (by rw [if_neg h255, dif_neg (by omega)]; rfl)
  · refine answered_head (r := .readDish) ((exec_readDish hh d.val).trans ?_) (bytes := s.dishField d) ?_
    · rw [dif_pos d.isLt]
    · simp [State.dishField, Dish.field, u8, flag_eq]
  · exact (exec_readDish hh n).trans (by rw [dif_neg (by omega)]; rfl)

end Sys2Proof.Machine
end

section
/-! The places of the state that an operation touches: which dishes, which group slots, and whether the Stow Controller, the heaters
or the shed records. What it does not touch it leaves as it was. -/

namespace Sys2Proof.Machine

/-- The places of the state that the blocks' operations are told apart by. -/
inductive Place where
  | dish (d : DishId)
  | group (g : SlotId)
  | stow
  | heat
  | block
  | sheds
  deriving DecidableEq

/-- A zone that is IDLE or BLOCKED and stands out of the power order: neither a scan nor a shed finds it. -/
def State.Shut (s : State) (z : ZoneId) : Prop :=
  ((s.zone z).state = .idle ∨ (s.zone z).state = .blocked) ∧ z ∉ s.feeder.powerOrder.map (·.zone)

/-- A zone that is IDLE and stands out of the power order: no scan, no shed and no block condition finds it. -/
def State.Out (s : State) (z : ZoneId) : Prop := (s.zone z).state = .idle ∧ z ∉ s.feeder.powerOrder.map (·.zone)

/-- Between the two states nothing has changed at a place that is not in the list: a dish's record, slot and reservation, a group's
record and stream, the Stow Controller, the zones with the power order, the shed records. Without the place block, no zone has become
BLOCKED, one that was shut has stayed so, and one that was out is the same. No dish has joined the Shed List and no zone the Melt
Rotation List, and the Order Queue is the same. -/
structure Touches (ps : List Place) (s t : State) : Prop where
  dish : ∀ d, .dish d ∉ ps →
    t.dish d = s.dish d ∧ t.slot d = s.slot d ∧ t.feeder.reservations[d] = s.feeder.reservations[d]
  group : ∀ g, .group g ∉ ps → t.group g = s.group g ∧ t.stream g = s.stream g
  stow : .stow ∉ ps → t.stow = s.stow
  heat : .heat ∉ ps → t.melt.zones = s.melt.zones ∧ t.feeder.powerOrder = s.feeder.powerOrder
  block : .block ∉ ps → ∀ z, ((s.zone z).state ≠ .blocked → (t.zone z).state ≠ .blocked) ∧ (s.Shut z → t.Shut z)
    ∧ (s.Out z → t.zone z = s.zone z ∧ t.Out z)
  sheds : .sheds ∉ ps → t.melt.shedMoves = s.melt.shedMoves ∧ t.melt.shedResult = s.melt.shedResult
    ∧ t.melt.shedList = s.melt.shedList
  listed : t.melt.shedList ⊆ s.melt.shedList
  rotation : t.melt.rotation ⊆ s.melt.rotation
  orders : t.orders = s.orders

section
variable {ps qs : List Place} {s t u : State}

theorem Touches.refl (ps : List Place) (s : State) : Touches ps s s :=
  ⟨fun _ _ => ⟨rfl, rfl, rfl⟩, fun _ _ => ⟨rfl, rfl⟩, fun _ => rfl, fun _ => ⟨rfl, rfl⟩, fun _ _ => ⟨id, id, fun h => ⟨rfl, h⟩⟩,
    fun _ => ⟨rfl, rfl, rfl⟩, List.Subset.refl _, List.Subset.refl _, rfl⟩

theorem Touches.mono (h : Touches ps s t) (hp : ps ⊆ qs) : Touches qs s t :=
  ⟨fun d hd => h.dish d fun e => hd (hp e), fun g hg => h.group g fun e => hg (hp e), fun w => h.stow fun e => w (hp e),
    fun w => h.heat fun e => w (hp e), fun w => h.block fun e => w (hp e), fun w => h.sheds fun e => w (hp e), h.listed, h.rotation, h.orders⟩

theorem Touches.trans (h : Touches ps s t) (k : Touches ps t u) : Touches ps s u := by
  refine ⟨fun d hd => ?_, fun g hg => ?_, fun w => (k.stow w).trans (h.stow w), fun w => ?_,
    fun w z => ?_, fun w => ?_,
    List.Subset.trans k.listed h.listed, List.Subset.trans k.rotation h.rotation, k.orders.trans h.orders⟩
  · obtain ⟨a, b, c⟩ := h.dish d hd
    obtain ⟨a', b', c'⟩ := k.dish d hd
    exact ⟨a'.trans a, b'.trans b, c'.trans c⟩
  · obtain ⟨a, b⟩ := h.group g hg
    obtain ⟨a', b'⟩ := k.group g hg
    exact ⟨a'.trans a, b'.trans b⟩
  · obtain ⟨a, b⟩ := h.heat w
    obtain ⟨a', b'⟩ := k.heat w
    exact ⟨a'.trans a, b'.trans b⟩
  · obtain ⟨a, b, c⟩ := h.block w z
    obtain ⟨a', b', c'⟩ := k.block w z
    exact ⟨a' ∘ a, b' ∘ b, fun o => ⟨(c' (c o).2).1.trans (c o).1, (c' (c o).2).2⟩⟩
  · obtain ⟨a, b, c⟩ := h.sheds w
    obtain ⟨a', b', c'⟩ := k.sheds w
    exact ⟨a'.trans a, b'.trans b, c'.trans c⟩

/-- One operation after another touches what either touches. -/
theorem Touches.then (h : Touches ps s t) (k : Touches qs t u) : Touches (ps ++ qs) s u :=
  (h.mono (List.subset_append_left _ _)).trans (k.mono (List.subset_append_right _ _))

/-- A further operation at places already in the list. -/
theorem Touches.after (h : Touches ps s t) (k : Touches qs t u) (hq : qs ⊆ ps) : Touches ps s u := h.trans (k.mono hq)

theorem touches_ite {c : Prop} [Decidable c] (ht : Touches ps s t) (hu : Touches ps s u) :
    Touches ps s (if c then t else u) := by split <;> assumption

theorem touches_foldl {α : Type} (f : State → α → State) (xs : List α) (h : ∀ x ∈ xs, ∀ s, Touches ps s (f s x)) (s : State) :
    Touches ps s (xs.foldl f s) := by
  induction xs generalizing s with
  | nil => exact .refl _ s
  | cons x xs ih =>
    exact (h x List.mem_cons_self s).trans (ih (fun y hy => h y (List.mem_cons_of_mem _ hy)) _)

/-- Dish by dish, an operation that touches each dish alone touches those of the list. -/
theorem touches_onDishes (f : State → DishId → State) (h : ∀ s d, Touches [.dish d] s (f s d)) (ds : List DishId) (s : State) :
    Touches (ds.map .dish) s (s.onDishes ds f) :=
  touches_foldl f ds (fun d hd s => (h s d).mono (by simpa using hd)) s

theorem touches_onAll (f : State → DishId → State) (h : ∀ s d, Touches ps s (f s d)) (ds : List DishId) (s : State) :
    Touches ps s (s.onDishes ds f) := touches_foldl f ds (fun d _ s => h s d) s

/-- An update that changes none of the places. -/
theorem Touches.of_same (h1 : t.dishes = s.dishes) (h2 : t.ring.slots = s.ring.slots)
    (h3 : t.feeder.reservations = s.feeder.reservations) (h4 : t.groups = s.groups) (h5 : t.streams = s.streams)
    (h6 : t.stow = s.stow) (h7 : t.melt.zones = s.melt.zones) (h8 : t.feeder.powerOrder = s.feeder.powerOrder)
    (h9 : t.melt.shedMoves = s.melt.shedMoves) (h10 : t.melt.shedResult = s.melt.shedResult)
    (h11 : t.melt.shedList = s.melt.shedList) (h12 : t.orders = s.orders) (h13 : t.melt.rotation = s.melt.rotation) :
    Touches ps s t :=
  ⟨fun d _ => by simp [State.dish, State.slot, h1, h2, h3], fun g _ => by simp [State.group, State.stream, h4, h5],
    fun _ => h6, fun _ => ⟨h7, h8⟩, fun _ z => by simp +contextual [State.Shut, State.Out, State.zone, h7, h8],
    fun _ => ⟨h9, h10, h11⟩, by rw [h11]; exact List.Subset.refl _, by rw [h13]; exact List.Subset.refl _, h12⟩

theorem Touches.askRound (h : Touches ps s t) : Touches ps s t.askRound := ⟨h.1, h.2, h.3, h.4, h.5, h.6, h.7, h.8, h.9⟩

theorem Touches.askScan (h : Touches ps s t) : Touches ps s t.askScan := ⟨h.1, h.2, h.3, h.4, h.5, h.6, h.7, h.8, h.9⟩

theorem Touches.askJudge (h : Touches ps s t) : Touches ps s t.askJudge := ⟨h.1, h.2, h.3, h.4, h.5, h.6, h.7, h.8, h.9⟩

theorem Touches.raise (h : Touches ps s t) (x : Source) (w : Detail) : Touches ps s (t.raise x w) :=
  ⟨h.1, h.2, h.3, h.4, h.5, h.6, h.7, h.8, h.9⟩

end

/-! ## Dishes -/

section
variable (s : State) (d : DishId)

theorem touches_setDish (f : Dish → Dish) : Touches [.dish d] s (s.setDish d f) :=
  ⟨fun e he => ⟨by rw [setDish_dish, if_neg (by simpa using he)], rfl, rfl⟩, fun _ _ => ⟨rfl, rfl⟩, fun _ => rfl,
    fun _ => ⟨rfl, rfl⟩, fun _ _ => ⟨id, id, fun h => ⟨rfl, h⟩⟩, fun _ => ⟨rfl, rfl, rfl⟩, List.Subset.refl _, List.Subset.refl _, rfl⟩

theorem touches_setMotion (m : Motion) : Touches [.dish d] s (s.setMotion d m) := touches_setDish _ _ _

theorem touches_leaveGroup : Touches [.dish d] s (s.leaveGroup d) := touches_setDish _ _ _

theorem touches_putSlot (c : Command) : Touches [.dish d] s (s.putSlot d c) :=
  ⟨fun e he => ⟨rfl, by rw [putSlot_slot, if_neg (by simpa using he)], rfl⟩, fun _ _ => ⟨rfl, rfl⟩, fun _ => rfl,
    fun _ => ⟨rfl, rfl⟩, fun _ _ => ⟨id, id, fun h => ⟨rfl, h⟩⟩, fun _ => ⟨rfl, rfl, rfl⟩, List.Subset.refl _, List.Subset.refl _, rfl⟩

theorem touches_writeHoldBrake : Touches [.dish d] s (s.writeHoldBrake d) := touches_putSlot _ _ _

theorem putReservation_get (r : Option Reservation) (e : DishId) :
    (s.putReservation d r).feeder.reservations[e] = if e = d then r else s.feeder.reservations[e] := set_get _ _ _ _

theorem touches_putReservation (r : Option Reservation) : Touches [.dish d] s (s.putReservation d r) :=
  ⟨fun e he => ⟨rfl, rfl, by rw [putReservation_get, if_neg (by simpa using he)]⟩, fun _ _ => ⟨rfl, rfl⟩, fun _ => rfl,
    fun _ => ⟨rfl, rfl⟩, fun _ _ => ⟨id, id, fun h => ⟨rfl, h⟩⟩, fun _ => ⟨rfl, rfl, rfl⟩, List.Subset.refl _, List.Subset.refl _, rfl⟩

theorem touches_enterReservation (n : Nat) (p : Purpose) : Touches [.dish d] s (s.enterReservation d n p) :=
  touches_ite (.refl _ s) (touches_putReservation _ _ _).askScan

theorem touches_releaseReservation : Touches [.dish d] s (s.releaseReservation d) := by
  unfold State.releaseReservation; split
  · exact .refl _ s
  · exact (touches_putReservation _ _ _).askRound.askScan.askJudge

theorem touches_limitReservation (n : Nat) : Touches [.dish d] s (s.limitReservation d n) := by
  unfold State.limitReservation; split
  · exact .refl _ s
  · exact touches_ite (.refl _ s) (touches_putReservation _ _ _).askRound.askScan.askJudge

theorem touches_writeStop : Touches [.dish d] s (s.writeStop d) := (touches_putSlot _ _ _).trans (touches_releaseReservation _ _)

theorem touches_stopDish : Touches [.dish d] s (s.stopDish d) := (touches_writeStop _ _).trans (touches_setMotion _ _ _)

theorem touches_faultDish : Touches [.dish d] s (s.faultDish d) := (touches_writeStop _ _).trans (touches_setMotion _ _ _)

theorem touches_stopUnlessLost : Touches [.dish d] s (s.stopUnlessLost d) := touches_ite (.refl _ s) (touches_stopDish _ _)

theorem touches_writeLoad (az el : AxisLoad) (n : Nat) : Touches [.dish d] s (s.writeLoad d az el n) :=
  touches_ite (.refl _ s) ((touches_putSlot _ _ _).trans (touches_setDish _ _ _))

theorem touches_writeGo (f : Frame) : Touches [.dish d] s (s.writeGo d f) := touches_ite (.refl _ s) (touches_putSlot _ _ _)

theorem touches_raiseConflict (ps : List Place) (k : ConflictKind) : Touches ps s (s.raiseConflict d k) := by
  unfold State.raiseConflict; split
  · exact (Touches.refl ps s).raise _ _
  · exact .refl _ s

end

/-! ## Heaters -/

section
variable (s : State) (z : ZoneId)

/-- What an operation that may block zones touches. -/
abbrev heatBlock : List Place := [.heat, .block]

/-- An update of the heaters' records alone. -/
theorem Touches.of_heat {s t : State} (h1 : t.dishes = s.dishes) (h2 : t.ring = s.ring)
    (h3 : t.feeder.reservations = s.feeder.reservations) (h4 : t.groups = s.groups) (h5 : t.streams = s.streams)
    (h6 : t.stow = s.stow) (h7 : t.melt.shedMoves = s.melt.shedMoves) (h8 : t.melt.shedResult = s.melt.shedResult)
    (h9 : t.melt.shedList = s.melt.shedList) (h10 : t.orders = s.orders) (h11 : t.melt.rotation ⊆ s.melt.rotation) :
    Touches heatBlock s t :=
  ⟨fun d _ => by simp [State.dish, State.slot, h1, h2, h3], fun g _ => by simp [State.group, State.stream, h4, h5],
    fun _ => h6, fun h => absurd List.mem_cons_self h, fun h => absurd (List.mem_cons_of_mem _ List.mem_cons_self) h,
    fun _ => ⟨h7, h8, h9⟩, by rw [h9]; exact List.Subset.refl _, h11, h10⟩

/-- An operation on the heaters that blocks no zone and finds no shut one. -/
theorem Touches.of_unblocking {s t : State} (h : Touches heatBlock s t)
    (hz : ∀ z, ((s.zone z).state ≠ .blocked → (t.zone z).state ≠ .blocked) ∧ (s.Shut z → t.Shut z)
      ∧ (s.Out z → t.zone z = s.zone z ∧ t.Out z)) : Touches [.heat] s t where
  dish d _ := h.dish d (by simp)
  group g _ := h.group g (by simp)
  stow _ := h.stow (by simp)
  heat w := absurd List.mem_cons_self w
  block _ := hz
  sheds _ := h.sheds (by simp)
  listed := h.listed
  rotation := h.rotation
  orders := h.orders

theorem touches_setZone (f : Zone → Zone) : Touches heatBlock s (s.setZone z f) :=
  .of_heat rfl rfl rfl rfl rfl rfl rfl rfl rfl rfl (List.Subset.refl _)

theorem touches_clearIce (ps : List Place) (d : DishId) : Touches ps s (s.clearIce d) :=
  .of_same rfl rfl rfl rfl rfl rfl rfl rfl rfl rfl rfl rfl rfl

theorem touches_retireZone : Touches heatBlock s (s.retireZone z) :=
  .of_heat rfl rfl rfl rfl rfl rfl rfl rfl rfl rfl fun _ h => (List.mem_filter.1 h).1

theorem touches_leavePowerOrder : Touches heatBlock s (s.leavePowerOrder z) := .of_heat rfl rfl rfl rfl rfl rfl rfl rfl rfl rfl (List.Subset.refl _)

theorem touches_completeZone : Touches heatBlock s (s.completeZone z) := by
  unfold State.completeZone; dsimp only
  exact touches_ite (((touches_retireZone _ _).trans (touches_clearIce _ _ _)).raise _ _) (touches_retireZone _ _)

theorem touches_unpower (st : ZoneState) : Touches heatBlock s (s.unpower z st) := by
  have h : Touches heatBlock s ((s.chargeZone z).cutPower z st) := .of_heat rfl rfl rfl rfl rfl rfl rfl rfl rfl rfl (List.Subset.refl _)
  unfold State.unpower; dsimp only
  exact touches_ite (h.trans (touches_completeZone _ _)) h

theorem touches_reblockZone : Touches heatBlock s (s.reblockZone z) := by
  unfold State.reblockZone; split
  · exact .refl _ s
  · exact touches_ite (touches_unpower _ _ _).askScan (.refl _ s)
  · exact touches_ite (touches_setZone _ _ _).askScan (.refl _ s)
  · exact touches_ite (.refl _ s) (touches_setZone _ _ _).askScan

theorem touches_reblockAll : Touches heatBlock s s.reblockAll :=
  (touches_foldl _ _ (fun z _ s => touches_reblockZone s z) s).askScan

theorem touches_reblockDish (d : DishId) : Touches heatBlock s (s.reblockDish d) :=
  touches_foldl _ _ (fun z _ s => touches_reblockZone s z) s

theorem touches_answerBlock (d : DishId) (b : Bool) : Touches heatBlock s (s.answerBlock d b) :=
  touches_ite (touches_reblockDish _ _).askScan (touches_reblockDish _ _)

theorem touches_cancelZone : Touches heatBlock s (s.cancelZone z) := by
  unfold State.cancelZone; split
  · exact .refl _ s
  · exact (touches_leavePowerOrder _ _).trans (touches_retireZone _ _)
  · exact touches_retireZone _ _
  · exact touches_retireZone _ _

theorem touches_iceAfterCancel (ps : List Place) (d : DishId) : Touches ps s (s.iceAfterCancel d) :=
  touches_ite (touches_clearIce _ _ _) (.refl _ s)

end

/-! ## Zones unpowered, powered and shed -/

section
variable (s : State) (z w : ZoneId)

theorem retireZone_zone : (s.retireZone z).zone w = if w = z then Zone.reset else s.zone w :=
  setZone_zone s z w fun _ => Zone.reset

/-- The unpowering of a zone leaves every other zone as it was. -/
theorem unpower_zone_ne (st : ZoneState) (h : w ≠ z) : (s.unpower z st).zone w = s.zone w := by
  have hcut : ((s.chargeZone z).cutPower z st).zone w = s.zone w := by
    unfold State.cutPower State.chargeZone
    rw [setZone_zone, if_neg h]
    exact (setZone_zone _ _ _ _).trans (if_neg h)
  have hret : ((s.chargeZone z).cutPower z st |>.retireZone z).zone w = s.zone w := by
    rw [retireZone_zone, if_neg h, hcut]
  unfold State.unpower; dsimp only
  split
  · unfold State.completeZone; dsimp only
    split <;> exact hret
  · exact hcut

/-- A zone unpowered is in the state its cause gives, or IDLE where it is spent (R134). -/
theorem unpower_zone_self (st : ZoneState) : ((s.unpower z st).zone z).state = st ∨ ((s.unpower z st).zone z).state = .idle := by
  have hret : (((s.chargeZone z).cutPower z st).retireZone z).zone z = Zone.reset := by
    rw [retireZone_zone, if_pos rfl]
  unfold State.unpower; dsimp only
  split
  · right
    unfold State.completeZone; dsimp only
    split <;> exact congrArg Zone.state hret
  · left
    unfold State.cutPower
    rw [setZone_zone, if_pos rfl]

theorem unpower_powerOrder (st : ZoneState) :
    (s.unpower z st).feeder.powerOrder = s.feeder.powerOrder.filter fun x => decide (x.zone ≠ z) := by
  unfold State.unpower; dsimp only
  split
  · unfold State.completeZone; dsimp only
    split <;> rfl
  · rfl

/-- A zone unpowered stands no longer in the power order, and no other has joined it. -/
theorem mem_unpower_order (st : ZoneState) :
    w ∈ (s.unpower z st).feeder.powerOrder.map (·.zone) ↔ w ∈ s.feeder.powerOrder.map (·.zone) ∧ w ≠ z := by
  rw [unpower_powerOrder]
  simp only [List.mem_map, List.mem_filter, decide_eq_true_eq]
  constructor
  · rintro ⟨x, ⟨hx, hne⟩, rfl⟩; exact ⟨⟨x, hx, rfl⟩, hne⟩
  · rintro ⟨⟨x, hx, rfl⟩, hne⟩; exact ⟨x, ⟨hx, hne⟩, rfl⟩

/-- A shut zone stays shut while another is unpowered. -/
theorem State.Shut.unpower {s : State} {z w : ZoneId} (h : s.Shut w) (hw : w ≠ z) (st : ZoneState) :
    (s.unpower z st).Shut w := by
  refine ⟨by rw [unpower_zone_ne _ _ _ _ hw]; exact h.1, fun hc => h.2 ((mem_unpower_order _ _ _ _).1 hc).1⟩

/-- A zone out stays as it is while another is unpowered. -/
theorem State.Out.unpower {s : State} {z w : ZoneId} (h : s.Out w) (hw : w ≠ z) (st : ZoneState) :
    (s.unpower z st).zone w = s.zone w ∧ (s.unpower z st).Out w := by
  have hz := unpower_zone_ne s z w st hw
  exact ⟨hz, by rw [hz]; exact h.1, fun hc => h.2 ((mem_unpower_order _ _ _ _).1 hc).1⟩

theorem shedWalk_unblocking (xs : List PoweredZone) (s : State) (w : ZoneId) :
    ((s.zone w).state ≠ .blocked → ((shedWalk xs s).zone w).state ≠ .blocked)
      ∧ (w ∉ xs.map (·.zone) → (s.Shut w → (shedWalk xs s).Shut w)
        ∧ (s.Out w → (shedWalk xs s).zone w = s.zone w ∧ (shedWalk xs s).Out w)) := by
  induction xs generalizing s with
  | nil => exact ⟨id, fun _ => ⟨id, fun h => ⟨rfl, h⟩⟩⟩
  | cons x xs ih =>
    unfold shedWalk; split
    · exact ⟨id, fun _ => ⟨id, fun h => ⟨rfl, h⟩⟩⟩
    · obtain ⟨hb, hs⟩ := ih (s.unpower x.zone .waiting)
      refine ⟨fun h => hb ?_, fun hx => ?_⟩
      · by_cases hw : w = x.zone
        · subst hw
          rcases unpower_zone_self s x.zone .waiting with e | e <;> rw [e] <;> decide
        · rwa [unpower_zone_ne _ _ _ _ hw]
      · rw [List.map_cons, List.mem_cons, not_or] at hx
        obtain ⟨hshut, hout⟩ := hs hx.2
        refine ⟨fun h => hshut (h.unpower hx.1 _), fun h => ?_⟩
        obtain ⟨h1, h2⟩ := h.unpower hx.1 .waiting
        exact ⟨(hout h2).1.trans h1, (hout h2).2⟩

theorem touches_shedWalk (xs : List PoweredZone) (s : State) : Touches heatBlock s (shedWalk xs s) := by
  induction xs generalizing s with
  | nil => exact .refl _ s
  | cons x xs ih =>
    unfold shedWalk
    exact touches_ite (.refl _ s) ((touches_unpower _ _ _).trans (ih _))

/-- Heaters shed wait for power again: none is blocked, and no shut one is found (R118). -/
theorem touches_shedHeaters : Touches [.heat] s s.shedHeaters := by
  refine (touches_shedWalk _ _).of_unblocking fun w => ?_
  obtain ⟨hb, hs⟩ := shedWalk_unblocking s.feeder.powerOrder.reverse s w
  have hmem : w ∉ s.feeder.powerOrder.map (·.zone) → w ∉ s.feeder.powerOrder.reverse.map (·.zone) := fun h => by
    rwa [List.map_reverse, List.mem_reverse]
  exact ⟨hb, fun h => (hs (hmem h.2)).1 h, fun h => (hs (hmem h.2)).2 h⟩

theorem touches_powerZone (p : Nat) (hz : (s.zone z).state = .waiting) : Touches [.heat] s (s.powerZone z p) := by
  refine Touches.of_unblocking (.of_heat rfl rfl rfl rfl rfl rfl rfl rfl rfl rfl (List.Subset.refl _)) fun w => ?_
  have hzone : (s.powerZone z p).zone w = if w = z then { s.zone w with
      state := .powered, power := some p, timer := some (s.clock + s.settings.melt.slot * 1000)
      lastCharge := some s.clock } else s.zone w := setZone_zone _ _ _ _
  have horder : (s.powerZone z p).feeder.powerOrder = s.feeder.powerOrder ++ [⟨z, p⟩] := rfl
  have hmem : w ≠ z → w ∉ s.feeder.powerOrder.map (·.zone) → w ∉ (s.powerZone z p).feeder.powerOrder.map (·.zone) :=
    fun hw h => by
      rw [horder, List.map_append, List.mem_append, not_or]
      exact ⟨h, by simpa using hw⟩
  by_cases hw : w = z
  · subst hw
    rw [hzone, if_pos rfl]
    refine ⟨fun _ => nofun, fun h => ?_, fun h => ?_⟩
    · rcases h.1 with e | e <;> rw [hz] at e <;> cases e
    · rw [h.1] at hz; cases hz
  · rw [hzone, if_neg hw]
    exact ⟨id, fun h => ⟨by rw [hzone, if_neg hw]; exact h.1, hmem hw h.2⟩,
      fun h => ⟨rfl, by rw [hzone, if_neg hw]; exact h.1, hmem hw h.2⟩⟩

end

/-! ## Stow Controller -/

section
variable (s : State) (d : DishId)

/-- An update of the Stow Controller's records alone. -/
theorem touches_putStow (x : Stow) : Touches [.stow] s { s with stow := x } :=
  ⟨fun _ _ => ⟨rfl, rfl, rfl⟩, fun _ _ => ⟨rfl, rfl⟩, fun h => absurd List.mem_cons_self h, fun _ => ⟨rfl, rfl⟩,
    fun _ _ => ⟨id, id, fun h => ⟨rfl, h⟩⟩, fun _ => ⟨rfl, rfl, rfl⟩, List.Subset.refl _, List.Subset.refl _, rfl⟩

theorem touches_setMark (m : StowMark) : Touches [.stow] s (s.setMark d m) := touches_putStow _ _

theorem touches_setMove (m : Option StowMove) : Touches [.stow] s (s.setMove d m) := touches_putStow _ _

theorem touches_unqueue : Touches [.stow] s (s.unqueue d) := touches_ite (touches_putStow _ _).askRound (.refl _ s)

theorem touches_setStowState (x : StowState) : Touches [.stow] s (s.setStowState x) :=
  touches_ite (.refl _ s) ((touches_putStow s _).raise _ _)

theorem touches_enterCalmWait : Touches [.stow] s s.enterCalmWait := (touches_putStow _ _).trans (touches_setStowState _ _)

theorem touches_joinQueue : Touches [.stow] s (s.joinQueue d) := by
  have h := (touches_putStow s { s.stow with queue := if s.queued d then s.stow.queue else s.stow.queue ++ [d] }).askRound
  exact touches_ite (h.trans (touches_raiseConflict _ _ _ _)) h

/-- What operations of the Stow Controller that begin or end the heaters' block touch. -/
abbrev stowHeat : List Place := [.stow, .heat, .block]

theorem Touches.of_stow {s t : State} (h : Touches [.stow] s t) : Touches stowHeat s t := h.mono (by simp)

theorem Touches.of_heaters {s t : State} (h : Touches heatBlock s t) : Touches stowHeat s t := h.mono (by simp)

theorem touches_checkStowedHold : Touches stowHeat s s.checkStowedHold := by
  have h := (touches_setStowState s .stowedHold).of_stow.trans (touches_reblockAll _).of_heaters
  unfold State.checkStowedHold; dsimp only
  exact touches_ite (touches_ite (h.trans (touches_enterCalmWait _).of_stow) h) (.refl _ s)

theorem touches_rejoinTail : Touches stowHeat s (s.rejoinTail d) := by
  have h := ((touches_setMark s d .none).trans (touches_joinQueue _ d)).of_stow
  unfold State.rejoinTail; dsimp only
  exact touches_ite (h.trans ((touches_setStowState _ _).of_stow.trans (touches_reblockAll _).of_heaters)) h

theorem touches_rejoinBlocked : Touches stowHeat s (s.rejoinBlocked d) := by
  unfold State.rejoinBlocked; split
  · split
    case _ | _ | _ => exact (touches_setMark _ _ _).of_stow
    all_goals exact touches_rejoinTail _ _
  · exact .refl _ s

theorem touches_rejoinUnreachable : Touches stowHeat s (s.rejoinUnreachable d) :=
  touches_ite (touches_ite (touches_setMark _ _ _).of_stow (touches_rejoinTail _ _)) (.refl _ s)

theorem touches_markDish (m : StowMark) (w : Detail) : Touches stowHeat s (s.markDish d m w) :=
  Touches.trans (((touches_unqueue s d).trans ((touches_setMove _ _ _).trans (touches_setMark _ _ _))).of_stow.raise _ _)
    (touches_checkStowedHold _)

theorem touches_stowOnFault (m : Motion) : Touches stowHeat s (s.stowOnFault d m) :=
  touches_ite (.refl _ s) <| touches_ite (touches_markDish _ _ _ _) <| touches_ite (touches_markDish _ _ _ _) (.refl _ s)

theorem touches_stowOnLoss (m : Motion) : Touches stowHeat s (s.stowOnLoss d m) :=
  touches_ite (.refl _ s) <| touches_ite (touches_markDish _ _ _ _) (.refl _ s)

theorem touches_stowOnLocked : Touches stowHeat s (s.stowOnLocked d) := touches_ite (touches_markDish _ _ _ _) (.refl _ s)

end

/-! ## Groups -/

section
variable (s : State) (g : SlotId) (d : DishId)

theorem touches_setGroup (f : Group → Group) : Touches [.group g] s (s.setGroup g f) :=
  ⟨fun _ _ => ⟨rfl, rfl, rfl⟩, fun k hk => ⟨by rw [setGroup_group, if_neg (by simpa using hk)], rfl⟩, fun _ => rfl,
    fun _ => ⟨rfl, rfl⟩, fun _ _ => ⟨id, id, fun h => ⟨rfl, h⟩⟩, fun _ => ⟨rfl, rfl, rfl⟩, List.Subset.refl _, List.Subset.refl _, rfl⟩

theorem touches_setStream (f : Stream → Stream) : Touches [.group g] s (s.setStream g f) :=
  ⟨fun _ _ => ⟨rfl, rfl, rfl⟩, fun k hk => ⟨rfl, by rw [setStream_stream, if_neg (by simpa using hk)]⟩, fun _ => rfl,
    fun _ => ⟨rfl, rfl⟩, fun _ _ => ⟨id, id, fun h => ⟨rfl, h⟩⟩, fun _ => ⟨rfl, rfl, rfl⟩, List.Subset.refl _, List.Subset.refl _, rfl⟩

theorem touches_setMember (f : Member → Member) : Touches [.group g] s (s.setMember g d f) := touches_setGroup _ _ _

theorem touches_freeSlot (r : GroupResult) : Touches [.group g] s (s.freeSlot g r) :=
  ((touches_setGroup _ _ _).trans (touches_setStream _ _ _)).askRound

/-- The places of a group: its slot and its active members' dishes. -/
def Group.places (x : Group) (g : SlotId) : List Place := .group g :: x.activeDishes.map .dish

theorem touches_slot {s t : State} (h : Touches [.group g] s t) (x : Group) : Touches (x.places g) s t :=
  h.mono (by simp [Group.places])

theorem touches_members {s t : State} {x : Group} (h : Touches (x.activeDishes.map .dish) s t) (g : SlotId) :
    Touches (x.places g) s t := h.mono (List.subset_cons_self _ _)

theorem touches_passOnArrival : Touches ((s.group g).places g) s (s.passOnArrival g) := by
  unfold State.passOnArrival; split
  · have h : Touches _ s _ := (touches_onDishes State.writeHoldBrake touches_writeHoldBrake (s.group g).activeDishes s).trans
      (touches_onDishes State.releaseReservation touches_releaseReservation (s.group g).activeDishes _)
    unfold State.passPositioned State.raiseArrived State.setGroupState; dsimp only
    exact ((touches_members h g).trans (touches_slot _ (touches_setGroup _ _ _) _)).raise _ _
  · have h : Touches _ s _ := touches_onDishes (fun s d => s.limitReservation d (s.trackSum d))
      (fun s d => touches_limitReservation s d _) (s.group g).activeDishes s
    unfold State.passTracking State.raiseArrived State.setGroupState; dsimp only
    exact ((touches_members h g).trans (touches_slot _ ((touches_setStream _ _ _).trans (touches_setGroup _ _ _)) _)).raise _ _

theorem touches_judgeGroup : Touches ((s.group g).places g) s (s.judgeGroup g) := by
  unfold State.judgeGroup; split
  · have h : Touches _ s _ := touches_onDishes (fun u d => u.writeGo d (s.ring.frame + 2))
      (fun u d => touches_writeGo u d _) (s.group g).activeDishes s
    unfold State.judgeStart; dsimp only
    exact touches_ite ((touches_members h g).trans (touches_slot _ (touches_setGroup _ _ _) _)) (.refl _ s)
  · exact touches_ite (touches_passOnArrival _ _) (.refl _ s)
  · exact touches_ite (touches_slot _ (touches_setGroup _ _ _) _) (.refl _ s)
  all_goals exact .refl _ s

theorem touches_afterExclusion : Touches ((s.group g).places g) s (s.afterExclusion g) :=
  touches_ite (touches_slot _ ((touches_freeSlot _ _ _).raise _ _) _) (touches_judgeGroup _ _)

end

/-! ## Shed moves -/

section
variable (s : State) (d : DishId)

/-- An update of the shed records that adds no dish to the Shed List. -/
theorem touches_sheds (x : Melt) (hz : x.zones = s.melt.zones) (hr : x.rotation = s.melt.rotation) (hl : x.shedList ⊆ s.melt.shedList) :
    Touches [.sheds] s { s with melt := x } :=
  ⟨fun _ _ => ⟨rfl, rfl, rfl⟩, fun _ _ => ⟨rfl, rfl⟩, fun _ => rfl, fun _ => ⟨hz, rfl⟩,
    fun _ z => by simp +contextual [State.Shut, State.Out, State.zone, hz], fun h => absurd List.mem_cons_self h, hl,
    by rw [hr]; exact List.Subset.refl _, rfl⟩

theorem touches_setShedResult (r : ShedResult) : Touches [.sheds] s (s.setShedResult d r) :=
  touches_sheds _ _ rfl rfl (List.Subset.refl _)

theorem touches_setShedMove (m : Option ShedMove) : Touches [.sheds] s (s.setShedMove d m) :=
  touches_sheds _ _ rfl rfl (List.Subset.refl _)

theorem touches_unlistShed : Touches [.sheds] s (s.unlistShed d) :=
  (touches_sheds s _ (by rfl) (by rfl) fun _ h => (List.mem_filter.1 h).1).askRound

theorem touches_skipShed : Touches [.sheds] s (s.skipShed d) :=
  touches_ite ((touches_unlistShed _ _).trans (touches_setShedResult _ _ _)) (.refl _ s)

theorem touches_endShed (r : ShedResult) : Touches [.sheds] s (s.endShed d r) :=
  (touches_setShedMove _ _ _).trans (touches_setShedResult _ _ _)

theorem touches_failShed (m : Motion) : Touches [.sheds] s (s.failShed d m) := touches_ite (touches_endShed _ _ _) (.refl _ s)

end

end Sys2Proof.Machine
end

section
/-! The steps that rounds and scans are made of, what each touches, and the induction over them: what each keeps, a settled step
keeps. -/

namespace Sys2Proof.Machine

/-! ## What the steps of a round touch -/

section
variable (s : State) (d : DishId) (g : SlotId)

theorem touches_judgeRestored (ps : List Place) : Touches ps s s.judgeRestored := by
  unfold State.judgeRestored; split
  · exact .refl _ s
  · refine touches_ite (Touches.raise ?_ _ _) (.refl _ s)
    exact .of_same rfl rfl rfl rfl rfl rfl rfl rfl rfl rfl rfl rfl rfl

theorem touches_stowInPlace : Touches [.dish d] s (s.stowInPlace d) :=
  (touches_setMotion _ _ _).trans (touches_writeHoldBrake _ _)

theorem touches_conflictAtStow (ps : List Place) : Touches ps s (s.conflictAtStow d) :=
  touches_ite (touches_raiseConflict _ _ _ _) (.refl _ s)

theorem touches_admitStow (p : MovePlan) : Touches [.dish d, .stow, .heat] s (s.admitStow d p) := by
  have h1 : Touches [.dish d, .stow, .heat] s ((s.unqueue d).conflictAtStow d) :=
    ((touches_unqueue s d).mono (by simp)).trans (touches_conflictAtStow _ _ _)
  have h2 := (h1.after (touches_enterReservation _ d p.draw .stow) (by simp)).after (touches_shedHeaters _) (by simp)
  unfold State.admitStow; dsimp only
  exact touches_ite (h1.after (touches_stowInPlace _ d) (by simp))
    (((h2.after (touches_writeLoad _ d _ _ _) (by simp)).after (touches_setMotion _ d _) (by simp)).after (touches_setMove _ d _) (by simp))

theorem touches_noteFloor (ps : List Place) (p : MovePlan) : Touches ps s (s.noteFloor d p) := by
  have h := (Touches.refl ps s).raise .stowProblem (.stowStarved d p.draw s.feeder.allowance)
  unfold State.noteFloor; dsimp only
  refine touches_ite (h.trans (Touches.raise ?_ _ _)) h
  exact .of_same rfl rfl rfl rfl rfl rfl rfl rfl rfl rfl rfl rfl rfl

theorem touches_enterGroup (draws : List (DishId × Nat)) : Touches (draws.map fun x => .dish x.1) s (s.enterGroup draws) :=
  touches_foldl _ draws (fun x hx s => (touches_enterReservation s x.1 x.2 .group).mono (by simpa using ⟨_, hx⟩)) s

theorem touches_loadMembers : Touches ((s.group g).places g) s (s.loadMembers g) := by
  refine touches_foldl _ _ (fun m hm u => ?_) s
  split
  · refine (touches_writeLoad _ _ _ _ _).mono ?_
    simpa [Group.places, Group.activeDishes] using ⟨m, hm, rfl⟩
  · exact .refl _ u

theorem touches_launch : Touches ((s.group g).places g) s (s.launch g) := by
  unfold State.launch
  exact touches_ite (touches_passOnArrival _ _) ((touches_loadMembers _ _).trans (touches_slot _ (touches_setGroup _ _ _) _))

/-- Reservations entered for a group, and heaters shed for them. -/
theorem touches_enterShed (draws : List (DishId × Nat)) :
    Touches (.heat :: draws.map fun x => .dish x.1) s (s.enterGroup draws).shedHeaters :=
  ((touches_enterGroup s draws).mono (List.subset_cons_self _ _)).trans ((touches_shedHeaters _).mono (by simp))

theorem touches_resumeTrack (draws : List (DishId × Nat)) :
    Touches (.group g :: .heat :: draws.map fun x => .dish x.1) s (s.resumeTrack g draws) :=
  ((touches_enterShed s draws).mono (List.subset_cons_self _ _)).trans ((touches_setGroup _ _ _).mono (by simp))

theorem activeDishes_replan {x y : Group} (n : Nat) (h : y.members = x.members.map (s.replan n)) :
    y.activeDishes = x.activeDishes := by
  unfold Group.activeDishes Group.active
  rw [h]
  induction x.members with
  | nil => rfl
  | cons m ms ih =>
    obtain ⟨ha, ho⟩ := replan_active s n m
    simp only [List.map_cons, List.filter_cons, ha]
    split
    · rw [List.map_cons, List.map_cons, ih, ho]
    · exact ih

theorem touches_resumeSlew (n : Nat) (draws : List (DishId × Nat)) (hd : ∀ x ∈ draws, x.1 ∈ (s.group g).activeDishes) :
    Touches (.heat :: (s.group g).places g) s (s.resumeSlew g n draws) := by
  have h1 : Touches (.heat :: (s.group g).places g) s (s.enterGroup draws).shedHeaters := (touches_enterShed s draws).mono <| by
    refine List.cons_subset_cons _ fun p hp => ?_
    obtain ⟨x, hx, rfl⟩ := List.mem_map.1 hp
    exact List.mem_cons_of_mem _ (List.mem_map.2 ⟨_, hd x hx, rfl⟩)
  have h2 := h1.after (touches_setGroup _ g fun x => { x with heldFrom := none, t := n, members := (s.group g).members.map (s.replan n) })
    (by simp [Group.places])
  refine h2.after (touches_launch _ g) (List.subset_cons_of_subset _ ?_)
  rw [setGroup_group_self, shedHeaters_group, enterGroup_group]
  refine List.cons_subset_cons _ (List.map_subset _ fun e he => ?_)
  rwa [activeDishes_replan s (x := s.group g) n (by rfl)] at he

theorem touches_unlist (r : ShedResult) : Touches [.sheds] s ((s.unlistShed d).setShedResult d r) :=
  (touches_unlistShed _ _).trans (touches_setShedResult _ _ _)

theorem touches_admitShed (p : MovePlan) : Touches [.dish d, .sheds, .heat] s (s.admitShed d p) := by
  have h1 : Touches [.dish d, .sheds, .heat] s (s.unlistShed d) := (touches_unlistShed s d).mono (by simp)
  have h2 := (h1.after (touches_enterReservation _ d p.draw .shed) (by simp)).after (touches_shedHeaters _) (by simp)
  unfold State.admitShed; dsimp only
  exact touches_ite ((touches_unlist s d _).mono (by simp))
    (((h2.after (touches_writeLoad _ d _ _ _) (by simp)).after (touches_setMotion _ d _) (by simp)).after (touches_setShedMove _ d _) (by simp))

/-- The IDLE dishes' places. -/
def State.idlePlaces (s : State) : List Place := (allDishes.filter fun d => decide ((s.dish d).motion = .idle)).map .dish

theorem mem_idlePlaces {s : State} {d : DishId} : .dish d ∈ s.idlePlaces ↔ (s.dish d).motion = .idle := by
  simp [State.idlePlaces, allDishes]

theorem group_notMem_idlePlaces {s : State} {g : SlotId} : .group g ∉ s.idlePlaces := by simp [State.idlePlaces]

/-- An active member of the new group is one that was not excluded. -/
theorem memberEntry_active {s : State} {n : Nat} {m : MemberRecord} (h : (s.memberEntry n m).isActive = true) :
    ¬ ∃ r, s.judgeMember m.dish = .excluded r := by
  rintro ⟨r, hr⟩
  simp [State.memberEntry, hr, Member.isActive, MemberStatus.isActive] at h

/-- What the admission of an order touches beside the Order Queue: its slot, heaters, and dishes that are IDLE. -/
theorem touches_admitOrder (o : Order) (n : Nat) (draws : List (DishId × Nat))
    (hidle : ∀ x ∈ draws, (s.dish x.1).motion = .idle)
    (hm : ∀ m ∈ o.members, s.judgeMember m.dish = .taken ∨ ∃ r, s.judgeMember m.dish = .excluded r) :
    Touches (.group g :: .heat :: s.idlePlaces) { s with orders := s.orders.tail } (s.admitOrder o g n draws) := by
  have hd : ∀ u : State, Touches (draws.map fun x => Place.dish x.1) u
      (u.onDishes (draws.map (·.1)) fun s d => s.setDish d fun x => { x with motion := .engaged, group := some g }) :=
    fun u => by simpa [Function.comp_def] using touches_onDishes _ (fun s d => touches_setDish s d _) (draws.map (·.1)) u
  have hsub : (draws.map fun x => Place.dish x.1) ⊆ s.idlePlaces := fun p hp => by
    obtain ⟨x, hx, rfl⟩ := List.mem_map.1 hp
    exact mem_idlePlaces.2 (hidle x hx)
  have h1 : Touches (.group g :: .heat :: s.idlePlaces) { s with orders := s.orders.tail }
      ({ s with orders := s.orders.tail }.setStream g fun _ => Stream.reset) := (touches_setStream _ g _).mono (by simp)
  unfold State.admitOrder; dsimp only
  refine (((h1.after (touches_setGroup _ g _) (by simp)).after (hd _) fun p hp => ?_).after (touches_enterShed _ draws)
    fun p hp => ?_).after (touches_launch _ g) fun p hp => ?_
  · exact List.mem_cons_of_mem _ (List.mem_cons_of_mem _ (hsub hp))
  · rcases List.mem_cons.1 hp with rfl | hp
    · simp
    · exact List.mem_cons_of_mem _ (List.mem_cons_of_mem _ (hsub hp))
  · rcases List.mem_cons.1 hp with rfl | hp
    · simp
    · obtain ⟨e, he, rfl⟩ := List.mem_map.1 hp
      rw [shedHeaters_group, enterGroup_group] at he
      rw [((hd _).group g (by simp)).1, setGroup_group_self, mem_activeDishes] at he
      obtain ⟨m', hm', ha, rfl⟩ := he
      obtain ⟨m, hmo, rfl⟩ := List.mem_map.1 hm'
      have hom : (s.memberEntry n m).order = m := by unfold State.memberEntry; split <;> rfl
      have hidle : (s.dish m.dish).motion = .idle := judge_taken ((hm m hmo).resolve_right (memberEntry_active ha))
      rw [hom]
      exact List.mem_cons_of_mem _ (List.mem_cons_of_mem _ (mem_idlePlaces.2 hidle))

end

/-! ## The induction -/

/-- A predicate on states that every step of a round and of a scan keeps. Where a step takes from a list, the state from which the
list was read had the predicate too. -/
structure RoundKeeps (P : State → Prop) : Prop where
  asks : ∀ s j r c, P s → P { s with judgeDue := j, roundDue := r, scanDue := c }
  restored : ∀ s, P s → P s.judgeRestored
  power : ∀ s z n, P s → (s.zone z).state = .waiting → P (s.powerZone z n)
  inPlace : ∀ s₀ s d, P s₀ → s₀.stow.state = .active → P s → (s.dish d).motion = .idle → P ((s.unqueue d).stowInPlace d)
  stow : ∀ s₀ s d p, P s₀ → s₀.stow.state = .active → P s → (s.dish d).motion = .idle → P (s.admitStow d p)
  floor : ∀ s d p, P s → P (s.noteFloor d p)
  held : ∀ s, P s → s.stow.state = .active → s.stow.queue = [] → P s.checkStowedHold
  resumeSlew : ∀ s g n draws, P s → s.resumable g = true → (∀ x ∈ draws, x.1 ∈ (s.group g).activeDishes) →
    P (s.resumeSlew g n draws)
  resumeTrack : ∀ s g draws, P s → s.resumable g = true → (∀ x ∈ draws, x.1 ∈ (s.group g).activeDishes) →
    P (s.resumeTrack g draws)
  order : ∀ s₀ s o g n draws, P s₀ → o ∈ s₀.orders → P s → (s.group g).state = .free → s.stowInForce = false →
    (∀ x ∈ draws, (s.dish x.1).motion = .idle) →
    (∀ m ∈ o.members, s.judgeMember m.dish = .taken ∨ ∃ r, s.judgeMember m.dish = .excluded r) → P (s.admitOrder o g n draws)
  refused : ∀ s w, P s → P ({ s with orders := s.orders.tail }.raise .orderRefused w)
  unlisted : ∀ s₀ s e r, P s₀ → e ∈ s₀.melt.shedList → P s → P ((s.unlistShed e.dish).setShedResult e.dish r)
  shed : ∀ s₀ s e p, P s₀ → e ∈ s₀.melt.shedList → P s → s.stowInForce = false → (s.dish e.dish).motion = .idle →
    P (s.admitShed e.dish p)

namespace RoundKeeps

variable {P : State → Prop} {s : State}

theorem scanWalk (k : RoundKeeps P) (zs : List ZoneId) (h : P s) : P (scanWalk zs s) := by
  induction zs generalizing s with
  | nil => exact h
  | cons z zs ih =>
    unfold Machine.scanWalk; split
    · next hz =>
      dsimp only; split
      · exact ih (k.power s z _ h hz)
      · exact h
    all_goals exact ih h

theorem stowWalk (k : RoundKeeps P) {s₀ : State} (h₀ : P s₀) (ha : s₀.stow.state = .active) (ds : List DishId) (h : P s) :
    P (stowWalk ds s).state := by
  induction ds generalizing s with
  | nil => exact h
  | cons d ds ih =>
    unfold Machine.stowWalk; dsimp only; split
    · exact ih h
    · next hm =>
      have hi := not_not.1 hm
      split
      · exact ih (k.inPlace s₀ s d h₀ ha h hi)
      · split
        · exact ih (k.stow s₀ s d _ h₀ ha h hi)
        · split
          · exact h
          · exact k.floor _ _ _ (k.stow s₀ s d _ h₀ ha h hi)

theorem checkStowedHold (k : RoundKeeps P) (h : P s) : P s.checkStowedHold := by
  by_cases hc : s.stow.state = .active ∧ s.stow.queue = []
  · exact k.held s h hc.1 hc.2
  · unfold State.checkStowedHold
    rw [if_neg fun e => hc ⟨e.1, e.2.1⟩]; exact h

theorem stowTurn (k : RoundKeeps P) (h : P s) : P s.stowTurn.state := by
  unfold State.stowTurn; split
  · next ha => exact k.checkStowedHold (k.stowWalk h ha _ h)
  · exact h

theorem resumeTurn (k : RoundKeeps P) (g : SlotId) (h : P s) : P (s.resumeTurn g).state := by
  unfold State.resumeTurn; split
  · next hr =>
    split
    · dsimp only; split
      · exact k.resumeTrack s g _ h hr (by simp)
      · exact h
    all_goals
      dsimp only; split
      · refine k.resumeSlew s g _ _ h hr fun x hx => ?_
        simp only [State.resumeInputs, List.mem_map, List.mem_filterMap, Option.map_eq_some_iff] at hx
        obtain ⟨y, ⟨m, hmem, p, -, rfl⟩, rfl⟩ := hx
        exact List.mem_map.2 ⟨m, hmem, rfl⟩
      · exact h
  · exact h

theorem resumeWalk (k : RoundKeeps P) (gs : List SlotId) (h : P s) : P (resumeWalk gs s).state := by
  induction gs generalizing s with
  | nil => exact h
  | cons g gs ih =>
    unfold Machine.resumeWalk; dsimp only; split
    · exact k.resumeTurn g h
    · exact ih (k.resumeTurn g h)

theorem orderWalk (k : RoundKeeps P) {s₀ : State} (h₀ : P s₀) (os : List Order) (hos : os ⊆ s₀.orders) (h : P s) :
    P (orderWalk os s).state := by
  induction os generalizing s with
  | nil => exact h
  | cons o os ih =>
    obtain ⟨ho, hos⟩ := List.cons_subset.1 hos
    unfold Machine.orderWalk; split
    · exact h
    · next g hfree =>
      split
      · exact h
      · next hc =>
        split
        · exact h
        · next hw =>
          split
          · exact ih hos (k.refused s _ h)
          · dsimp only; split
            · refine ih hos (k.order s₀ s o g _ _ h₀ ho h (of_decide_eq_true (List.find?_some hfree :)) ?_ (fun x hx => ?_)
                fun m hm => ?_)
              · rw [Bool.or_eq_true, not_or] at hc; simpa using hc.2
              · simp only [List.map_map, List.mem_map] at hx
                obtain ⟨m, hm, rfl⟩ := hx
                exact judge_taken (of_decide_eq_true (List.mem_filter.1 hm).2)
              · cases hj : s.judgeMember m.dish with
                | taken => exact .inl rfl
                | waits => exact absurd (List.any_eq_true.2 ⟨m, hm, by simp [hj]⟩) hw
                | excluded r => exact .inr ⟨r, rfl⟩
            · exact h

theorem shedListWalk (k : RoundKeeps P) {s₀ : State} (h₀ : P s₀) (es : List ShedEntry) (hes : es ⊆ s₀.melt.shedList) (h : P s) :
    P (shedListWalk es s).state := by
  induction es generalizing s with
  | nil => exact h
  | cons e es ih =>
    obtain ⟨he, hes⟩ := List.cons_subset.1 hes
    unfold Machine.shedListWalk; split
    · exact h
    · next hc =>
      split
      · exact ih hes (k.unlisted s₀ s e _ h₀ he h)
      · next hu =>
        dsimp only; split
        · refine ih hes (k.shed s₀ s e _ h₀ he h ?_ ?_)
          · rw [Bool.or_eq_true, not_or] at hc; simpa using hc.2
          · simp only [State.shedUnfit, Bool.or_eq_true, decide_eq_true_eq, not_or, not_not] at hu
            exact hu.2
        · exact h

theorem admissionRound (k : RoundKeeps P) (h : P s) : P s.admissionRound := by
  have h1 := k.stowTurn h
  unfold State.admissionRound; dsimp only; split
  · exact h1
  · have h2 := k.resumeWalk allSlots h1
    split
    · exact h2
    · have h3 := k.orderWalk h2 _ (List.Subset.refl _) h2
      split
      · exact h3
      · exact k.shedListWalk h3 _ (List.Subset.refl _) h3

theorem settleFuel (k : RoundKeeps P) (n : Nat) (h : P s) : P (settleFuel n s) := by
  induction n generalizing s with
  | zero => exact k.asks s false false false h
  | succ n ih =>
    unfold Machine.settleFuel; split
    · exact ih (k.restored _ (k.asks s false s.roundDue s.scanDue h))
    · split
      · exact ih (k.admissionRound (k.asks s s.judgeDue false s.scanDue h))
      · split
        · exact ih (k.scanWalk _ (k.asks s s.judgeDue s.roundDue false h))
        · exact h

/-- What every step of rounds and scans keeps, a settled step keeps. -/
theorem settle (k : RoundKeeps P) (h : P s) : P s.settle := k.settleFuel _ h

end RoundKeeps

end Sys2Proof.Machine
end

section
/-! What the rounds and scans of a step keep, beside what Spares and Within say: shut and unblocked zones, groups, shed results, a
dish's place in the Stow Queue; and how little they do where nobody is admitted. -/

namespace Sys2Proof.Machine

/-! ## Rounds without admissions -/

/-- Who is at a round's call depends on the stow's state, the waiting lists, the groups and the census. -/
theorem NobodyAdmitted.of_same {s t : State} (h : NobodyAdmitted s) (hs : t.stow.state ≠ .active) (ho : t.orders <:+ s.orders)
    (hl : t.melt.shedList ⊆ s.melt.shedList) (hg : ∀ g, (t.group g).state = .resumeWait → (s.group g).state = .resumeWait)
    (hc : t.locks.census = s.locks.census) : NobodyAdmitted t := by
  obtain ⟨-, ⟨h1, h2, h3⟩ | h1⟩ := h
  · rw [h1] at ho; rw [h2] at hl
    exact ⟨hs, .inl ⟨List.suffix_nil.1 ho, List.subset_nil.1 hl, fun g e => h3 g (hg g e)⟩⟩
  · refine ⟨hs, .inr ?_⟩
    unfold State.censusDone at h1 ⊢; rw [hc]; exact h1

/-- A change of the heaters alone leaves nobody to be admitted. -/
theorem NobodyAdmitted.of_heat {s t : State} (h : NobodyAdmitted s) (ht : Touches [.heat] s t) (hw : Within s t) :
    NobodyAdmitted t := by
  refine h.of_same ?_ (by rw [ht.orders]) ht.listed (fun g e => ?_) (by rw [hw.locks_eq])
  · rw [ht.stow (by simp)]; exact h.1
  · rwa [(ht.group g (by simp)).1] at e

theorem admissionRound_of_nobody {s : State} (h : NobodyAdmitted s) : s.admissionRound = s := by
  obtain ⟨ha, h | h⟩ := h
  · exact admissionRound_of_noContender ha h
  · exact admissionRound_of_noCensus ha h

theorem touches_scanWalk (zs : List ZoneId) (s : State) : Touches [.heat] s (scanWalk zs s) := by
  induction zs generalizing s with
  | nil => exact .refl _ s
  | cons z zs ih =>
    unfold scanWalk; split
    · next hz =>
      dsimp only; split
      · exact (touches_powerZone s z _ hz).trans (ih _)
      · exact .refl _ s
    all_goals exact ih s

theorem touches_asks (ps : List Place) (s : State) (j r c : Bool) :
    Touches ps s { s with judgeDue := j, roundDue := r, scanDue := c } :=
  .of_same rfl rfl rfl rfl rfl rfl rfl rfl rfl rfl rfl rfl rfl

theorem within_asks (s : State) (j r c : Bool) : Within s { s with judgeDue := j, roundDue := r, scanDue := c } :=
  .of_same rfl rfl rfl rfl rfl rfl

theorem touches_settleFuel_of_nobody (n : Nat) (s : State) (h : NobodyAdmitted s) : Touches [.heat] s (settleFuel n s) := by
  induction n generalizing s with
  | zero => exact touches_asks _ s false false false
  | succ n ih =>
    have go : ∀ u, Touches [.heat] s u → Within s u → Touches [.heat] s (settleFuel n u) := fun u hu hw =>
      hu.trans (ih u (h.of_heat hu hw))
    unfold settleFuel; split
    · exact go _ ((touches_asks _ s false s.roundDue s.scanDue).trans (touches_judgeRestored _ _))
        ((within_asks s false s.roundDue s.scanDue).trans (within_judgeRestored _))
    · split
      · have ha : NobodyAdmitted { s with roundDue := false } := h
        rw [admissionRound_of_nobody ha]
        exact go _ (touches_asks _ s s.judgeDue false s.scanDue) (within_asks s s.judgeDue false s.scanDue)
      · split
        · exact go _ ((touches_asks _ s s.judgeDue s.roundDue false).trans (touches_scanWalk _ _))
            ((within_asks s s.judgeDue s.roundDue false).trans (within_poweringScan _))
        · exact .refl _ s

/-- Where nobody is admitted, the rounds and scans of a step touch the heaters alone. -/
theorem touches_settle_of_nobody {s : State} (h : NobodyAdmitted s) : Touches [.heat] s s.settle :=
  touches_settleFuel_of_nobody _ _ h

/-! ## Zones -/

section
variable {s : State} {d : DishId} {g : SlotId} {o : Order} {n : Nat} {draws : List (DishId × Nat)}

theorem stow_ne_active (h : s.stowInForce = false) : s.stow.state ≠ .active := fun e => by
  simp [State.stowInForce, e, StowState.inForce] at h

theorem resumable_spec (h : s.resumable g = true) : (s.group g).state = .resumeWait ∧ s.stowInForce = false
    ∧ ∀ e ∈ (s.group g).activeDishes, (s.dish e).motion = .engaged := by
  simp only [State.resumable, Bool.and_eq_true, decide_eq_true_eq, Bool.not_eq_true', List.all_eq_true] at h
  obtain ⟨⟨⟨hw, hf⟩, -⟩, hall⟩ := h
  refine ⟨hw, hf, fun e he => ?_⟩
  obtain ⟨m, hm, rfl⟩ := List.mem_map.1 he
  exact (hall m hm).1

theorem block_notMem_places (x : Group) (g : SlotId) : Place.block ∉ x.places g := by simp [Group.places]

theorem stow_notMem_places (x : Group) (g : SlotId) : Place.stow ∉ x.places g := by simp [Group.places]

theorem sheds_notMem_places (x : Group) (g : SlotId) : Place.sheds ∉ x.places g := by simp [Group.places]

theorem dish_mem_places {x : Group} {g : SlotId} {d : DishId} : Place.dish d ∈ x.places g ↔ d ∈ x.activeDishes := by
  simp [Group.places]

theorem group_mem_places {x : Group} {g k : SlotId} : Place.group k ∈ x.places g ↔ k = g := by simp [Group.places]

/-- The steps of a round by what they touch: a predicate is kept by all of them if it is kept by every change at those places. -/
theorem RoundKeeps.of_touches {P : State → Prop}
    (plain : ∀ s t, P s → Touches [.heat] s t → Within s t → P t)
    (stow : ∀ s₀ s t d, P s₀ → s₀.stow.state = .active → P s → (s.dish d).motion = .idle →
      Touches [.dish d, .stow, .heat] s t → Within s t → P t)
    (held : ∀ s, P s → s.stow.state = .active → s.stow.queue = [] → P s.checkStowedHold)
    (resume : ∀ s t g, P s → s.resumable g = true → Touches (.heat :: (s.group g).places g) s t → Within s t → P t)
    (order : ∀ s₀ s t o g, P s₀ → o ∈ s₀.orders → P s → (s.group g).state = .free → s.stowInForce = false →
      Touches (.group g :: .heat :: s.idlePlaces) { s with orders := s.orders.tail } t → Within s t → P t)
    (tail : ∀ s, P s → P { s with orders := s.orders.tail })
    (unlisted : ∀ s₀ s e r, P s₀ → e ∈ s₀.melt.shedList → P s → P ((s.unlistShed e.dish).setShedResult e.dish r))
    (shed : ∀ s₀ s e p, P s₀ → e ∈ s₀.melt.shedList → P s → s.stowInForce = false → (s.dish e.dish).motion = .idle →
      P (s.admitShed e.dish p)) : RoundKeeps P where
  asks s j r c h := plain _ _ h (touches_asks _ s j r c) (within_asks s j r c)
  restored s h := plain _ _ h (touches_judgeRestored _ _) (within_judgeRestored _)
  power s z n h hz := plain _ _ h (touches_powerZone _ _ _ hz) (within_powerZone _ _ _)
  inPlace s₀ s d h₀ ha h hi := stow s₀ s _ d h₀ ha h hi
    (((touches_unqueue s d).mono (by simp)).after (touches_stowInPlace _ d) (by simp))
    ((within_unqueue _ _).trans (within_stowInPlace _ _))
  stow s₀ s d p h₀ ha h hi := stow s₀ s _ d h₀ ha h hi (touches_admitStow _ _ _) (within_admitStow _ _ _)
  floor s d p h := plain _ _ h (touches_noteFloor _ _ _ _) (within_noteFloor _ _ _)
  held := held
  resumeSlew s g n draws h hr hd := resume s _ g h hr (touches_resumeSlew _ _ _ _ hd) (within_resumeSlew _ _ _ _)
  resumeTrack s g draws h hr hd := by
    refine resume s _ g h hr ((touches_resumeTrack _ _ _).mono fun p hp => ?_) (within_resumeTrack _ _ _)
    simp only [List.mem_cons, List.mem_map] at hp
    rcases hp with rfl | rfl | ⟨x, hx, rfl⟩
    · simp [Group.places]
    · simp
    · exact List.mem_cons_of_mem _ (dish_mem_places.2 (hd x hx))
  order s₀ s o g n draws h₀ ho h hf hn hd hm := order s₀ s _ o g h₀ ho h hf hn (touches_admitOrder _ _ _ _ _ hd hm)
    (within_admitOrder _ _ _ _ _)
  refused s w h := plain _ _ (tail s h) ((Touches.refl _ _).raise _ _) (within_raise _ _ _)
  unlisted := unlisted
  shed := shed

/-- Outside ACTIVE no round and no scan blocks a zone. -/
def Unblocked (z : ZoneId) (s : State) : Prop := s.stow.state ≠ .active ∧ (s.zone z).state ≠ .blocked

theorem Unblocked.touch {z : ZoneId} {s t : State} {ps : List Place} (h : Unblocked z s) (ht : Touches ps s t)
    (hs : .stow ∉ ps) (hb : .block ∉ ps) : Unblocked z t :=
  ⟨by rw [ht.stow hs]; exact h.1, (ht.block hb z).1 h.2⟩

theorem roundKeeps_unblocked (z : ZoneId) : RoundKeeps (Unblocked z) :=
  .of_touches (fun _ _ h ht _ => h.touch ht (by simp) (by simp))
    (fun _ _ _ _ h₀ ha _ _ _ _ => absurd ha h₀.1) (fun _ h ha _ => absurd ha h.1)
    (fun _ _ g h _ ht _ => h.touch ht (by simp [stow_notMem_places]) (by simp [block_notMem_places]))
    (fun _ s t _ _ _ _ h _ _ ht _ => Unblocked.touch (s := { s with orders := s.orders.tail }) h ht
      (by simp [State.idlePlaces]) (by simp [State.idlePlaces]))
    (fun _ h => h) (fun _ _ _ _ _ _ h => h.touch (touches_unlist _ _ _) (by simp) (by simp))
    (fun _ _ _ _ _ _ h _ _ => h.touch (touches_admitShed _ _ _) (by simp) (by simp))

/-- The zones of a dish whose switch lock is set are shut. -/
def ShutDish (d : DishId) (s : State) : Prop := (s.dish d).switchLock = true ∧ ∀ z : ZoneId, z.dish = d → s.Shut z

theorem Within.switchLock_eq {s t : State} (h : Within s t) (d : DishId) : (t.dish d).switchLock = (s.dish d).switchLock :=
  congrArg Reported.switchLock (h.reported_eq d)

theorem ShutDish.touch {s t : State} {ps : List Place} (h : ShutDish d s) (ht : Touches ps s t) (hw : Within s t)
    (hb : .block ∉ ps) : ShutDish d t :=
  ⟨by rw [hw.switchLock_eq]; exact h.1, fun z hz => (ht.block hb z).2.1 (h.2 z hz)⟩

theorem blocks_of_switchLock (h : (s.dish d).switchLock = true) : s.blocks d = true := by
  simp [State.blocks, State.heatLocked, h]

/-- Zones set by the block conditions leave the zones of a switch-locked dish shut. -/
theorem ShutDish.reblockZone {s : State} (h : ShutDish d s) (w : ZoneId) : ShutDish d (s.reblockZone w) := by
  refine ⟨by rw [(within_reblockZone s w).switchLock_eq]; exact h.1, fun z hz => ?_⟩
  have hzs := h.2 z hz
  by_cases he : z = w
  · subst he
    unfold State.reblockZone
    rw [hz, blocks_of_switchLock h.1]
    rcases hzs.1 with e | e <;> rw [e] <;> exact hzs
  · have hset : ∀ f, ((s.setZone w f).askScan).Shut z := fun f => by
      refine ⟨?_, hzs.2⟩
      have : (s.setZone w f).zone z = s.zone z := by rw [setZone_zone, if_neg he]
      exact this ▸ hzs.1
    unfold State.reblockZone; split
    · exact hzs
    · split
      · exact hzs.unpower he _
      · exact hzs
    · split
      · exact hset _
      · exact hzs
    · split
      · exact hzs
      · exact hset _

theorem ShutDish.reblock {s : State} (h : ShutDish d s) (zs : List ZoneId) : ShutDish d (zs.foldl State.reblockZone s) := by
  induction zs generalizing s with
  | nil => exact h
  | cons z zs ih => exact ih (h.reblockZone z)

theorem ShutDish.reblockAll {s : State} (h : ShutDish d s) : ShutDish d s.reblockAll := by
  have h1 := h.reblock allZones
  unfold State.reblockAll
  generalize allZones.foldl State.reblockZone s = u at h1 ⊢
  exact h1

theorem ShutDish.checkStowedHold {s : State} (h : ShutDish d s) : ShutDish d s.checkStowedHold := by
  have h1 := h.touch (touches_setStowState s .stowedHold) (within_setStowState _ _) (by simp)
  have h2 := h1.reblockAll
  unfold State.checkStowedHold; dsimp only
  split
  · split
    · exact h2.touch (touches_enterCalmWait _) (within_enterCalmWait _) (by simp)
    · exact h2
  · exact h

theorem roundKeeps_shutDish (d : DishId) : RoundKeeps (ShutDish d) :=
  .of_touches (fun _ _ h ht hw => h.touch ht hw (by simp)) (fun _ _ _ _ _ _ h _ ht hw => h.touch ht hw (by simp))
    (fun _ h _ _ => h.checkStowedHold) (fun _ _ g h _ ht hw => h.touch ht hw (by simp [block_notMem_places]))
    (fun _ s t _ _ _ _ h _ _ ht hw => ⟨by rw [hw.switchLock_eq]; exact h.1,
      fun z hz => (ht.block (by simp [State.idlePlaces]) z).2.1 (h.2 z hz)⟩)
    (fun _ h => h) (fun _ s e r _ _ h => h.touch (touches_unlist _ _ _)
      ((within_unlistShed s e.dish).trans (within_setShedResult _ _ r)) (by simp))
    (fun _ _ _ _ _ _ h _ _ => h.touch (touches_admitShed _ _ _) (within_admitShed _ _ _) (by simp))

/-! ## Groups that no round takes up -/

/-- A group in no call of a round, as it was, while no order waits: not waiting to resume. -/
def KeptGroup (g : SlotId) (x : Group) (s : State) : Prop := s.orders = [] ∧ s.group g = x

theorem KeptGroup.touch {x : Group} {s t : State} {ps : List Place} (h : KeptGroup g x s) (ht : Touches ps s t)
    (hg : .group g ∉ ps) : KeptGroup g x t := ⟨ht.orders.trans h.1, (ht.group g hg).1.trans h.2⟩

theorem roundKeeps_keptGroup {x : Group} (hx : x.state ≠ .resumeWait) : RoundKeeps (KeptGroup g x) :=
  .of_touches (fun _ _ h ht _ => h.touch ht (by simp)) (fun _ _ _ _ _ _ h _ ht _ => h.touch ht (by simp))
    (fun _ h _ _ => h.touch (touches_checkStowedHold _) (by simp))
    (fun s _ k h hr ht _ => by
      have hk : g ≠ k := by
        rintro rfl
        exact hx (h.2 ▸ (resumable_spec hr).1)
      exact h.touch ht (by simp [group_mem_places, hk]))
    (fun s₀ _ _ o _ h₀ ho _ _ _ _ _ => by rw [h₀.1] at ho; cases ho)
    (fun s h => ⟨by change s.orders.tail = []; rw [h.1]; rfl, h.2⟩)
    (fun _ _ _ _ _ _ h => h.touch (touches_unlist _ _ _) (by simp))
    (fun _ _ _ _ _ _ h _ _ => h.touch (touches_admitShed _ _ _) (by simp))

/-- A group waiting to resume, as it was, with an active member whose dish is in a motion state that bars the resume. -/
def BarredGroup (g : SlotId) (x : Group) (d : DishId) (m : Motion) (s : State) : Prop :=
  s.group g = x ∧ (s.dish d).motion = m

theorem BarredGroup.touch {x : Group} {m : Motion} {s t : State} {ps : List Place} (h : BarredGroup g x d m s)
    (ht : Touches ps s t) (hg : .group g ∉ ps) (hd : .dish d ∉ ps) : BarredGroup g x d m t :=
  ⟨(ht.group g hg).1.trans h.1, by rw [(ht.dish d hd).1]; exact h.2⟩

theorem roundKeeps_barredGroup {x : Group} {m : Motion} (hx : x.state = .resumeWait) (hd : d ∈ x.activeDishes)
    (hm : m.atCall = false) : RoundKeeps (BarredGroup g x d m) := by
  have hidle : ∀ {s : State} {e : DishId}, BarredGroup g x d m s → (s.dish e).motion = .idle → e ≠ d := by
    rintro s _ h hi rfl
    rw [← h.2, hi] at hm; cases hm
  refine .of_touches (fun _ _ h ht _ => h.touch ht (by simp) (by simp))
    (fun _ s t e _ _ h hi ht _ => h.touch ht (by simp) (by simpa using (hidle h hi).symm))
    (fun _ h _ _ => h.touch (touches_checkStowedHold _) (by simp) (by simp)) (fun s t k h hr ht _ => ?_)
    (fun _ s t o k _ _ h hf _ ht _ => ?_) (fun _ h => h)
    (fun _ _ _ _ _ _ h => h.touch (touches_unlist _ _ _) (by simp) (by simp))
    (fun _ _ e _ _ _ h _ hi => h.touch (touches_admitShed _ _ _) (by simp) (by simpa using (hidle h hi).symm))
  · obtain ⟨-, -, hall⟩ := resumable_spec hr
    have hdk : d ∉ (s.group k).activeDishes := fun he => by
      have := hall d he
      rw [← h.2, this] at hm; cases hm
    have hk : g ≠ k := by
      rintro rfl
      exact hdk (h.1 ▸ hd)
    exact h.touch ht (by simp [group_mem_places, hk]) (by simp [dish_mem_places, hdk])
  · have hk : g ≠ k := by
      rintro rfl
      rw [h.1, hx] at hf; cases hf
    have hnd : Place.dish d ∉ s.idlePlaces := fun e => hidle h (mem_idlePlaces.1 e) rfl
    exact BarredGroup.touch (s := { s with orders := s.orders.tail }) h ht (by simp [hk, group_notMem_idlePlaces]) (by simp [hnd])

/-! ## Shed results -/

/-- A dish that is not listed for a shed move, with its last shed result. -/
def ShedEnded (d : DishId) (r : ShedResult) (s : State) : Prop := s.shedListed d = false ∧ s.melt.shedResult[d] = r

theorem shedListed_false : s.shedListed d = false ↔ ∀ e ∈ s.melt.shedList, e.dish ≠ d := by simp [State.shedListed]

theorem shedListed_of_subset {s t : State} (h : s.shedListed d = false) (hl : t.melt.shedList ⊆ s.melt.shedList) :
    t.shedListed d = false := shedListed_false.2 fun e he => shedListed_false.1 h e (hl he)

theorem ShedEnded.touch {r : ShedResult} {s t : State} {ps : List Place} (h : ShedEnded d r s) (ht : Touches ps s t)
    (hs : .sheds ∉ ps) : ShedEnded d r t :=
  ⟨shedListed_of_subset h.1 ht.listed, by rw [(ht.sheds hs).2.1]; exact h.2⟩

theorem ShedEnded.setShedResult {r : ShedResult} {s : State} (h : ShedEnded d r s) {e : DishId} (he : d ≠ e) (q : ShedResult) :
    ShedEnded d r (s.setShedResult e q) := ⟨h.1, (set_get _ _ _ _).trans ((if_neg he).trans h.2)⟩

theorem ShedEnded.setShedMove {r : ShedResult} {s : State} (h : ShedEnded d r s) (e : DishId) (m : Option ShedMove) :
    ShedEnded d r (s.setShedMove e m) := ⟨h.1, h.2⟩

theorem roundKeeps_shedEnded (r : ShedResult) : RoundKeeps (ShedEnded d r) := by
  have unlist : ∀ {s : State} (e : DishId), ShedEnded d r s → ShedEnded d r (s.unlistShed e) := fun {s} e h =>
    ⟨shedListed_of_subset h.1 (touches_unlistShed s e).listed, h.2⟩
  refine .of_touches (fun _ _ h ht _ => h.touch ht (by simp)) (fun _ _ _ _ _ _ h _ ht _ => h.touch ht (by simp))
    (fun _ h _ _ => h.touch (touches_checkStowedHold _) (by simp))
    (fun _ _ g h _ ht _ => h.touch ht (by simp [sheds_notMem_places]))
    (fun _ s t _ _ _ _ h _ _ ht _ => ShedEnded.touch (s := { s with orders := s.orders.tail }) h ht
      (by simp [State.idlePlaces])) (fun _ h => h)
    (fun s₀ s e r' h₀ he h => (unlist _ h).setShedResult (shedListed_false.1 h₀.1 e he).symm _)
    (fun s₀ s e p h₀ he h _ _ => ?_)
  have h1 := unlist e.dish h
  unfold State.admitShed; dsimp only; split
  · exact h1.setShedResult (shedListed_false.1 h₀.1 e he).symm _
  · refine ShedEnded.setShedMove ?_ _ _
    exact (((h1.touch (touches_enterReservation _ e.dish p.draw .shed) (by simp)).touch (touches_shedHeaters _) (by simp)).touch
      (touches_writeLoad _ e.dish _ _ _) (by simp)).touch (touches_setMotion _ e.dish _) (by simp)

/-! ## The Stow Queue -/

theorem unqueue_queue (s : State) (d : DishId) : (s.unqueue d).stow.queue = s.stow.queue.filter fun x => decide (x ≠ d) := by
  unfold State.unqueue; split
  · rfl
  · next h =>
    symm
    rw [List.filter_eq_self]
    rintro e he
    rw [decide_eq_true_eq]
    rintro rfl
    exact h (by simpa [State.queued] using he)

theorem unqueue_state (s : State) (d : DishId) : (s.unqueue d).stow.state = s.stow.state := by
  unfold State.unqueue; split <;> rfl

/-- Of the Stow Controller an admitted stow move changes the queue and its own record alone. -/
theorem admitStow_stow (s : State) (d : DishId) (p : MovePlan) :
    (s.admitStow d p).stow.queue = (s.unqueue d).stow.queue ∧ (s.admitStow d p).stow.state = s.stow.state := by
  have h1 := (touches_conflictAtStow (s.unqueue d) d []).stow (by simp)
  unfold State.admitStow; dsimp only; split
  · have h2 := (touches_stowInPlace ((s.unqueue d).conflictAtStow d) d).stow (by simp)
    rw [h2, h1]; exact ⟨rfl, unqueue_state s d⟩
  · have h2 : Touches [.dish d, .heat] ((s.unqueue d).conflictAtStow d) _ :=
      ((((touches_enterReservation _ d p.draw .stow).mono (by simp)).after (touches_shedHeaters _) (by simp)).after
        (touches_writeLoad _ d ⟨((((s.unqueue d).conflictAtStow d).enterReservation d p.draw .stow).shedHeaters.dish d).repAz, 0, 0⟩
          ⟨90000, p.r, p.vc⟩ p.t) (by simp)).after (touches_setMotion _ d .stowing) (by simp)
    have h3 := h2.stow (by simp)
    exact ⟨(congrArg Stow.queue (h3.trans h1) :), (congrArg Stow.state (h3.trans h1) :).trans (unqueue_state s d)⟩

theorem admitStow_motion (s : State) (d : DishId) (p : MovePlan) :
    ((s.admitStow d p).dish d).motion = .stowing ∨ ((s.admitStow d p).dish d).motion = .stowed := by
  unfold State.admitStow; dsimp only; split
  · right; unfold State.stowInPlace State.writeHoldBrake State.setMotion; rw [putSlot_dish, setDish_dish_self]
  · left; unfold State.setMotion; exact congrArg Dish.motion (setDish_dish_self _ _ _)

theorem setStowState_queue (s : State) (x : StowState) : (s.setStowState x).stow.queue = s.stow.queue := by
  unfold State.setStowState; split <;> rfl

theorem checkStowedHold_queue (s : State) : s.checkStowedHold.stow.queue = s.stow.queue := by
  have h : (s.setStowState .stowedHold).reblockAll.stow.queue = s.stow.queue := by
    rw [(touches_reblockAll _).stow (by simp)]
    exact setStowState_queue _ _
  unfold State.checkStowedHold; dsimp only
  generalize (s.setStowState .stowedHold).reblockAll = u at h ⊢
  split
  · split
    · exact (setStowState_queue _ _).trans h
    · exact h
  · rfl

/-- A dish stands last in the Stow Queue in ACTIVE, in a motion state, or has been taken to its stow. -/
def AtTail (d : DishId) (q₀ : List DishId) (m : Motion) (s : State) : Prop :=
  ∃ q : List DishId, q.Sublist q₀ ∧
    (s.stow.queue = q ++ [d] ∧ s.stow.state = .active ∧ (s.dish d).motion = m
      ∨ s.stow.queue = q ∧ ((s.dish d).motion = .stowing ∨ (s.dish d).motion = .stowed))

theorem AtTail.of_same {q₀ : List DishId} {m : Motion} {s t : State} (h : AtTail d q₀ m s) (hs : t.stow = s.stow)
    (hd : t.dish d = s.dish d) : AtTail d q₀ m t := by unfold AtTail; rw [hs, hd]; exact h

/-- Another dish leaves the queue. -/
theorem AtTail.unqueue {q₀ : List DishId} {m : Motion} {s t : State} {e : DishId} (h : AtTail d q₀ m s)
    (hq : t.stow.queue = (s.unqueue e).stow.queue) (hs : t.stow.state = s.stow.state) (hd : t.dish d = s.dish d) (he : e ≠ d) :
    AtTail d q₀ m t := by
  obtain ⟨q, hsub, h⟩ := h
  rw [unqueue_queue] at hq
  refine ⟨q.filter fun x => decide (x ≠ e), List.filter_sublist.trans hsub, ?_⟩
  rw [hq, hs, hd]
  refine h.imp (fun ⟨h1, h2, h3⟩ => ⟨?_, h2, h3⟩) (fun ⟨h1, h2⟩ => ⟨by rw [h1], h2⟩)
  rw [h1, List.filter_append]
  simp [he.symm]

/-- The dish itself leaves the queue for its stow. -/
theorem AtTail.taken {q₀ : List DishId} {m : Motion} {s t : State} (h : AtTail d q₀ m s) (hn : d ∉ q₀)
    (hi : (s.dish d).motion = .idle) (hq : t.stow.queue = (s.unqueue d).stow.queue)
    (hd : (t.dish d).motion = .stowing ∨ (t.dish d).motion = .stowed) : AtTail d q₀ m t := by
  obtain ⟨q, hsub, ⟨h1, -, -⟩ | ⟨-, h2⟩⟩ := h
  · refine ⟨q, hsub, .inr ⟨?_, hd⟩⟩
    rw [hq, unqueue_queue, h1, List.filter_append, List.filter_eq_self.2]
    · simp
    · exact fun e he => decide_eq_true fun hed => hn (hsub.subset (hed ▸ he))
  · rw [hi] at h2; rcases h2 with h2 | h2 <;> cases h2

/-- Outside ACTIVE the dish has been taken. -/
theorem AtTail.not_atCall {q₀ : List DishId} {m : Motion} {s : State} (h : AtTail d q₀ m s) (hf : s.stow.state ≠ .active) :
    (s.dish d).motion.atCall = false := by
  obtain ⟨q, -, ⟨-, ha, -⟩ | ⟨-, h2⟩⟩ := h
  · exact absurd ha hf
  · rcases h2 with h2 | h2 <;> rw [h2] <;> rfl

theorem stowInPlace_motion (s : State) (d : DishId) : ((s.stowInPlace d).dish d).motion = .stowed := by
  unfold State.stowInPlace State.writeHoldBrake State.setMotion; rw [putSlot_dish, setDish_dish_self]

theorem roundKeeps_atTail {q₀ : List DishId} {m : Motion} (hn : d ∉ q₀) : RoundKeeps (AtTail d q₀ m) where
  asks s j r c h := h
  restored s h := h.of_same ((touches_judgeRestored s []).stow (by simp)) ((touches_judgeRestored s []).dish d (by simp)).1
  power s z n h hz := h.of_same rfl rfl
  floor s e p h := h.of_same ((touches_noteFloor s e [] p).stow (by simp)) ((touches_noteFloor s e [] p).dish d (by simp)).1
  inPlace s₀ s e _ _ h hi := by
    have hu := touches_unqueue s e
    by_cases he : e = d
    · subst he
      exact h.taken hn hi rfl (.inr (stowInPlace_motion _ _))
    · refine h.unqueue (e := e) rfl (unqueue_state s e) ?_ he
      rw [((touches_stowInPlace _ e).dish d (by simpa using Ne.symm he)).1, (hu.dish d (by simp)).1]
  stow s₀ s e p _ _ h hi := by
    obtain ⟨hq, hs⟩ := admitStow_stow s e p
    by_cases he : e = d
    · subst he
      exact h.taken hn hi hq (admitStow_motion _ _ _)
    · exact h.unqueue hq hs ((touches_admitStow s e p).dish d (by simpa using Ne.symm he)).1 he
  held s h _ hq := by
    obtain ⟨q, hsub, ⟨h1, -, -⟩ | ⟨h1, h2⟩⟩ := h
    · rw [hq] at h1; simp at h1
    · exact ⟨q, hsub, .inr ⟨(checkStowedHold_queue s).trans h1, by
        rwa [((touches_checkStowedHold s).dish d (by simp)).1]⟩⟩
  resumeSlew s g n draws h hr hd := by
    obtain ⟨-, hf, hall⟩ := resumable_spec hr
    have hc := h.not_atCall (stow_ne_active hf)
    have ht := touches_resumeSlew s g n draws hd
    refine h.of_same (ht.stow (by simp [stow_notMem_places])) (ht.dish d ?_).1
    simp only [List.mem_cons, reduceCtorEq, false_or, dish_mem_places]
    intro he; rw [hall d he] at hc; cases hc
  resumeTrack s g draws h hr hd := by
    obtain ⟨-, hf, hall⟩ := resumable_spec hr
    have hc := h.not_atCall (stow_ne_active hf)
    have ht := touches_resumeTrack s g draws
    refine h.of_same (ht.stow (by simp)) (ht.dish d ?_).1
    simp only [List.mem_cons, reduceCtorEq, false_or, List.mem_map, Place.dish.injEq, not_exists, not_and]
    rintro x hx rfl; rw [hall _ (hd x hx)] at hc; cases hc
  order s₀ s o g n draws _ _ h _ hf hd hm := by
    have hc := h.not_atCall (stow_ne_active hf)
    have ht := touches_admitOrder s g o n draws hd hm
    refine h.of_same (ht.stow (by simp [State.idlePlaces])) (ht.dish d ?_).1
    simp only [List.mem_cons, reduceCtorEq, false_or, mem_idlePlaces]
    intro he; rw [he] at hc; cases hc
  refused s w h := h
  unlisted s₀ s e r _ _ h := h
  shed s₀ s e p _ _ h hf hi := by
    have hc := h.not_atCall (stow_ne_active hf)
    have ht := touches_admitShed s e.dish p
    refine h.of_same (ht.stow (by simp)) (ht.dish d ?_).1
    simp only [List.mem_cons, Place.dish.injEq, reduceCtorEq, List.not_mem_nil, or_false]
    rintro rfl; rw [hi] at hc; cases hc

/-- A dish out of the Stow Queue stays out of it. -/
theorem roundKeeps_notQueued (d : DishId) : RoundKeeps fun s => s.queued d = false := by
  have leave : ∀ {s t : State} (e : DishId), s.queued d = false → t.stow.queue = (s.unqueue e).stow.queue →
      t.queued d = false := fun {s t} e h hq => by
    simp only [State.queued, List.contains_eq_mem, decide_eq_false_iff_not] at h ⊢
    rw [hq, unqueue_queue]
    exact fun hm => h (List.mem_filter.1 hm).1
  have same : ∀ {s t : State}, s.queued d = false → t.stow = s.stow → t.queued d = false := fun {s t} h hs => by
    unfold State.queued; rw [hs]; exact h
  exact {
    asks := fun _ _ _ _ h => h
    restored := fun s h => same h ((touches_judgeRestored s []).stow (by simp))
    power := fun _ _ _ h _ => h
    floor := fun s e p h => same h ((touches_noteFloor s e [] p).stow (by simp))
    inPlace := fun _ s e _ _ h _ => leave e h rfl
    stow := fun _ s e p _ _ h _ => leave e h (admitStow_stow s e p).1
    held := fun s h _ _ => by unfold State.queued; rw [checkStowedHold_queue]; exact h
    resumeSlew := fun s g n draws h _ hd => same h ((touches_resumeSlew s g n draws hd).stow (by simp [stow_notMem_places]))
    resumeTrack := fun s g draws h _ _ => same h ((touches_resumeTrack s g draws).stow (by simp))
    order := fun _ s o g n draws _ _ h _ _ hd hm =>
      same h ((touches_admitOrder s g o n draws hd hm).stow (by simp [State.idlePlaces]))
    refused := fun _ _ h => h
    unlisted := fun _ _ _ _ _ _ h => h
    shed := fun _ s e p _ _ h _ _ => same h ((touches_admitShed s e.dish p).stow (by simp)) }

end

end Sys2Proof.Machine
end

section
/-! What one dish bears: its record, slot and reservation after each operation at it, after an exclusion and after the loss of the
dish. -/

namespace Sys2Proof.Machine

/-- A dish's record, slot and reservation. -/
def State.core (s : State) (d : DishId) : Dish × Command × Option Reservation :=
  (s.dish d, s.slot d, s.feeder.reservations[d])

section
variable {s t : State} {d : DishId} {ps : List Place}

theorem core_eq {x : Dish} {c : Command} {r : Option Reservation} (h : s.core d = (x, c, r)) :
    s.dish d = x ∧ s.slot d = c ∧ s.feeder.reservations[d] = r := by
  simpa [State.core] using h

theorem Touches.core_eq (h : Touches ps s t) (hd : .dish d ∉ ps) : t.core d = s.core d := by
  obtain ⟨h1, h2, h3⟩ := h.dish d hd
  unfold State.core; rw [h1, h2, h3]

/-- Rounds and scans leave a dish alone that is not at their call. -/
theorem settle_core (h : (s.dish d).motion.atCall = false) : s.settle.core d = s.core d :=
  congrArg (fun x : Hold => (x.record, x.slot, x.reservation)) ((spares_settle s).dish d h)

end

/-! ## Operations at the dish -/

section
variable (s : State) (d : DishId)

theorem setDish_core (f : Dish → Dish) :
    (s.setDish d f).core d = (f (s.dish d), s.slot d, s.feeder.reservations[d]) := by
  unfold State.core; rw [setDish_dish_self]; rfl

theorem setMotion_core (m : Motion) :
    (s.setMotion d m).core d = ({ s.dish d with motion := m }, s.slot d, s.feeder.reservations[d]) := setDish_core _ _ _

theorem leaveGroup_core :
    (s.leaveGroup d).core d = ({ s.dish d with group := none }, s.slot d, s.feeder.reservations[d]) := setDish_core _ _ _

theorem putSlot_core (c : Command) : (s.putSlot d c).core d = (s.dish d, c, s.feeder.reservations[d]) := by
  unfold State.core; rw [putSlot_slot_self]; rfl

theorem writeHoldBrake_core : (s.writeHoldBrake d).core d = (s.dish d, .holdBrake, s.feeder.reservations[d]) := putSlot_core _ _ _

theorem releaseReservation_core : (s.releaseReservation d).core d = (s.dish d, s.slot d, none) := by
  unfold State.releaseReservation; split
  · next h => unfold State.core; rw [h]
  · unfold State.core
    exact congrArg (fun r => (s.dish d, s.slot d, r)) ((putReservation_get s d none d).trans (if_pos rfl))

theorem writeStop_core : (s.writeStop d).core d = (s.dish d, .stop, none) := by
  unfold State.writeStop; rw [releaseReservation_core, putSlot_slot_self]; rfl

theorem stopDish_core : (s.stopDish d).core d = ({ s.dish d with motion := .stopping }, .stop, none) := by
  obtain ⟨h1, h2, h3⟩ := core_eq (writeStop_core s d)
  unfold State.stopDish; rw [setMotion_core, h1, h2, h3]

theorem faultDish_core : (s.faultDish d).core d = ({ s.dish d with motion := .fault }, .stop, none) := by
  obtain ⟨h1, h2, h3⟩ := core_eq (writeStop_core s d)
  unfold State.faultDish; rw [setMotion_core, h1, h2, h3]

end

/-! ## Exclusion (R49) -/

section
variable {s : State} {d : DishId} {g : SlotId}

theorem setMember_members (x : Group) (d : DishId) (f : Member → Member) :
    (x.setMember d f).members = x.members.map fun m => if m.order.dish = d then f m else m := rfl

/-- An excluded member is no active member any more. -/
theorem excluded_notMem (x : Group) (d : DishId) (why : ExclReason) (n : Frame) :
    d ∉ (x.setMember d fun m => { m with status := .excluded why n }).activeDishes := by
  rw [mem_activeDishes, setMember_members]
  rintro ⟨m', hm', ha, hd⟩
  obtain ⟨m, -, rfl⟩ := List.mem_map.1 hm'
  split at ha
  · cases ha
  · next h => rw [if_neg h] at hd; exact h hd

/-- The state in which an excluded member's group is judged: the member marked, the dish out of the group and stopped. -/
def State.expelled (s : State) (g : SlotId) (d : DishId) (why : ExclReason) : State :=
  (((s.setMember g d fun m => { m with status := .excluded why s.ring.frame }).leaveGroup d).stopUnlessLost d)

theorem exclude_eq (s : State) (g : SlotId) (d : DishId) (why : ExclReason) :
    s.exclude g d why = (s.expelled g d why).afterExclusion g := rfl

theorem expelled_group (s : State) (g : SlotId) (d : DishId) (why : ExclReason) :
    (s.expelled g d why).group g = (s.group g).setMember d fun m => { m with status := .excluded why s.ring.frame } := by
  unfold State.expelled
  rw [((touches_stopUnlessLost _ d).group g (by simp)).1, ((touches_leaveGroup _ d).group g (by simp)).1]
  exact setGroup_group_self _ _ _

/-- What follows an exclusion concerns the other members alone. -/
theorem exclude_core (s : State) (g : SlotId) (d : DishId) (why : ExclReason) :
    (s.exclude g d why).core d = (s.expelled g d why).core d := by
  rw [exclude_eq]
  refine (touches_afterExclusion _ g).core_eq ?_
  rw [dish_mem_places, expelled_group]
  exact excluded_notMem _ _ _ _

theorem expelled_core (s : State) (g : SlotId) (d : DishId) (why : ExclReason) :
    (s.expelled g d why).core d =
      if (s.dish d).motion = .fault ∨ (s.dish d).motion = .offline then
        ({ s.dish d with group := none }, s.slot d, s.feeder.reservations[d])
      else ({ s.dish d with group := none, motion := .stopping }, .stop, none) := by
  unfold State.expelled State.stopUnlessLost
  generalize hu : s.setMember g d (fun m => { m with status := .excluded why s.ring.frame }) = u
  have hcore : u.core d = s.core d := hu ▸ (touches_setMember s g d _).core_eq (by simp)
  obtain ⟨h1, h2, h3⟩ := core_eq hcore
  obtain ⟨l1, l2, l3⟩ := core_eq (leaveGroup_core u d)
  rw [l1, h1]
  dsimp only
  split
  · rw [leaveGroup_core, h1, h2, h3]
  · rw [stopDish_core, l1, h1]

/-- A dish in FAULT or OFFLINE leaves its group, and nothing else of it changes (R49). -/
theorem excludeMember_core_lost (h : (s.dish d).motion = .fault ∨ (s.dish d).motion = .offline) (why : ExclReason) :
    (s.excludeMember d why).core d = ({ s.dish d with group := none }, s.slot d, s.feeder.reservations[d]) := by
  unfold State.excludeMember; split
  · next hg => unfold State.core; rw [← hg]
  · rw [exclude_core, expelled_core, if_pos h]

/-- Any other dish of a group is stopped (R49). -/
theorem excludeMember_core_stops (hg : (s.dish d).group = some g) (hf : (s.dish d).motion ≠ .fault)
    (ho : (s.dish d).motion ≠ .offline) (why : ExclReason) :
    (s.excludeMember d why).core d = ({ s.dish d with group := none, motion := .stopping }, .stop, none) := by
  unfold State.excludeMember; rw [hg]
  dsimp only
  rw [exclude_core, expelled_core, if_neg (not_or.2 ⟨hf, ho⟩)]

theorem excludeMember_none (hg : (s.dish d).group = none) (why : ExclReason) : s.excludeMember d why = s := by
  unfold State.excludeMember; rw [hg]

end

/-! ## Loss (R16) -/

theorem loseDish_core (s : State) (d : DishId) :
    (s.loseDish d).core d = ({ s.dish d with motion := .offline, group := none }, .stop, none) := by
  obtain ⟨w1, w2, w3⟩ := core_eq (writeStop_core s d)
  obtain ⟨m1, m2, m3⟩ := core_eq (setMotion_core (s.writeStop d) d .offline)
  unfold State.loseDish; dsimp only
  rw [(touches_answerBlock _ _ _).core_eq (by simp), (touches_failShed _ _ _).core_eq (by simp),
    (touches_stowOnLoss _ _ _).core_eq (by simp), excludeMember_core_lost (by rw [m1]; exact .inr rfl), m1, m2, m3, w1, w2, w3]

/-- The loss of a present dish at 20 misses, with the rounds that it asks for. -/
theorem judgeLoss_core {s : State} {d : DishId} (hp : (s.cfg d).present = true) (hm : s.ring.miss[d] = 20)
    (ho : (s.dish d).motion ≠ .offline) :
    (s.judgeLoss d).core d = ({ s.dish d with motion := .offline, group := none }, .stop, none)
      ∧ (s.judgeLoss d).fixed = s.fixed := by
  have hcore := loseDish_core s d
  have hd := (core_eq hcore).1
  unfold State.judgeLoss
  rw [if_pos ⟨hp, hm, ho⟩]
  exact ⟨(settle_core (by rw [hd]; rfl)).trans hcore, ((within_loseDish s d).trans (within_settle _)).fixed⟩

/-- Settles O17: a miss counts to 20 and takes the loss, as LOSS_OF_DISH does; a dish OFFLINE is at no round's call. -/
theorem lossTakesOffline : Obligations.LossTakesOffline := by
  unfold Obligations.LossTakesOffline
  intro d i s hr hp ho hi
  rcases hi with ⟨rfl, ha, h19⟩ | ⟨rfl, h20⟩
  · have hcount : (s.closeWindow.countMiss d).ring.miss[d] = 20 := by
      rw [countMiss_self]; change min 20 (s.ring.miss[d] + 1) = 20; omega
    obtain ⟨hcore, hfix⟩ := judgeLoss_core (s := s.closeWindow.countMiss d) hp hcount ho
    obtain ⟨h1, h2, h3⟩ := core_eq hcore
    have hmiss : ((s.closeWindow.countMiss d).judgeLoss d).ring.miss = (s.closeWindow.countMiss d).ring.miss :=
      congrArg Fixed.miss hfix
    refine ⟨_, exec_miss_taken ha, by rw [h1], h2, h3, by rw [h1], by rw [hmiss, hcount], ?_, fun e he => ?_⟩
    · rw [hfix, hmiss, if_pos rfl]; rfl
    · rw [hmiss, countMiss_ne _ he]; rfl
  · obtain ⟨hcore, hfix⟩ := judgeLoss_core hp h20 ho
    obtain ⟨h1, h2, h3⟩ := core_eq hcore
    have hmiss : (s.judgeLoss d).ring.miss = s.ring.miss := congrArg Fixed.miss hfix
    refine ⟨_, event_taken hr, by rw [h1], h2, h3, by rw [h1], by rw [hmiss, h20], ?_, fun e _ => by rw [hmiss]⟩
    rw [hfix, hmiss, if_neg nofun]; rfl

end Sys2Proof.Machine
end

section
/-! Entry to IDLE (R11), and the release of a braked group (R57). -/

namespace Sys2Proof.Machine

/-! ## Locks as a dish shows them -/

section
variable {s t : State}

/-- Dishes are locked alike where the Lock Table and the reported flags are the same. -/
theorem Within.moveLocked_eq (h : Within s t) (d : DishId) : t.moveLocked d = s.moveLocked d := by
  unfold State.moveLocked State.appliedMove State.countLocks
  rw [h.locks_eq, h.switchLock_eq]

theorem Within.lockRequested_eq (h : Within s t) (d : DishId) : t.lockRequested d = s.lockRequested d := by
  unfold State.lockRequested State.pendingMove State.countLocks
  rw [h.locks_eq]

theorem Within.appliedHeat_eq (h : Within s t) (d : DishId) : t.appliedHeat d = s.appliedHeat d := by
  unfold State.appliedHeat State.countLocks
  rw [h.locks_eq]

theorem Within.censusDone_eq (h : Within s t) : t.censusDone = s.censusDone := by
  unfold State.censusDone
  rw [h.locks_eq]

end

/-! ## Entry to IDLE (R11) -/

/-- The record of a dish that enters IDLE. -/
def Dish.idled (x : Dish) : Dish := { x with motion := .idle, cmdAz := x.repAz, cmdEl := x.repEl }

/-- Entry to IDLE before an UNREACHABLE dish answers by R109. -/
def State.atIdle (s : State) (d : DishId) : State :=
  let s := s.setDish d Dish.idled
  (if s.moveLocked d then s.writeHoldBrake d else s.putSlot d .keep).askRound

/-- The slot of a dish that has entered IDLE, move-locked or not. -/
def idleSlot (locked : Bool) : Command := if locked then .holdBrake else .keep

section
variable (s : State) (d : DishId)

theorem enterIdle_eq : s.enterIdle d = (s.atIdle d).rejoinUnreachable d := rfl

theorem touches_atIdle : Touches [.dish d] s (s.atIdle d) :=
  ((touches_setDish _ _ _).trans (touches_ite (touches_writeHoldBrake _ _) (touches_putSlot _ _ _))).askRound

theorem within_atIdle : Within s (s.atIdle d) :=
  (within_setDish s d Dish.idled fun _ => rfl).trans <|
    (within_ite (within_writeHoldBrake _ _) (within_putSlot _ _ _)).trans (within_askRound _)

theorem atIdle_core : (s.atIdle d).core d = ((s.dish d).idled, idleSlot (s.moveLocked d), s.feeder.reservations[d]) := by
  have hl : (s.setDish d Dish.idled).moveLocked d = s.moveLocked d :=
    (within_setDish s d Dish.idled fun _ => rfl).moveLocked_eq d
  have hcore : ∀ c, ((s.setDish d Dish.idled).putSlot d c).core d = ((s.dish d).idled, c, s.feeder.reservations[d]) := fun c => by
    rw [putSlot_core, setDish_dish_self]; rfl
  have heq : s.atIdle d = (if s.moveLocked d then (s.setDish d Dish.idled).putSlot d .holdBrake
      else (s.setDish d Dish.idled).putSlot d .keep).askRound := by rw [← hl]; rfl
  rw [heq]
  cases s.moveLocked d
  · exact hcore _
  · exact hcore _

theorem enterIdle_core :
    (s.enterIdle d).core d = ((s.dish d).idled, idleSlot (s.moveLocked d), s.feeder.reservations[d]) := by
  rw [enterIdle_eq, (touches_rejoinUnreachable _ _).core_eq (by simp), atIdle_core]

/-- A dish that is not UNREACHABLE in a state of the stow that lets it rejoin has nothing to answer. -/
theorem rejoinUnreachable_none {s : State} {d : DishId} (h : s.mark d ≠ .unreachable ∨ s.stow.state.rejoins = false) :
    s.rejoinUnreachable d = s := by
  unfold State.rejoinUnreachable
  rw [if_neg]
  rintro ⟨h1, h2, -⟩
  rcases h with h | h
  · exact h h1
  · rw [h] at h2; cases h2

theorem enterIdle_plain {s : State} {d : DishId} (h : s.mark d ≠ .unreachable ∨ s.stow.state.rejoins = false) :
    s.enterIdle d = s.atIdle d := by
  have hs := (touches_atIdle s d).stow (by simp)
  rw [enterIdle_eq]
  refine rejoinUnreachable_none ?_
  unfold State.mark
  rw [hs]; exact h

end

/-! ## Release -/

/-- The record, slot and reservation of a member after its release (R57). -/
def released (locked : Bool) : Dish × Command × Option Reservation → Dish × Command × Option Reservation
  | (x, c, r) =>
    if x.motion = .engaged then ({ x with group := none }.idled, idleSlot locked, r) else ({ x with group := none }, c, r)

theorem released_released (b : Bool) (c : Dish × Command × Option Reservation) : released b (released b c) = released b c := by
  obtain ⟨x, c, r⟩ := c
  by_cases hx : x.motion = .engaged
  · simp [released, hx, Dish.idled]
  · simp [released, hx]

theorem rejoins_false_of_not_inForce {s : State} (h : s.stowInForce = false) : s.stow.state.rejoins = false := by
  unfold State.stowInForce at h
  revert h
  cases s.stow.state <;> simp [StowState.inForce, StowState.rejoins]

theorem released_engaged {s : State} {d : DishId} {b : Bool} (h : (s.dish d).motion = .engaged) : released b (s.core d) =
    ({ s.dish d with group := none }.idled, idleSlot b, s.feeder.reservations[d]) := if_pos h

theorem released_other {s : State} {d : DishId} {b : Bool} (h : (s.dish d).motion ≠ .engaged) : released b (s.core d) =
    ({ s.dish d with group := none }, s.slot d, s.feeder.reservations[d]) := if_neg h

section
variable (s : State) (d : DishId)

theorem releaseMember_core : (s.releaseMember d).core d = released (s.moveLocked d) (s.core d) := by
  have hl := (within_leaveGroup s d).moveLocked_eq d
  obtain ⟨h1, h2, h3⟩ := core_eq (leaveGroup_core s d)
  unfold State.releaseMember released State.core; dsimp only
  by_cases hm : (s.dish d).motion = .engaged
  · rw [h1, if_pos hm, if_pos hm, ← hl, ← h1, ← h3]
    exact enterIdle_core (s.leaveGroup d) d
  · rw [h1, if_neg hm, if_neg hm, h1, h2, h3]

theorem released_reservation (b : Bool) (c : Dish × Command × Option Reservation) : (released b c).2.2 = c.2.2 := by
  obtain ⟨x, c, r⟩ := c
  by_cases hx : x.motion = .engaged <;> simp [released, hx]

/-- With no stow in force a member released changes nothing beside its dish. -/
theorem touches_releaseMember (h : s.stowInForce = false) : Touches [.dish d] s (s.releaseMember d) := by
  have hs : (s.leaveGroup d).stow.state.rejoins = false := rejoins_false_of_not_inForce h
  unfold State.releaseMember; dsimp only
  rw [enterIdle_plain (.inr hs)]
  exact touches_ite ((touches_leaveGroup _ _).trans (touches_atIdle _ _)) (touches_leaveGroup _ _)

end

/-- The members of a list released: each as released says, the others as they were. -/
theorem releaseMembers_spec (ds : List DishId) (s : State) (h : s.stowInForce = false) :
    Touches (ds.map .dish) s (s.onDishes ds State.releaseMember)
      ∧ ∀ e ∈ ds, (s.onDishes ds State.releaseMember).core e = released (s.moveLocked e) (s.core e) := by
  induction ds generalizing s with
  | nil => exact ⟨.refl _ s, fun e he => by cases he⟩
  | cons d ds ih =>
    have ht := touches_releaseMember s d h
    have hf : (s.releaseMember d).stowInForce = false := by unfold State.stowInForce; rw [ht.stow (by simp)]; exact h
    obtain ⟨ih1, ih2⟩ := ih (s.releaseMember d) hf
    have hlock : ∀ e, (s.releaseMember d).moveLocked e = s.moveLocked e := (within_releaseMember s d).moveLocked_eq
    have hfirst : ∀ e ∈ d :: ds, (s.releaseMember d).core e = released (s.moveLocked e) (s.core e) ∨
        e ∈ ds ∧ (s.releaseMember d).core e = s.core e := fun e he => by
      by_cases hed : e = d
      · subst hed; exact .inl (releaseMember_core s e)
      · exact .inr ⟨(List.mem_cons.1 he).resolve_left hed, ht.core_eq (by simpa using hed)⟩
    refine ⟨(ht.mono (by simp)).trans (ih1.mono (by simp)), fun e he => ?_⟩
    change ((s.releaseMember d).onDishes ds State.releaseMember).core e = _
    by_cases hds : e ∈ ds
    · rw [ih2 e hds, hlock]
      rcases hfirst e he with hc | ⟨-, hc⟩ <;> rw [hc]
      exact released_released _ _
    · rw [ih1.core_eq (by simpa using hds)]
      rcases hfirst e he with hc | ⟨hc, -⟩
      · exact hc
      · exact absurd hc hds

theorem exec_releaseGroup {s : State} (hh : s.hears .scheduler = true) (n : Nat) :
    exec (.releaseGroup .scheduler (.fields ⟨n⟩)) s = .next (s.onSlot .scheduler .releaseGroup n fun g =>
      match (s.group g).state with
      | .positioned | .held => (s.releaseBraked g).settle.answer .scheduler .releaseGroup .ok []
      | .tracking | .trackHalted => (s.endGroup g .done).settle.answer .scheduler .releaseGroup .ok []
      | .free | .loading | .slewing | .holding | .resumeWait => s.refuse .scheduler .releaseGroup .wrongState) :=
  serve_taken hh rfl _ _

theorem exec_abortGroup {s : State} (hh : s.hears .scheduler = true) (n : Nat) :
    exec (.abortGroup .scheduler (.fields ⟨n⟩)) s = .next (s.onSlot .scheduler .abortGroup n fun g =>
      if (s.group g).state = .free then s.refuse .scheduler .abortGroup .wrongState
      else (s.endGroup g .aborted).settle.answer .scheduler .abortGroup .ok []) := serve_taken hh rfl _ _

theorem onSlot_slot (s : State) (src : Sender) (r : Request) (g : SlotId) (take : SlotId → State) :
    s.onSlot src r g.val take = take g := dif_pos g.isLt

theorem onSlot_refused (s : State) (src : Sender) (r : Request) {n : Nat} (h : 4 ≤ n) (take : SlotId → State) :
    s.onSlot src r n take = s.refuse src r .badField := dif_neg (by omega)

/-- A slot freed shows its result; its track stream is as at power-on (R45, R76). -/
theorem freeSlot_self (s : State) (g : SlotId) (r : GroupResult) :
    (s.freeSlot g r).group g = { s.group g with state := .free, lastResult := r } ∧ (s.freeSlot g r).stream g = Stream.reset := by
  unfold State.freeSlot
  constructor
  · rw [askRound_group, setStream_group, setGroup_group_self]
  · rw [askRound_stream, setStream_stream_self]

/-- What the release of a braked group leaves of the state, rounds and scans run (R57). -/
theorem releaseBraked_settle {s : State} {g : SlotId} (hf : s.stowInForce = false) (hn : s.NoContender) :
    Touches (.heat :: (s.group g).places g) s (s.releaseBraked g).settle
      ∧ (s.releaseBraked g).settle.group g = { s.group g with state := .free, lastResult := .done }
      ∧ (s.releaseBraked g).settle.stream g = Stream.reset
      ∧ ∀ e ∈ (s.group g).activeDishes, (s.releaseBraked g).settle.core e = released (s.moveLocked e) (s.core e) := by
  obtain ⟨ht, hcore⟩ := releaseMembers_spec (s.group g).activeDishes s hf
  generalize hu : s.onDishes (s.group g).activeDishes State.releaseMember = u at ht hcore
  have heq : s.releaseBraked g = u.freeSlot g .done := by rw [← hu]; rfl
  have hfree := touches_freeSlot u g .done
  have hplaces : Touches ((s.group g).places g) s (u.freeSlot g .done) :=
    (touches_members ht g).trans (touches_slot _ hfree _)
  obtain ⟨hgroup, hstream⟩ := freeSlot_self u g .done
  have hw : Within s (u.freeSlot g .done) := heq ▸ within_releaseBraked s g
  have hnobody : NobodyAdmitted (u.freeSlot g .done) := by
    refine NobodyAdmitted.of_same (s := s) ⟨stow_ne_active hf, .inl hn⟩ ?_ (by rw [hplaces.orders]) hplaces.listed
      (fun k hk => ?_) (by rw [hw.locks_eq])
    · rw [hplaces.stow (stow_notMem_places _ _)]; exact stow_ne_active hf
    · by_cases hkg : k = g
      · subst hkg; rw [hgroup] at hk; cases hk
      · rwa [(hplaces.group k (by rwa [group_mem_places])).1] at hk
  have hset := touches_settle_of_nobody hnobody
  have hgu : u.group g = s.group g := (ht.group g (by simp)).1
  rw [heq]
  refine ⟨(hplaces.mono (List.subset_cons_self _ _)).trans (hset.mono (by simp)), ?_, ?_, fun e he => ?_⟩
  · rw [(hset.group g (by simp)).1, hgroup, hgu]
  · rw [(hset.group g (by simp)).2, hstream]
  · rw [hset.core_eq (by simp), hfree.core_eq (by simp), hcore e he]

/-- Settles O39: each member released enters IDLE or leaves its group, and with nobody to be admitted the rounds touch heaters
alone. -/
theorem brakedGroupsAreReleased : Obligations.BrakedGroupsAreReleased := by
  unfold Obligations.BrakedGroupsAreReleased
  intro g s hh
  have hrel := (exec_releaseGroup hh g.val).trans (by rw [onSlot_slot])
  have habort := (exec_abortGroup hh g.val).trans (by rw [onSlot_slot])
  refine ⟨fun hg hf hn => ?_, fun hg => ?_, fun hg => ?_, fun n hn4 => ⟨?_, ?_⟩⟩
  · obtain ⟨ht, hgroup, hstream, hcore⟩ := releaseBraked_settle (g := g) hf hn
    have hexec : exec (.releaseGroup .scheduler (.fields ⟨g.val⟩)) s
        = .next ((s.releaseBraked g).settle.answer .scheduler .releaseGroup .ok []) := by
      rcases hg with hg | hg <;> rw [hg] at hrel <;> exact hrel
    refine ⟨_, hexec, ?_⟩
    generalize (s.releaseBraked g).settle = u at ht hgroup hstream hcore
    have hdish : ∀ d ∈ (s.group g).activeDishes, u.core d = released (s.moveLocked d) (s.core d) := hcore
    have hother : ∀ d, d ∉ (s.group g).activeDishes → u.core d = s.core d := fun d hd =>
      ht.core_eq (by simpa [dish_mem_places] using hd)
    have hres : u.feeder.reservations = s.feeder.reservations := by
      refine Vector.ext fun i hi => ?_
      by_cases hd : (⟨i, hi⟩ : DishId) ∈ (s.group g).activeDishes
      · exact (congrArg (·.2.2) (hdish _ hd)).trans (released_reservation _ _)
      · exact (congrArg (·.2.2) (hother _ hd) :)
    have hstow : u.stow = s.stow := ht.stow (by simp [stow_notMem_places])
    refine ⟨rfl, hgroup, hstream, fun d hd => ⟨fun he => ?_, fun he => ?_⟩, fun d hd => ?_, fun k hk => ?_, hres, hstow⟩
    · obtain ⟨h1, h2, -⟩ := core_eq ((hdish d hd).trans (released_engaged he))
      exact ⟨h1, h2⟩
    · obtain ⟨h1, h2, -⟩ := core_eq ((hdish d hd).trans (released_other (by rw [he]; nofun)))
      exact ⟨h1, h2⟩
    · obtain ⟨h1, h2, h3⟩ := core_eq (hother d hd)
      have h4 : u.melt.shedMoves = s.melt.shedMoves := (ht.sheds (by simp [sheds_notMem_places])).1
      change u.holdOf d = s.holdOf d
      unfold State.holdOf
      rw [h1, h2, h3, hstow, h4]
    · exact ht.group k (by simpa [group_mem_places] using hk)
  · rcases hg with hg | hg | hg | hg | hg <;> rw [hg] at hrel <;> exact hrel
  · rw [if_pos hg] at habort; exact habort
  · exact (exec_releaseGroup hh n).trans (by rw [onSlot_refused _ _ _ hn4]; rfl)
  · exact (exec_abortGroup hh n).trans (by rw [onSlot_refused _ _ _ hn4]; rfl)

end Sys2Proof.Machine
end

section
/-! WRITE CONFIG, section DISH: how it is judged, and what the clearing or the setting of a present flag leaves (R8, R9, R131, R172). -/

namespace Sys2Proof.Machine

/-! ## Zones out of use -/

section
variable {s t : State} {z : ZoneId} {x : Zone}

/-- A zone out, as it was. -/
def Rested (z : ZoneId) (x : Zone) (s : State) : Prop := s.zone z = x ∧ s.Out z

theorem Rested.touch {ps : List Place} (h : Rested z x s) (ht : Touches ps s t) (hb : .block ∉ ps) : Rested z x t := by
  obtain ⟨h1, h2⟩ := (ht.block hb z).2.2 h.2
  exact ⟨h1.trans h.1, h2⟩

theorem Rested.reblockZone (h : Rested z x s) (w : ZoneId) : Rested z x (s.reblockZone w) := by
  by_cases he : z = w
  · subst he
    unfold State.reblockZone
    rw [h.2.1]; exact h
  · have hset : ∀ f, Rested z x (s.setZone w f).askScan := fun f => by
      have hz : (s.setZone w f).zone z = s.zone z := by rw [setZone_zone, if_neg he]
      exact ⟨hz.trans h.1, (congrArg Zone.state hz).trans h.2.1, h.2.2⟩
    have hun : Rested z x (s.unpower w .blocked).askScan := by
      obtain ⟨h1, h2⟩ := h.2.unpower he .blocked
      exact ⟨h1.trans h.1, h2⟩
    unfold State.reblockZone; split
    · exact h
    · split <;> assumption
    · split
      · exact hset _
      · exact h
    · split
      · exact h
      · exact hset _

theorem Rested.reblock (zs : List ZoneId) (h : Rested z x s) : Rested z x (zs.foldl State.reblockZone s) := by
  induction zs generalizing s with
  | nil => exact h
  | cons w zs ih => exact ih (h.reblockZone w)

theorem Rested.reblockAll (h : Rested z x s) : Rested z x s.reblockAll := by
  have h1 := h.reblock allZones
  unfold State.reblockAll
  generalize allZones.foldl State.reblockZone s = u at h1 ⊢
  exact h1

theorem Rested.checkStowedHold (h : Rested z x s) : Rested z x s.checkStowedHold := by
  have h2 := (h.touch (touches_setStowState s .stowedHold) (by simp)).reblockAll
  unfold State.checkStowedHold; dsimp only
  split
  · split
    · exact h2.touch (touches_enterCalmWait _) (by simp)
    · exact h2
  · exact h

theorem roundKeeps_rested (z : ZoneId) (x : Zone) : RoundKeeps (Rested z x) :=
  .of_touches (fun _ _ h ht _ => h.touch ht (by simp)) (fun _ _ _ _ _ _ h _ ht _ => h.touch ht (by simp))
    (fun _ h _ _ => h.checkStowedHold) (fun _ _ _ h _ ht _ => h.touch ht (by simp [block_notMem_places]))
    (fun _ s _ _ _ _ _ h _ _ ht _ => Rested.touch (s := { s with orders := s.orders.tail }) h ht (by simp [State.idlePlaces]))
    (fun _ h => h) (fun _ _ _ _ _ _ h => h.touch (touches_unlist _ _ _) (by simp))
    (fun _ _ _ _ _ _ h _ _ => h.touch (touches_admitShed _ _ _) (by simp))

/-- Rounds and scans add no zone to the Melt Rotation List. -/
theorem roundKeeps_rotation (zs : List ZoneId) : RoundKeeps fun s => s.melt.rotation ⊆ zs :=
  .of_touches (fun _ _ h ht _ => List.Subset.trans ht.rotation h) (fun _ _ _ _ _ _ h _ ht _ => List.Subset.trans ht.rotation h)
    (fun _ h _ _ => List.Subset.trans (touches_checkStowedHold _).rotation h)
    (fun _ _ _ h _ ht _ => List.Subset.trans ht.rotation h) (fun _ _ _ _ _ _ _ h _ _ ht _ => List.Subset.trans ht.rotation h)
    (fun _ h => h) (fun _ _ _ _ _ _ h => List.Subset.trans (touches_unlist _ _ _).rotation h)
    (fun _ _ _ _ _ _ h _ _ => List.Subset.trans (touches_admitShed _ _ _).rotation h)

end

/-! ## Zones cancelled (R131) -/

section
variable (s : State) (z w : ZoneId)

theorem cancelZone_idle (h : (s.zone z).state = .idle) : s.cancelZone z = s := by
  unfold State.cancelZone; rw [h]

theorem cancelZone_powered (h : (s.zone z).state = .powered) : s.cancelZone z = (s.leavePowerOrder z).retireZone z := by
  unfold State.cancelZone; rw [h]

theorem cancelZone_listed (hi : (s.zone z).state ≠ .idle) (hp : (s.zone z).state ≠ .powered) :
    s.cancelZone z = s.retireZone z := by
  unfold State.cancelZone
  cases h : (s.zone z).state with
  | idle => exact absurd h hi
  | powered => exact absurd h hp
  | waiting => rfl
  | blocked => rfl

theorem cancelZone_zone : (s.cancelZone z).zone w =
    if w = z ∧ (s.zone z).state ≠ .idle then Zone.reset else s.zone w := by
  by_cases hi : (s.zone z).state = .idle
  · rw [cancelZone_idle _ _ hi, if_neg fun h => h.2 hi]
  · have hret : (s.cancelZone z).zone w = if w = z then Zone.reset else s.zone w := by
      by_cases hp : (s.zone z).state = .powered
      · rw [cancelZone_powered _ _ hp, retireZone_zone]; rfl
      · rw [cancelZone_listed _ _ hi hp, retireZone_zone]
    rw [hret]
    by_cases hw : w = z <;> simp [hw, hi]

/-- A zone that is not IDLE leaves both lists as it is cancelled, where the power order names POWERED zones alone. -/
theorem cancelZone_lists (hi : (s.zone z).state ≠ .idle)
    (hl : z ∈ s.feeder.powerOrder.map (·.zone) → (s.zone z).state = .powered) :
    z ∉ (s.cancelZone z).melt.rotation ∧ z ∉ (s.cancelZone z).feeder.powerOrder.map (·.zone) := by
  by_cases hp : (s.zone z).state = .powered
  · rw [cancelZone_powered _ _ hp]
    exact ⟨fun h => of_decide_eq_true (List.mem_filter.1 h).2 rfl, fun h => by
      obtain ⟨x, hx, hxz⟩ := List.mem_map.1 h
      exact of_decide_eq_true (List.mem_filter.1 hx).2 hxz⟩
  · rw [cancelZone_listed _ _ hi hp]
    exact ⟨fun h => of_decide_eq_true (List.mem_filter.1 h).2 rfl, fun h => hp (hl h)⟩

theorem cancelZone_powerOrder : (s.cancelZone z).feeder.powerOrder ⊆ s.feeder.powerOrder := by
  by_cases hi : (s.zone z).state = .idle
  · rw [cancelZone_idle _ _ hi]; exact List.Subset.refl _
  · by_cases hp : (s.zone z).state = .powered
    · rw [cancelZone_powered _ _ hp]; exact fun x hx => (List.mem_filter.1 hx).1
    · rw [cancelZone_listed _ _ hi hp]; exact List.Subset.refl _

end

/-- Zones of a list cancelled, each once: those that were not IDLE are as at power-on, the others as they were. -/
theorem cancelZones_spec (zs : List ZoneId) (s : State) :
    (∀ w, (zs.foldl State.cancelZone s).zone w = if w ∈ zs ∧ (s.zone w).state ≠ .idle then Zone.reset else s.zone w)
      ∧ (zs.foldl State.cancelZone s).feeder.powerOrder ⊆ s.feeder.powerOrder
      ∧ ∀ w ∈ zs, (s.zone w).state ≠ .idle → (w ∈ s.feeder.powerOrder.map (·.zone) → (s.zone w).state = .powered) →
          w ∉ (zs.foldl State.cancelZone s).melt.rotation
            ∧ w ∉ (zs.foldl State.cancelZone s).feeder.powerOrder.map (·.zone) := by
  induction zs generalizing s with
  | nil => exact ⟨fun w => by simp, List.Subset.refl _, fun w hw => by cases hw⟩
  | cons z zs ih =>
    obtain ⟨i1, i2, i3⟩ := ih (s.cancelZone z)
    have hrot : (zs.foldl State.cancelZone (s.cancelZone z)).melt.rotation ⊆ (s.cancelZone z).melt.rotation :=
      (touches_foldl _ zs (fun z _ s => touches_cancelZone s z) _).rotation
    rw [List.foldl_cons]
    refine ⟨fun w => ?_, List.Subset.trans i2 (cancelZone_powerOrder s z), fun w hw hi hl => ?_⟩
    · rw [i1, cancelZone_zone]
      by_cases hwz : w = z
      · subst hwz
        by_cases hi : (s.zone w).state = .idle <;> simp [hi, Zone.reset]
      · simp [hwz]
    · by_cases hwz : w = z
      · subst hwz
        obtain ⟨c1, c2⟩ := cancelZone_lists s w hi hl
        exact ⟨fun h => c1 (hrot h), fun h => c2 (List.map_subset _ i2 h)⟩
      · have hz : (s.cancelZone z).zone w = s.zone w := by rw [cancelZone_zone, if_neg fun h => hwz h.1]
        refine i3 w ((List.mem_cons.1 hw).resolve_left hwz) (by rw [hz]; exact hi) fun hm => ?_
        rw [hz]
        exact hl (List.map_subset _ (cancelZone_powerOrder s z) hm)

theorem mem_zonesOf {d : DishId} {z : ZoneId} : z ∈ zonesOf d ↔ z.dish = d := by
  obtain ⟨e, k⟩ := z
  cases k <;> simp [zonesOf]

/-! ## The judgement (R172) -/

theorem inRange_iff {lo hi : Nat} {x : Option Nat} : inRange lo hi x = true ↔ ∀ n, x = some n → lo ≤ n ∧ n ≤ hi := by
  cases x <;> simp [inRange]

theorem dishItems_iff {f : DishConfigFields} :
    dishItems f = true ↔ f ≠ ⟨f.dish, none, none, none, none, none, none, none, none, none, none, none, none⟩ := by
  obtain ⟨d, x1, x2, x3, x4, x5, x6, x7, x8, x9, x10, x11, x12⟩ := f
  simp only [dishItems, ne_eq, DishConfigFields.mk.injEq, true_and, Bool.or_eq_true, Option.isSome_iff_ne_none]
  tauto

/-- A refusal, whether it names the item that failed or draws a free byte (R172; log 6). -/
theorem judgeWrite_refused {s : State} {any : Bool} {oks : List Bool} {constraint : Bool} {take : State}
    (h : ¬ (any = true ∧ (∀ b ∈ oks, b = true) ∧ constraint = true)) :
    ∃ b n, s.judgeWrite .safety any oks constraint take
      = { s.putHolder .safety (some ⟨0x2B, .badField, [b]⟩) with fresh := n } := by
  have hfree : ∃ b n, s.refuseWrite .safety = { s.putHolder .safety (some ⟨0x2B, .badField, [b]⟩) with fresh := n } :=
    ⟨_, _, rfl⟩
  unfold State.judgeWrite
  by_cases hany : any = true
  · rw [if_neg (by simp [hany])]
    cases hbad : firstBad oks with
    | some i => exact ⟨_, _, rfl⟩
    | none =>
      have hall : ∀ b ∈ oks, b = true := by simpa [firstBad, List.findIdx?_eq_none_iff] using hbad
      dsimp only
      rw [if_neg fun hc => h ⟨hany, hall, hc⟩]
      exact hfree
  · rw [if_pos (by simpa using hany)]
    exact hfree

theorem judgeWrite_taken {s : State} {src : Sender} {any : Bool} {oks : List Bool} {constraint : Bool} {take : State}
    (h : any = true ∧ (∀ b ∈ oks, b = true) ∧ constraint = true) : s.judgeWrite src any oks constraint take = take := by
  obtain ⟨hany, hall, hc⟩ := h
  have hbad : firstBad oks = none := by simpa [firstBad, List.findIdx?_eq_none_iff] using hall
  unfold State.judgeWrite
  rw [if_neg (by simp [hany]), hbad]
  dsimp only
  rw [if_pos hc]

theorem exec_writeConfigDish {s : State} (hh : s.hears .safety = true) (f : DishConfigFields) :
    exec (.writeConfigDish .safety (.fields f)) s = .next (
      if h : f.dish < 48 then
        s.judgeWrite .safety (dishItems f) (dishRanges f) (dishAfter f (s.cfg ⟨f.dish, h⟩)).drawsFit
          (s.writeDish .safety ⟨f.dish, h⟩ (dishAfter f (s.cfg ⟨f.dish, h⟩)))
      else s.refuseWrite .safety) := serve_taken hh rfl _ _

/-- The values carried lie in their ranges, one is carried, and the draws fit (R172). -/
def ValidDish (f : DishConfigFields) (c : DishSettings) : Prop :=
  dishItems f = true ∧ (∀ b ∈ dishRanges f, b = true) ∧ (dishAfter f c).drawsFit = true

theorem valid_iff {f : DishConfigFields} {c : DishSettings} :
    let within := fun lo hi (x : Option Nat) => ∀ n, x = some n → lo ≤ n ∧ n ≤ hi
    ValidDish f c ↔ f ≠ ⟨f.dish, none, none, none, none, none, none, none, none, none, none, none, none⟩
      ∧ within 0 1 f.present
      ∧ within 1 400 f.azVmax ∧ within 1 50 f.azA ∧ within 1 1000 f.azRamp ∧ within 0 1000 f.azTrack
      ∧ within 1 400 f.elVmax ∧ within 1 50 f.elA ∧ within 1 1000 f.elRamp ∧ within 0 1000 f.elTrack
      ∧ within 0 5 f.mast ∧ within 0 255 f.stowRank ∧ within 15000 45000 f.shedEl
      ∧ f.azTrack.getD c.az.trackDraw + f.elTrack.getD c.el.trackDraw
          ≤ min (f.azRamp.getD c.az.rampDraw) (f.elRamp.getD c.el.rampDraw) := by
  intro within
  simp only [ValidDish, dishItems_iff, dishRanges, List.forall_mem_cons, inRange_iff, DishSettings.drawsFit,
    decide_eq_true_eq, List.not_mem_nil, false_implies, implies_true, and_true, and_assoc]
  rfl

theorem presentBusy_iff {s : State} {d : DishId} : s.presentBusy d = true ↔
    (s.dish d).motion = .engaged ∨ (s.dish d).motion = .stopping ∨ (s.dish d).motion = .stowing
      ∨ (s.dish d).motion = .shedding ∨ s.feeder.reservations[d] ≠ none ∨ d ∈ s.stow.queue
      ∨ (∃ e ∈ s.melt.shedList, e.dish = d) ∨ (∃ g, s.staging = some g ∧ ∃ m ∈ g.members, m.dish = d)
      ∨ ∃ o ∈ s.orders, ∃ m ∈ o.members, m.dish = d := by
  have hm : (s.dish d).motion.keepsPresent = true ↔ (s.dish d).motion = .engaged ∨ (s.dish d).motion = .stopping
      ∨ (s.dish d).motion = .stowing ∨ (s.dish d).motion = .shedding := by
    cases (s.dish d).motion <;> simp [Motion.keepsPresent]
  have hs : (s.staging.any fun g => g.members.any fun m => decide (m.dish = d)) = true ↔
      ∃ g, s.staging = some g ∧ ∃ m ∈ g.members, m.dish = d := by
    cases s.staging <;> simp
  simp only [State.presentBusy, State.inOrders, Bool.or_eq_true, hm, hs, State.queued, State.shedListed, List.any_eq_true,
    decide_eq_true_eq, Option.isSome_iff_ne_none, List.contains_eq_mem, or_assoc]

section
variable {f : DishConfigFields} {c : DishSettings}

theorem dishAfter_present :
    (dishAfter f c).present = true ↔ f.present = some 1 ∨ f.present = none ∧ c.present = true := by
  unfold dishAfter
  cases f.present <;> simp

theorem dishAfter_clears (hv : ∀ n, f.present = some n → 0 ≤ n ∧ n ≤ 1) (hc : c.present = true) :
    (dishAfter f c).present = false ↔ f.present = some 0 := by
  unfold dishAfter
  cases hp : f.present with
  | none => simp [hc]
  | some n =>
    have := (hv n hp).2
    simp only [Option.map_some, Option.getD_some, decide_eq_false_iff_not, Option.some.injEq]
    omega

theorem dishAfter_mast (hv : ∀ n, f.mast = some n → 0 ≤ n ∧ n ≤ 5) :
    (dishAfter f c).mast.val = f.mast.getD c.mast.val := by
  change (mastCarried f.mast c.mast).val = _
  unfold mastCarried
  cases hm : f.mast with
  | none => rfl
  | some n =>
    dsimp only
    rw [dif_pos (by have := (hv n hm).2; omega)]
    rfl

end

/-! ## The present flag cleared -/

section
variable (s : State) (d : DishId)

theorem touches_unframe : Touches [.dish d] s (s.unframe d) :=
  ⟨fun e he => ⟨rfl, (set_get _ _ _ _).trans (if_neg (by simpa using he)), rfl⟩, fun _ _ => ⟨rfl, rfl⟩, fun _ => rfl,
    fun _ => ⟨rfl, rfl⟩, fun _ _ => ⟨id, id, fun h => ⟨rfl, h⟩⟩, fun _ => ⟨rfl, rfl, rfl⟩, List.Subset.refl _,
    List.Subset.refl _, rfl⟩

/-- The zones of a dish cancelled, and its ice flag judged (R131). -/
def State.zonesCancelled (s : State) (d : DishId) : State := ((zonesOf d).foldl State.cancelZone s).iceAfterCancel d

/-- The record and the ring entry of a dish whose present flag is cleared returned, and its mark lost (R9, R109). -/
def State.returned (s : State) (d : DishId) : State := ((s.askScan.setDish d Dish.cleared).unframe d).setMark d .none

theorem clearPresent_eq : s.clearPresent d = (s.zonesCancelled d).returned d := rfl

theorem touches_returned : Touches [.dish d, .stow] s (s.returned d) :=
  (((Touches.refl [.dish d, .stow] s).askScan.after (touches_setDish _ d Dish.cleared) (by simp)).after (touches_unframe _ d)
    (by simp)).after (touches_setMark _ _ _) (by simp)

theorem returned_same : (s.returned d).melt = s.melt ∧ (s.returned d).feeder = s.feeder ∧ (s.returned d).settings = s.settings
    ∧ (s.returned d).ports = s.ports ∧ (s.returned d).locks = s.locks := ⟨rfl, rfl, rfl, rfl, rfl⟩

theorem returned_dish : (s.returned d).dish d = (s.dish d).cleared := setDish_dish_self s d Dish.cleared

theorem returned_mark (e : DishId) : (s.returned d).mark e = if e = d then .none else s.mark e := set_get _ _ _ _

theorem returned_ring : (s.returned d).ring = { s.ring with
    slots := s.ring.slots.set d .keep, miss := s.ring.miss.set d 0, framed := s.ring.framed.set d false
    window := if s.ring.window = some d then none else s.ring.window } := rfl

theorem touches_zonesCancelled : Touches heatBlock s (s.zonesCancelled d) :=
  (touches_foldl _ _ (fun z _ s => touches_cancelZone s z) s).trans (touches_iceAfterCancel _ _ _)

theorem within_zonesCancelled : Within s (s.zonesCancelled d) :=
  (within_foldl _ within_cancelZone _ _).trans (within_iceAfterCancel _ _)

theorem touches_clearPresent : Touches [.dish d, .stow, .heat, .block] s (s.clearPresent d) := by
  rw [clearPresent_eq]
  exact ((touches_zonesCancelled s d).mono (by simp)).after (touches_returned _ d) (by simp)

theorem iceAfterCancel_zone (z : ZoneId) : (s.iceAfterCancel d).zone z = s.zone z := by
  unfold State.iceAfterCancel; split <;> rfl

theorem iceAfterCancel_lists : (s.iceAfterCancel d).melt.rotation = s.melt.rotation
    ∧ (s.iceAfterCancel d).feeder.powerOrder = s.feeder.powerOrder := by
  unfold State.iceAfterCancel; split <;> exact ⟨rfl, rfl⟩

theorem zonesCancelled_zone (z : ZoneId) : (s.zonesCancelled d).zone z =
    if z.dish = d ∧ (s.zone z).state ≠ .idle then Zone.reset else s.zone z := by
  unfold State.zonesCancelled
  rw [iceAfterCancel_zone, (cancelZones_spec (zonesOf d) s).1]
  simp only [mem_zonesOf]

theorem clearPresent_zone (z : ZoneId) : (s.clearPresent d).zone z =
    if z.dish = d ∧ (s.zone z).state ≠ .idle then Zone.reset else s.zone z := by
  rw [← zonesCancelled_zone, clearPresent_eq]
  unfold State.zone
  rw [(returned_same _ d).1]

/-- A zone of the dish that was not IDLE stands in neither list, where the power order names POWERED zones alone. -/
theorem clearPresent_lists {z : ZoneId} (hz : z.dish = d) (hi : (s.zone z).state ≠ .idle)
    (hl : z ∈ s.feeder.powerOrder.map (·.zone) → (s.zone z).state = .powered) :
    z ∉ (s.clearPresent d).melt.rotation ∧ z ∉ (s.clearPresent d).feeder.powerOrder.map (·.zone) := by
  have h := (cancelZones_spec (zonesOf d) s).2.2 z (mem_zonesOf.2 hz) hi hl
  obtain ⟨h1, h2⟩ := iceAfterCancel_lists ((zonesOf d).foldl State.cancelZone s) d
  obtain ⟨h3, h4, -⟩ := returned_same (s.zonesCancelled d) d
  rw [clearPresent_eq, h3, h4]
  unfold State.zonesCancelled
  rw [h1, h2]; exact h

theorem clearPresent_powerOrder : (s.clearPresent d).feeder.powerOrder ⊆ s.feeder.powerOrder := by
  rw [clearPresent_eq, (returned_same _ d).2.1]
  unfold State.zonesCancelled
  rw [(iceAfterCancel_lists _ d).2]
  exact (cancelZones_spec (zonesOf d) s).2.1

/-- No zone of the dish with energy leaves it iced (R131). -/
theorem iceAfterCancel_ice (h : ∀ z : ZoneId, z.dish = d → (s.zone z).remaining = 0) : (s.iceAfterCancel d).melt.ice[d] = false := by
  have hn : s.holdsEnergy d = false := by
    unfold State.holdsEnergy
    rw [List.any_eq_false]
    intro z hz
    simp [h z (mem_zonesOf.1 hz)]
  unfold State.iceAfterCancel
  cases hi : s.melt.ice[d] with
  | false => simpa using hi
  | true => simp [hn, State.clearIce, State.askRound]

theorem clearPresent_ice (h : ∀ z : ZoneId, z.dish = d → (s.zone z).state = .idle → (s.zone z).remaining = 0) :
    (s.clearPresent d).melt.ice[d] = false := by
  rw [clearPresent_eq, (returned_same _ d).1]
  refine iceAfterCancel_ice ((zonesOf d).foldl State.cancelZone s) d fun z hz => ?_
  rw [(cancelZones_spec (zonesOf d) s).1]
  split
  · rfl
  · next hc => exact h z hz (by_contra fun hi => hc ⟨mem_zonesOf.2 hz, hi⟩)

theorem clearPresent_core : (s.clearPresent d).core d = ((s.dish d).cleared, .keep, s.feeder.reservations[d]) := by
  obtain ⟨h1, -, h3⟩ := core_eq ((touches_zonesCancelled s d).core_eq (d := d) (by simp))
  have hs : ((s.zonesCancelled d).returned d).slot d = .keep := (set_get _ _ _ _).trans (if_pos rfl)
  rw [clearPresent_eq]
  unfold State.core
  rw [returned_dish, hs, h1, (returned_same _ d).2.1, h3]

theorem clearPresent_mark (e : DishId) : (s.clearPresent d).mark e = if e = d then .none else s.mark e := by
  rw [clearPresent_eq, returned_mark]
  unfold State.mark
  rw [(touches_zonesCancelled s d).stow (by simp)]

theorem zonesCancelled_ring : (s.zonesCancelled d).ring = s.ring := by
  have hheat : HeatOnly s (s.zonesCancelled d) := by
    unfold State.zonesCancelled State.iceAfterCancel
    refine (heatOnly_foldl _ (fun s z => ?_) _ _).trans (heatOnly_ite (heatOnly_clearIce _ _) (.refl _))
    unfold State.cancelZone; split
    · exact .refl _
    · exact (heatOnly_leavePowerOrder _ _).trans (heatOnly_retireZone _ _)
    · exact heatOnly_retireZone _ _
    · exact heatOnly_retireZone _ _
  exact hheat.ring

/-- Of the ring a cleared flag changes the dish's own entries alone, and closes its window (R9, R20, R31, R32). -/
theorem clearPresent_ring : (s.clearPresent d).ring = { s.ring with
    slots := s.ring.slots.set d .keep, miss := s.ring.miss.set d 0, framed := s.ring.framed.set d false
    window := if s.ring.window = some d then none else s.ring.window } := by
  rw [clearPresent_eq, returned_ring, zonesCancelled_ring]

theorem clearPresent_rest : (s.clearPresent d).settings = s.settings ∧ (s.clearPresent d).ports = s.ports
    ∧ (s.clearPresent d).locks = s.locks := by
  obtain ⟨-, -, h1, h2, h3⟩ := returned_same (s.zonesCancelled d) d
  have h := within_zonesCancelled s d
  rw [clearPresent_eq, h1, h2, h3]
  exact ⟨h.settings_eq, h.ports_eq, h.locks_eq⟩

end

/-! ## The write settled -/

/-- The state that a write of section DISH has reached before its rounds and scans. -/
def State.dishWritten (s : State) (d : DishId) (c : DishSettings) : State := (s.putCfg d c).answerPresent d (s.cfg d).present

section
variable {s : State} {d : DishId} {c : DishSettings}

theorem putCfg_cfg (s : State) (d e : DishId) (c : DishSettings) : (s.putCfg d c).cfg e = if e = d then c else s.cfg e :=
  set_get _ _ _ _

theorem dishWritten_clears (hp : (s.cfg d).present = true) (hc : c.present = false) :
    s.dishWritten d c = (s.putCfg d c).clearPresent d := by
  unfold State.dishWritten State.answerPresent
  rw [putCfg_cfg, if_pos rfl, hp, hc]

theorem dishWritten_sets (hp : (s.cfg d).present = false) (hc : c.present = true) :
    s.dishWritten d c = (s.putCfg d c).setPresent d := by
  unfold State.dishWritten State.answerPresent
  rw [putCfg_cfg, if_pos rfl, hp, hc]

theorem dishWritten_same (h : c.present = (s.cfg d).present) : s.dishWritten d c = s.putCfg d c := by
  unfold State.dishWritten State.answerPresent
  rw [putCfg_cfg, if_pos rfl, h]
  cases (s.cfg d).present <;> rfl

theorem dishWritten_rest : (s.dishWritten d c).settings = (s.putCfg d c).settings ∧ (s.dishWritten d c).ports = s.ports := by
  cases hp : (s.cfg d).present <;> cases hc : c.present
  · rw [dishWritten_same (hc.trans hp.symm)]; exact ⟨rfl, rfl⟩
  · rw [dishWritten_sets hp hc]
    have h := within_setPresent (s.putCfg d c) d
    exact ⟨h.settings_eq, h.ports_eq⟩
  · rw [dishWritten_clears hp hc]
    obtain ⟨h1, h2, -⟩ := clearPresent_rest (s.putCfg d c) d
    exact ⟨h1, h2⟩
  · rw [dishWritten_same (hc.trans hp.symm)]; exact ⟨rfl, rfl⟩

/-- A flag set makes the dish UNKNOWN, and UNREACHABLE where a stow is in force (R9, R109). -/
theorem setPresent_eq (s : State) (d : DishId) : s.setPresent d = { s with
    dishes := (s.setMotion d .unknown).dishes
    stow := { s.stow with marks := if s.stowInForce then s.stow.marks.set d .unreachable else s.stow.marks } } := by
  unfold State.setPresent; dsimp only
  have hf : (s.setMotion d .unknown).stowInForce = s.stowInForce := rfl
  rw [hf]
  cases s.stowInForce <;> rfl

theorem writeDish_busy (h : ((s.cfg d).present = true ∧ c.present = false) ∧ s.presentBusy d = true) :
    s.writeDish .safety d c = s.refuseItem .safety .busy 0 := by
  unfold State.writeDish
  rw [if_pos (by simp [h])]

theorem writeDish_written (h : ¬ (((s.cfg d).present = true ∧ c.present = false) ∧ s.presentBusy d = true)) :
    s.writeDish .safety d c
      = (s.dishWritten d c).settle.answer .safety .writeConfig .ok ((s.dishWritten d c).settle.dishSection d) := by
  unfold State.writeDish
  rw [if_neg (by simpa [and_assoc] using h)]
  rfl

end

/-- The second state is the first after the clearing of a dish's present flag, as far as rounds and scans bear on it. -/
structure Cleared (d : DishId) (s v : State) : Prop where
  core : v.core d = ((s.dish d).cleared, .keep, s.feeder.reservations[d])
  touch : Touches [.dish d, .stow, .heat, .block] s v
  mark : ∀ e, v.mark e = if e = d then .none else s.mark e
  moves : v.stow.moves = s.stow.moves
  ring : v.ring = { s.ring with
    slots := s.ring.slots.set d .keep, miss := s.ring.miss.set d 0, framed := s.ring.framed.set d false
    window := if s.ring.window = some d then none else s.ring.window }
  locks : v.locks = s.locks
  zone : ∀ z : ZoneId, v.zone z = if z.dish = d ∧ (s.zone z).state ≠ .idle then Zone.reset else s.zone z
  lists : ∀ z : ZoneId, z.dish = d → (s.zone z).state ≠ .idle →
    (z ∈ s.feeder.powerOrder.map (·.zone) → (s.zone z).state = .powered) →
    z ∉ v.melt.rotation ∧ z ∉ v.feeder.powerOrder.map (·.zone)
  order : v.feeder.powerOrder ⊆ s.feeder.powerOrder
  ice : (∀ z : ZoneId, z.dish = d → (s.zone z).state = .idle → (s.zone z).remaining = 0) → v.melt.ice[d] = false

theorem returned_moves (s : State) (d : DishId) : (s.returned d).stow.moves = s.stow.moves := rfl

theorem cleared_clearPresent (s : State) (d : DishId) : Cleared d s (s.clearPresent d) where
  core := clearPresent_core s d
  touch := touches_clearPresent s d
  mark := clearPresent_mark s d
  moves := by rw [clearPresent_eq, returned_moves, (touches_zonesCancelled s d).stow (by simp)]
  ring := clearPresent_ring s d
  locks := (clearPresent_rest s d).2.2
  zone := clearPresent_zone s d
  lists _ := clearPresent_lists s d
  order := clearPresent_powerOrder s d
  ice := clearPresent_ice s d

section
variable {s v : State} {d : DishId}

theorem Cleared.settled_dish (h : Cleared d s v) : v.settle.dish d = (s.dish d).cleared ∧ v.settle.slot d = .keep := by
  obtain ⟨c1, -, -⟩ := core_eq h.core
  obtain ⟨k1, k2, -⟩ := core_eq ((settle_core (by rw [c1]; rfl)).trans h.core)
  exact ⟨k1, k2⟩

theorem Cleared.settled_ring (h : Cleared d s v) : v.settle.ring.miss[d] = 0 ∧ v.settle.ring.framed[d] = false
    ∧ v.settle.ring.window ≠ some d := by
  have hw := within_settle v
  have hf : v.settle.ring.framed = v.ring.framed := congrArg Fixed.framed hw.fixed
  have hn : v.settle.ring.window = v.ring.window := congrArg Fixed.window hw.fixed
  rw [hw.miss_eq, hf, hn, h.ring]
  refine ⟨(set_get _ _ _ _).trans (if_pos rfl), (set_get _ _ _ _).trans (if_pos rfl), ?_⟩
  dsimp only
  split
  · nofun
  · assumption

theorem Cleared.settled_mark (h : Cleared d s v) (e : DishId) : v.settle.mark e = if e = d then .none else s.mark e := by
  rw [← h.mark]
  exact congrArg (fun x : Vector StowMark 48 => x[e]) (spares_settle v).marks

theorem Cleared.settled_others (h : Cleared d s v) (e : DishId) (he : e ≠ d) (ha : (s.dish e).motion.atCall = false) :
    v.settle.holdOf e = s.holdOf e := by
  obtain ⟨h1, h2, h3⟩ := h.touch.dish e (by simpa using he)
  have hhold : v.holdOf e = s.holdOf e := by
    unfold State.holdOf
    rw [h1, h2, h3, h.moves, (h.touch.sheds (by simp)).1]
  exact ((spares_settle v).dish e (by rw [h1]; exact ha)).trans hhold

/-- A zone of the dish, cancelled or IDLE from before, is out, and no round or scan finds it. -/
theorem Cleared.settled_zone (h : Cleared d s v) (hf : s.FeederLawful) (z : ZoneId) (hz : z.dish = d) :
    v.settle.zone z = (if (s.zone z).state ≠ .idle then Zone.reset else s.zone z)
      ∧ ((s.zone z).state ≠ .idle → z ∉ v.settle.melt.rotation ∧ z ∉ v.settle.feeder.powerOrder.map (·.zone)) := by
  have hpow := (hf.2.2.1 z).2
  have hzone := h.zone z
  rw [if_congr (and_iff_right hz) rfl rfl] at hzone
  have hout : v.Out z := by
    by_cases hi : (s.zone z).state = .idle
    · rw [if_neg (not_not.2 hi)] at hzone
      refine ⟨by rw [hzone]; exact hi, fun hm => ?_⟩
      have := hpow (List.map_subset _ h.order hm)
      rw [hi] at this; cases this
    · rw [if_pos hi] at hzone
      exact ⟨by rw [hzone]; rfl, (h.lists z hz hi hpow).2⟩
  obtain ⟨h1, h2⟩ := (roundKeeps_rested z _).settle (s := v) ⟨hzone, hout⟩
  refine ⟨h1, fun hi => ⟨fun hm => (h.lists z hz hi hpow).1 ?_, h2.2⟩⟩
  exact (roundKeeps_rotation v.melt.rotation).settle (s := v) (List.Subset.refl _) hm

theorem Cleared.settled_ice (h : Cleared d s v)
    (hr : ∀ z : ZoneId, z.dish = d → (s.zone z).state = .idle → (s.zone z).remaining = 0) : v.settle.melt.ice[d] = false := by
  by_contra hc
  have := (within_settle v).ice d (by simpa using hc)
  rw [h.ice hr] at this; cases this

end

/-- Of settings and ports the write, rounds and scans run, changes the dish's section alone. -/
theorem written_rest (s : State) (d : DishId) (c : DishSettings) :
    (s.dishWritten d c).settle.settings = (s.putCfg d c).settings ∧ (s.dishWritten d c).settle.ports = s.ports := by
  obtain ⟨h1, h2⟩ := dishWritten_rest (s := s) (d := d) (c := c)
  have hw := within_settle (s.dishWritten d c)
  exact ⟨hw.settings_eq.trans h1, hw.ports_eq.trans h2⟩

theorem putCfg_quiet {s : State} (h : s.Quiet) (d : DishId) (c : DishSettings) : (s.putCfg d c).Quiet := h

/-- A flag set asks for nothing. -/
theorem written_sets {s : State} {d : DishId} {c : DishSettings} (hq : s.Quiet) (hp : (s.cfg d).present = false)
    (hc : c.present = true) : (s.dishWritten d c).settle = { s with
      settings := (s.putCfg d c).settings
      dishes := (s.setMotion d .unknown).dishes
      stow := { s.stow with marks := if s.stowInForce then s.stow.marks.set d .unreachable else s.stow.marks } } := by
  have heq := (dishWritten_sets hp hc).trans (setPresent_eq (s.putCfg d c) d)
  rw [settle_of_quiet _ (by rw [heq]; exact hq), heq]
  rfl

theorem written_same {s : State} {d : DishId} {c : DishSettings} (hq : s.Quiet) (h : c.present = (s.cfg d).present) :
    (s.dishWritten d c).settle = s.putCfg d c := by
  rw [dishWritten_same h]
  exact settle_of_quiet _ (putCfg_quiet hq d c)

/-- The marks after a flag has been set. -/
theorem setMarks (s : State) (d e : DishId) :
    (if s.stowInForce then s.stow.marks.set d .unreachable else s.stow.marks)[e]
      = if e = d ∧ s.stowInForce = true then .unreachable else s.mark e := by
  cases s.stowInForce
  · simp [State.mark]
  · simp [State.mark, set_get]

theorem touches_putCfg (ps : List Place) (s : State) (d : DishId) (c : DishSettings) : Touches ps s (s.putCfg d c) :=
  .of_same rfl rfl rfl rfl rfl rfl rfl rfl rfl rfl rfl rfl rfl

theorem cleared_putCfg (s : State) (d : DishId) (c : DishSettings) : Cleared d s ((s.putCfg d c).clearPresent d) :=
  have h := cleared_clearPresent (s.putCfg d c) d
  { core := h.core, touch := (touches_putCfg _ s d c).trans h.touch
    mark := h.mark, moves := h.moves, ring := h.ring, locks := h.locks, zone := h.zone, lists := h.lists, order := h.order
    ice := h.ice }

/-- An accepted write's response. -/
abbrev State.written (u : State) (bs : List Byte) : State := u.answer .safety .writeConfig .ok bs

theorem written_holder (u : State) (bs : List Byte) : (u.written bs).holder .safety = some ⟨0x2B, .ok, bs⟩ := rfl

theorem written_ports {s u : State} (h : u.ports = s.ports) (bs : List Byte) :
    (u.written bs).ports = (s.putHolder .safety ((u.written bs).holder .safety)).ports := by
  have hp : ∀ r, (u.putHolder .safety r).ports = (s.putHolder .safety r).ports := fun r => by
    change ({ u.ports with safetyAbandoned := false, safetyHolder := r } : Ports)
      = { s.ports with safetyAbandoned := false, safetyHolder := r }
    rw [h]
  exact hp _

/-- The claim on a write whose flag neither is cleared nor set. -/
theorem written_same_eq {s u : State} {x : Settings} (h : u = { s with settings := x }) (bs : List Byte) :
    u.written bs = { s with settings := (u.written bs).settings }.putHolder .safety ((u.written bs).holder .safety) := by
  subst h; rfl

theorem written_sets_eq {s u : State} {x : Settings} {ds : Vector Dish 48} {ms : Vector StowMark 48}
    (h : u = { s with settings := x, dishes := ds, stow := { s.stow with marks := ms } }) (bs : List Byte) :
    u.written bs = { s with
      settings := (u.written bs).settings, dishes := (u.written bs).dishes
      stow := { s.stow with marks := (u.written bs).stow.marks }
      ports := (s.putHolder .safety ((u.written bs).holder .safety)).ports } := by
  subst h; rfl

theorem written_clears {s v : State} {d : DishId} (h : Cleared d s v) (bs : List Byte) :
    let t := v.settle.written bs
    t.dish d = { Dish.reset with cmdAz := (s.dish d).cmdAz, cmdEl := (s.dish d).cmdEl }
      ∧ t.slot d = .keep ∧ t.ring.miss[d] = 0 ∧ t.ring.framed[d] = false ∧ t.ring.window ≠ some d ∧ t.mark d = .none
      ∧ (∀ e, e ≠ d → t.mark e = s.mark e ∧ ((s.dish e).motion.atCall = false → t.holdOf e = s.holdOf e))
      ∧ t.locks = s.locks
      ∧ (s.FeederLawful → ∀ z : ZoneId, z.dish = d → (s.zone z).state ≠ .idle →
          t.zone z = { state := .idle, remaining := 0, carry := 0, power := none, timer := none, lastCharge := none }
          ∧ z ∉ t.melt.rotation ∧ z ∉ t.feeder.powerOrder.map (·.zone))
      ∧ (s.FeederLawful → ∀ z : ZoneId, z.dish = d → (s.zone z).state = .idle → t.zone z = s.zone z)
      ∧ ((∀ z : ZoneId, z.dish = d → (s.zone z).state = .idle → (s.zone z).remaining = 0) → t.melt.ice[d] = false) := by
  intro t
  obtain ⟨h1, h2⟩ := h.settled_dish
  obtain ⟨h3, h4, h5⟩ := h.settled_ring
  refine ⟨h1, h2, h3, h4, h5, (h.settled_mark d).trans (if_pos rfl), fun e he =>
    ⟨(h.settled_mark e).trans (if_neg he), h.settled_others e he⟩, (within_settle _).locks_eq.trans h.locks,
    fun hf z hz hi => ?_, fun hf z hz hi => ?_, h.settled_ice⟩
  · obtain ⟨k1, k2⟩ := h.settled_zone hf z hz
    exact ⟨k1.trans (if_pos hi), k2 hi⟩
  · exact (h.settled_zone hf z hz).1.trans (if_neg (not_not.2 hi))

theorem written_set {s u : State} {d : DishId} {x : Settings}
    (h : u = { s with
      settings := x, dishes := (s.setMotion d .unknown).dishes
      stow := { s.stow with marks := if s.stowInForce then s.stow.marks.set d .unreachable else s.stow.marks } })
    (bs : List Byte) :
    let t := u.written bs
    t.dish d = { s.dish d with motion := .unknown }
      ∧ (∀ e, e ≠ d → t.dish e = s.dish e)
      ∧ t.mark d = (if s.stowInForce then .unreachable else s.mark d)
      ∧ (∀ e, e ≠ d → t.mark e = s.mark e)
      ∧ t = { s with
          settings := t.settings, dishes := t.dishes, stow := { s.stow with marks := t.stow.marks }
          ports := (s.putHolder .safety (t.holder .safety)).ports } := by
  intro t
  have hdish : ∀ e, t.dish e = (s.setMotion d .unknown).dish e := fun e => (congrArg (fun u : State => u.dish e) h :)
  have hmark : ∀ e, t.mark e = if e = d ∧ s.stowInForce = true then .unreachable else s.mark e := fun e =>
    (congrArg (fun u : State => u.mark e) h :).trans (setMarks s d e)
  refine ⟨(hdish d).trans (setDish_dish_self _ _ _), fun e he => (hdish e).trans ?_, (hmark d).trans ?_,
    fun e he => (hmark e).trans (if_neg fun h => he h.1), written_sets_eq h bs⟩
  · unfold State.setMotion; rw [setDish_dish, if_neg he]
  · exact if_congr (and_iff_right rfl) rfl rfl

/-- Settles O48: R172's judgement, then putCfg with what a present flag cleared or set brings, rounds and scans run. -/
theorem dishConfigWritten : Obligations.DishConfigWritten := by
  unfold Obligations.DishConfigWritten
  refine ⟨fun f s hh hd => ?_, fun d f s hh hd => ?_⟩
  · refine ⟨_, _, (exec_writeConfigDish hh f).trans (by rw [dif_neg (by omega)]; rfl)⟩
  · intro c within valid clears sets used
    have hexec : exec (.writeConfigDish .safety (.fields f)) s = .next (s.judgeWrite .safety (dishItems f) (dishRanges f)
        (dishAfter f c).drawsFit (s.writeDish .safety d (dishAfter f c))) := by
      have hlt : f.dish < 48 := by omega
      have hdd : (⟨f.dish, hlt⟩ : DishId) = d := Fin.ext hd
      rw [exec_writeConfigDish hh f, dif_pos hlt, hdd]
    have hvalid : ValidDish f c ↔ valid := valid_iff
    have hclears : valid → ((s.cfg d).present = true ∧ (dishAfter f c).present = false ↔ clears) := fun hv =>
      and_congr_right fun hp => dishAfter_clears hv.2.1 hp
    have hbusy : s.presentBusy d = true ↔ used := presentBusy_iff
    refine ⟨fun hv => ?_, fun hv hc hu => ?_, fun hv hcu => ?_⟩
    · rw [hexec]
      obtain ⟨b, n, h⟩ := judgeWrite_refused (s := s) (take := s.writeDish .safety d (dishAfter f c)) (fun h => hv (hvalid.1 h))
      exact ⟨b, n, by rw [h]⟩
    · rw [hexec, judgeWrite_taken (hvalid.2 hv), writeDish_busy ⟨(hclears hv).2 hc, hbusy.2 hu⟩]
      rfl
    · rw [judgeWrite_taken (hvalid.2 hv),
        writeDish_written fun h => hcu ⟨(hclears hv).1 h.1, hbusy.1 h.2⟩] at hexec
      obtain ⟨hsettings, hports⟩ := written_rest s d (dishAfter f c)
      have hcfg : ∀ e, (s.dishWritten d (dishAfter f c)).settle.cfg e = if e = d then dishAfter f c else s.cfg e := fun e => by
        rw [← putCfg_cfg]; exact congrArg (fun x : Settings => x.dish[e]) hsettings
      have hcfgd := (hcfg d).trans (if_pos rfl)
      have hsame : (¬ clears → ¬ sets → (dishAfter f c).present = (s.cfg d).present) := fun hnc hns => by
        cases hp : (s.cfg d).present with
        | true => simpa using fun h => hnc ((hclears hv).1 ⟨hp, h⟩)
        | false =>
          rw [← Bool.not_eq_true, dishAfter_present]
          rintro (h | ⟨-, h⟩)
          · exact hns ⟨hp, h⟩
          · rw [hp] at h; cases h
      refine ⟨_, _, hexec, written_holder _ _, ?_⟩
      refine ⟨?_, ?_, ?_, ?_, ?_, ?_, fun e he => (hcfg e).trans (if_neg he), ?_, ?_, fun hq hnc hns => ?_, fun hc => ?_,
        fun hs hq => ?_⟩
      · change ((s.dishWritten d (dishAfter f c)).settle.cfg d).present = true ↔ _
        rw [hcfgd]; exact dishAfter_present
      · exact congrArg DishSettings.az hcfgd
      · exact congrArg DishSettings.el hcfgd
      · change ((s.dishWritten d (dishAfter f c)).settle.cfg d).mast.val = _
        rw [hcfgd]; exact dishAfter_mast hv.2.2.2.2.2.2.2.2.2.2.1
      · exact congrArg DishSettings.stowRank hcfgd
      · exact congrArg DishSettings.shedEl hcfgd
      · change (s.dishWritten d (dishAfter f c)).settle.settings = { s.settings with
          dish := (s.dishWritten d (dishAfter f c)).settle.settings.dish }
        rw [hsettings]; rfl
      · exact written_ports hports _
      · exact written_same_eq (written_same hq (hsame hnc hns)) _
      · have hd := (hclears hv).2 hc
        rw [dishWritten_clears hd.1 hd.2]
        exact written_clears (cleared_putCfg s d (dishAfter f c)) _
      · exact written_set (written_sets hq hs.1 (dishAfter_present.2 (.inl hs.2))) _

end Sys2Proof.Machine
end

section
/-! The stages of a report (R12, log 13): what is stored, what the blocks' answers touch, and when an answer is none. -/

namespace Sys2Proof.Machine

/-! ## The report stored -/

/-- A report in its window stored, before any block has answered it. -/
def State.stored (s : State) (d : DishId) (r : Report) : State := s.closeWindow.storeReport d r

/-- What the blocks answer after the state rules, in log 13's order, from the switch lock's former value. -/
def State.answers (s : State) (d : DishId) (former : Bool) : State :=
  (((((s.lockReport d).switchReport d former).groupReport d).stowReport d).shedReport d)

/-- A dish's record with a report's fields (R12). -/
def Dish.told (x : Dish) (r : Report) (now : Frame) : Dish :=
  { x with
    repAz := clampAz r.az, repEl := clampEl r.el, moving := r.moving, brakesSet := r.brakesSet
    inPosition := r.inPosition, profileLoaded := r.profileLoaded, switchLock := r.switchLock
    faultCode := r.fault, lastReport := some now }

section
variable (s : State) (d : DishId) (r : Report)

theorem takeReport_stages :
    s.closeWindow.takeReport d r = ((s.stored d r).reportRules d).answers d (s.dish d).switchLock := rfl

theorem exec_report {s : State} {d : DishId} (h : ReportAwaited d s) (r : Report) :
    exec (.validReport d r) s = .next (((s.stored d r).reportRules d).answers d (s.dish d).switchLock).settle :=
  exec_report_taken r h

theorem touches_stored : Touches [.dish d] s (s.stored d r) := by
  have h : Touches [.dish d] s { s.closeWindow with ring := { s.closeWindow.ring with miss := s.ring.miss.set d 0 } } :=
    .of_same rfl rfl rfl rfl rfl rfl rfl rfl rfl rfl rfl rfl rfl
  exact h.after (touches_setDish _ d _) (by simp)

theorem stored_dish : (s.stored d r).dish d = (s.dish d).told r s.ring.frame := setDish_dish_self _ _ _

theorem stored_core : (s.stored d r).core d = ((s.dish d).told r s.ring.frame, s.slot d, s.feeder.reservations[d]) := by
  unfold State.core; rw [stored_dish]; rfl

theorem stored_rest : (s.stored d r).locks = s.locks ∧ (s.stored d r).settings = s.settings ∧ (s.stored d r).stow = s.stow
    ∧ (s.stored d r).melt = s.melt ∧ (s.stored d r).feeder = s.feeder ∧ (s.stored d r).groups = s.groups
    ∧ (s.stored d r).wind = s.wind ∧ (s.stored d r).ring.frame = s.ring.frame := ⟨rfl, rfl, rfl, rfl, rfl, rfl, rfl, rfl⟩

theorem stored_quiet {s : State} (h : s.Quiet) (d : DishId) (r : Report) : (s.stored d r).Quiet := h

theorem stored_group (g : SlotId) : (s.stored d r).group g = s.group g := rfl

theorem stored_lockRequested (e : DishId) : (s.stored d r).lockRequested e = s.lockRequested e := rfl

theorem stored_moveLocked : (s.stored d r).moveLocked d = (decide (1 ≤ s.appliedMove d) || r.switchLock) := by
  unfold State.moveLocked; rw [stored_dish]; rfl

/-- A report that tells no change of the switch lock changes nothing of who is move-locked (R5). -/
theorem stored_moveLocked_same {s : State} {d : DishId} {r : Report} (h : r.switchLock = (s.dish d).switchLock) :
    (s.stored d r).moveLocked d = s.moveLocked d := by rw [stored_moveLocked, h]; rfl

theorem stored_nobody {s : State} (h : NobodyAdmitted s) : NobodyAdmitted (s.stored d r) := h

theorem reportRules_of_clear {s : State} {d : DishId} (h : (s.dish d).faultCode = 0) : s.reportRules d = s.stateRules d := by
  unfold State.reportRules Dish.faultReported
  rw [if_neg (by simp [h])]

theorem reportRules_of_fault {s : State} {d : DishId} (h : (s.dish d).faultCode ≠ 0) : s.reportRules d = s.faultByReport d := by
  unfold State.reportRules Dish.faultReported
  rw [if_pos (by simp [h])]

end

/-! ## Answers that are none -/

section
variable {s : State} {d : DishId}

theorem lockReport_of_unrequested (h : s.lockRequested d = false) : s.lockReport d = s := by
  unfold State.lockReport; rw [if_neg (by simp [h])]

theorem lockReport_of_unsettled (h : (s.dish d).brakedStill = false) : s.lockReport d = s := by
  unfold State.lockReport; rw [if_neg (by simp [h])]

theorem lockReport_of_stowing (h : (s.dish d).motion = .stowing) : s.lockReport d = s := by
  unfold State.lockReport; rw [if_neg (by simp [h])]

theorem lockReport_of_queued (h : s.queued d = true) : s.lockReport d = s := by
  unfold State.lockReport; rw [if_neg (by simp [h])]

theorem lockReport_applies (h1 : (s.dish d).brakedStill = true) (h2 : (s.dish d).motion ≠ .stowing) (h3 : s.queued d = false)
    (h4 : s.lockRequested d = true) : s.lockReport d = s.applyPending d := by
  unfold State.lockReport; rw [if_pos (by simp [h1, h2, h3, h4])]

theorem switchReport_same {former : Bool} (h : (s.dish d).switchLock = former) : s.switchReport d former = s := by
  unfold State.switchReport; rw [h]; cases former <;> rfl

theorem switchReport_set (h : (s.dish d).switchLock = true) : s.switchReport d false = s.switchSet d := by
  unfold State.switchReport; rw [h]

theorem switchReport_clear (h : (s.dish d).switchLock = false) : s.switchReport d true = s.switchClear d := by
  unfold State.switchReport; rw [h]

theorem groupReport_none (h : (s.dish d).group = none) : s.groupReport d = s := by
  unfold State.groupReport; rw [h]

theorem stowReport_other (h : (s.dish d).motion ≠ .stowing) : s.stowReport d = s := by
  unfold State.stowReport; dsimp only; rw [if_neg h]

theorem shedReport_other (h : (s.dish d).motion ≠ .shedding) : s.shedReport d = s := by
  unfold State.shedReport; dsimp only; rw [if_neg h]

/-- A dish in no group and in no stow or shed move gets no answer beyond the locks' and the switch's. -/
theorem moves_none (hg : (s.dish d).group = none) (h1 : (s.dish d).motion ≠ .stowing) (h2 : (s.dish d).motion ≠ .shedding) :
    ((s.groupReport d).stowReport d).shedReport d = s := by
  rw [groupReport_none hg, stowReport_other h1, shedReport_other h2]

/-- The switch lock is as it was, no lock is pending that may apply: a dish in no group is answered by its moves alone. -/
theorem answers_of_moves {former : Bool} (hl : s.lockReport d = s) (hs : (s.dish d).switchLock = former)
    (hg : (s.dish d).group = none) : s.answers d former = (s.stowReport d).shedReport d := by
  unfold State.answers
  rw [hl, switchReport_same hs, groupReport_none hg]

end

/-! ## Pending locks (R148) -/

section
variable (s : State) (d : DishId)

theorem touches_applyAt (ps : List Place) (p : Fin 96) : Touches ps s (State.applyAt d s p) := by
  unfold State.applyAt; split
  · exact .refl _ s
  · refine touches_ite (Touches.raise ?_ _ _) (.refl _ s)
    exact .of_same rfl rfl rfl rfl rfl rfl rfl rfl rfl rfl rfl rfl rfl

/-- The Lock Table's positions gone through by R148. -/
def State.applyAll (s : State) (d : DishId) : State := lockPositions.foldl (State.applyAt d) s

theorem applyPending_eq : s.applyPending d =
    (if ((s.applyAll d).dish d).motion = .idle then (s.applyAll d).writeHoldBrake d else s.applyAll d).askRound := rfl

theorem touches_applyAll (ps : List Place) : Touches ps s (s.applyAll d) := touches_foldl _ _ (fun p _ s => touches_applyAt s d ps p) s

theorem touches_applyPending : Touches [.dish d] s (s.applyPending d) := by
  rw [applyPending_eq]
  exact (Touches.trans (touches_applyAll s d _) (touches_ite (touches_writeHoldBrake _ _) (.refl _ _))).askRound

theorem touches_lockReport : Touches [.dish d] s (s.lockReport d) := touches_ite (touches_applyPending _ _) (.refl _ s)

theorem applyPending_core : (s.applyPending d).core d =
    (s.dish d, if (s.dish d).motion = .idle then .holdBrake else s.slot d, s.feeder.reservations[d]) := by
  obtain ⟨h1, h2, h3⟩ := core_eq ((touches_applyAll s d []).core_eq (d := d) (by simp))
  rw [applyPending_eq, h1]
  generalize s.applyAll d = u at h1 h2 h3 ⊢
  split
  · exact (writeHoldBrake_core u d).trans (by rw [h1, h3])
  · change u.core d = _
    unfold State.core; rw [h1, h2, h3]

theorem lockReport_core_of_not_idle {s : State} {d : DishId} (h : (s.dish d).motion ≠ .idle) :
    (s.lockReport d).core d = s.core d := by
  unfold State.lockReport; split
  · rw [applyPending_core, if_neg h]; rfl
  · rfl

end

/-! ## The switch lock (R152, R153) -/

/-- What the answers to a report of a dish in no group may touch. -/
abbrev ownPlaces (d : DishId) : List Place := [.dish d, .stow, .heat, .block, .sheds]

section
variable (s : State) (d : DishId)

theorem touches_stopShed (r : ShedResult) : Touches [.dish d, .sheds] s (s.stopShed d r) :=
  touches_ite (((touches_stopDish s d).mono (by simp)).after (touches_endShed _ d r) (by simp)) (.refl _ s)

theorem touches_holdIfIdle : Touches [.dish d] s (s.holdIfIdle d) := touches_ite (touches_writeHoldBrake _ _) (.refl _ s)

theorem touches_stowOnSwitch : Touches [.dish d, .stow, .heat, .block] s (s.stowOnSwitch d) :=
  touches_ite (((touches_stopDish s d).mono (by simp)).after (touches_markDish _ d .blocked (.stowBlocked d)) (by simp))
    ((touches_stowOnLocked s d).mono (by simp))

/-- The answer to a switch lock newly set, after the dish has left its group. -/
def State.switchSetAlone (s : State) (d : DishId) (heat : Bool) : State :=
  ((((s.stowOnSwitch d).stopShed d .aborted).skipShed d).holdIfIdle d).answerBlock d heat

theorem switchSet_eq : s.switchSet d = (s.excludeMember d .localSwitch).switchSetAlone d (s.heatBySwitch d) := rfl

theorem touches_switchSetAlone (heat : Bool) : Touches (ownPlaces d) s (s.switchSetAlone d heat) := by
  have h : Touches (ownPlaces d) s (s.stowOnSwitch d) := (touches_stowOnSwitch s d).mono (by simp)
  exact (((h.after (touches_stopShed _ d _) (by simp)).after (touches_skipShed _ d) (by simp)).after (touches_holdIfIdle _ d)
    (by simp)).after (touches_answerBlock _ _ _) (by simp)

theorem touches_moveLockEnded : Touches [.dish d, .stow, .heat, .block] s (s.moveLockEnded d) := by
  have h : Touches [.dish d, .stow, .heat, .block] s (if (s.dish d).motion = .idle then s.putSlot d .keep else s) :=
    touches_ite ((touches_putSlot s d .keep).mono (by simp)) (.refl _ s)
  exact touches_ite (.refl _ s) (h.after (touches_rejoinBlocked _ d) (by simp))

theorem touches_switchClear : Touches (ownPlaces d) s (s.switchClear d) :=
  (((touches_moveLockEnded s d).mono (by simp)).after (touches_answerBlock _ _ _) (by simp)).askRound

end

end Sys2Proof.Machine
end

section
/-! Stow and shed moves after their LOAD (R106, R107, R140, R141). -/

namespace Sys2Proof.Machine

/-! ## The Stow Controller's records through its judgements -/

section
variable (s : State) (d : DishId)

theorem setStowState_state (x : StowState) : (s.setStowState x).stow.state = x := by
  unfold State.setStowState; split
  · assumption
  · rfl

/-- A change of the stow's state keeps its queue, marks and move records. -/
theorem setStowState_records (x : StowState) : (s.setStowState x).stow.queue = s.stow.queue
    ∧ (s.setStowState x).stow.marks = s.stow.marks ∧ (s.setStowState x).stow.moves = s.stow.moves := by
  unfold State.setStowState; split <;> exact ⟨rfl, rfl, rfl⟩

theorem enterCalmWait_records : s.enterCalmWait.stow.queue = s.stow.queue
    ∧ s.enterCalmWait.stow.marks = s.stow.marks ∧ s.enterCalmWait.stow.moves = s.stow.moves :=
  setStowState_records { s with stow := { s.stow with holdOff := some (s.clock + s.settings.wind.holdOff * 1000) } } .calmWait

theorem enterCalmWait_state : s.enterCalmWait.stow.state = .calmWait := setStowState_state _ _

theorem reblockAll_stow : s.reblockAll.stow = s.stow := (touches_reblockAll s).stow (by simp)

theorem checkStowedHold_records : s.checkStowedHold.stow.queue = s.stow.queue
    ∧ s.checkStowedHold.stow.marks = s.stow.marks ∧ s.checkStowedHold.stow.moves = s.stow.moves := by
  have h := setStowState_records s .stowedHold
  rw [← reblockAll_stow (s.setStowState .stowedHold)] at h
  unfold State.checkStowedHold; dsimp only
  generalize (s.setStowState .stowedHold).reblockAll = u at h ⊢
  obtain ⟨h1, h2, h3⟩ := h
  split
  · split
    · obtain ⟨k1, k2, k3⟩ := enterCalmWait_records u
      exact ⟨k1.trans h1, k2.trans h2, k3.trans h3⟩
    · exact ⟨h1, h2, h3⟩
  · exact ⟨rfl, rfl, rfl⟩

theorem checkStowedHold_other {s : State} (h : s.stow.state ≠ .active) : s.checkStowedHold = s := by
  unfold State.checkStowedHold; rw [if_neg fun e => h e.1]

theorem Within.releaseCondition_eq {s t : State} (h : Within s t) : t.releaseCondition = s.releaseCondition := by
  unfold State.releaseCondition State.staleCount State.countsStale
  rw [h.wind_eq, h.settings_eq]

/-- The last dish of an empty queue has arrived: the stow is held, and waits for calm where the release condition holds (R107). -/
theorem checkStowedHold_state {s : State} (ha : s.stow.state = .active) (hq : s.stow.queue = []) (hn : s.someStowing = false) :
    s.checkStowedHold.stow.state = if s.releaseCondition then .calmWait else .stowedHold := by
  have hrel := ((within_setStowState s .stowedHold).trans (within_reblockAll _)).releaseCondition_eq
  have hst : (s.setStowState .stowedHold).reblockAll.stow.state = .stowedHold := by
    rw [reblockAll_stow, setStowState_state]
  unfold State.checkStowedHold; dsimp only
  rw [if_pos ⟨ha, hq, hn⟩, hrel]
  generalize (s.setStowState .stowedHold).reblockAll = u at hst ⊢
  split
  · exact enterCalmWait_state u
  · exact hst

/-! ## A dish marked (R108) -/

/-- The Stow Controller's records of a dish that is marked, before the passage to STOWED_HOLD is judged. -/
def State.marked (s : State) (d : DishId) (m : StowMark) (why : Detail) : State :=
  (((s.unqueue d).setMove d none).setMark d m).raise .stowProblem why

theorem markDish_eq (m : StowMark) (why : Detail) : s.markDish d m why = (s.marked d m why).checkStowedHold := rfl

theorem unqueue_records : (s.unqueue d).stow.marks = s.stow.marks ∧ (s.unqueue d).stow.moves = s.stow.moves := by
  unfold State.unqueue; split <;> exact ⟨rfl, rfl⟩

theorem unqueue_pending (x : Source) : ((s.unqueue d).source x).pending = (s.source x).pending := by
  unfold State.unqueue; split <;> rfl

theorem marked_stow (m : StowMark) (why : Detail) : (s.marked d m why).stow =
    { (s.unqueue d).stow with moves := s.stow.moves.set d none, marks := s.stow.marks.set d m } := by
  obtain ⟨h1, h2⟩ := unqueue_records s d
  rw [← h1, ← h2]; rfl

/-- A marked dish has its mark, no move record and no place in the queue, and STOW_PROBLEM is pending (R108). -/
theorem markDish_self (m : StowMark) (why : Detail) : (s.markDish d m why).mark d = m
    ∧ (s.markDish d m why).stow.moves[d] = none ∧ (s.markDish d m why).queued d = false
    ∧ ((s.markDish d m why).source .stowProblem).pending = true := by
  have hs := marked_stow s d m why
  have hp : ((s.marked d m why).source .stowProblem).pending = true := by
    unfold State.marked; rw [raise_source_self]; exact (raised_pending _ _).1
  have hw : Within (s.marked d m why) (s.markDish d m why) := within_checkStowedHold _
  rw [markDish_eq] at hw ⊢
  obtain ⟨h1, h2, h3⟩ := checkStowedHold_records (s.marked d m why)
  unfold State.mark State.queued
  rw [h1, h2, h3, hs]
  refine ⟨(set_get _ _ _ _).trans (if_pos rfl), (set_get _ _ _ _).trans (if_pos rfl), ?_, hw.pending _ hp⟩
  dsimp only
  rw [unqueue_queue]
  simp

end

/-! ## GO written -/

theorem writeGo_core (s : State) (d : DishId) (f : Frame) : (s.writeGo d f).core d =
    (s.dish d, if s.moveLocked d then s.slot d else .go f, s.feeder.reservations[d]) := by
  unfold State.writeGo State.writeBarred
  cases s.moveLocked d
  · exact putSlot_core _ _ _
  · rfl

theorem writeGo_quiet {s : State} (h : s.Quiet) (d : DishId) (f : Frame) : (s.writeGo d f).Quiet := by
  unfold State.writeGo State.writeBarred
  cases s.moveLocked d <;> exact h

/-! ## Stow moves -/

section
variable {s : State} {d : DishId} {m : StowMove}

theorem stowReport_stowing (hs : (s.dish d).motion = .stowing) (hm : s.stow.moves[d] = some m) :
    s.stowReport d = match m.start with
      | none => if (s.dish d).profileLoaded then s.stowGo d m else s
      | some st => if frameReached s.ring.frame st && !(s.dish d).moving && (s.dish d).atWindStow then s.stowArrive d else s := by
  unfold State.stowReport; dsimp only
  rw [if_pos hs, hm] <;> rfl

theorem stowGo_spec (s : State) (d : DishId) (m : StowMove) :
    (s.stowGo d m).stow.moves[d] = some { m with
      start := some (s.ring.frame + 2), deadline := s.ring.frame + BitVec.ofNat 32 m.t + 40 }
    ∧ (s.stowGo d m).core d = (s.dish d, if s.moveLocked d then s.slot d else .go (s.ring.frame + 2), s.feeder.reservations[d]) := by
  unfold State.stowGo
  rw [(touches_setMove _ _ _).core_eq (by simp), writeGo_core]
  exact ⟨(set_get _ _ _ _).trans (if_pos rfl), rfl⟩

/-- The state of an arrival before the passage to STOWED_HOLD is judged (R107). -/
def State.arrived (s : State) (d : DishId) : State :=
  (((s.setMotion d .stowed).writeHoldBrake d).releaseReservation d).setMove d none

theorem stowArrive_eq (s : State) (d : DishId) : s.stowArrive d = (s.arrived d).checkStowedHold := rfl

theorem arrived_core (s : State) (d : DishId) :
    (s.arrived d).core d = ({ s.dish d with motion := .stowed }, .holdBrake, none) := by
  obtain ⟨h1, h2, h3⟩ := core_eq (setMotion_core s d .stowed)
  obtain ⟨k1, k2, k3⟩ := core_eq (writeHoldBrake_core (s.setMotion d .stowed) d)
  unfold State.arrived
  rw [(touches_setMove _ _ _).core_eq (by simp), releaseReservation_core, k1, k2, h1]

theorem arrived_stow (s : State) (d : DishId) : (s.arrived d).stow = { s.stow with moves := s.stow.moves.set d none } := by
  have h : Touches [.dish d] s (((s.setMotion d .stowed).writeHoldBrake d).releaseReservation d) :=
    ((touches_setMotion _ _ _).trans (touches_writeHoldBrake _ _)).trans (touches_releaseReservation _ _)
  have hs := h.stow (by simp)
  have : (s.arrived d).stow = { (((s.setMotion d .stowed).writeHoldBrake d).releaseReservation d).stow with
    moves := (((s.setMotion d .stowed).writeHoldBrake d).releaseReservation d).stow.moves.set d none } := rfl
  rw [this, hs]

theorem touches_arrived (s : State) (d : DishId) : Touches [.dish d, .stow] s (s.arrived d) :=
  ((((touches_setMotion s d .stowed).mono (by simp)).after (touches_writeHoldBrake _ d) (by simp)).after
    (touches_releaseReservation _ d) (by simp)).after (touches_setMove _ _ _) (by simp)

theorem within_arrived (s : State) (d : DishId) : Within s (s.arrived d) :=
  (within_setMotion _ _ _).trans <| (within_writeHoldBrake _ _).trans <| (within_releaseReservation _ _).trans
    (within_setMove _ _ _)

theorem stowArrive_core (s : State) (d : DishId) :
    (s.stowArrive d).core d = ({ s.dish d with motion := .stowed }, .holdBrake, none) := by
  rw [stowArrive_eq, (touches_checkStowedHold _).core_eq (by simp), arrived_core]

theorem stowArrive_move (s : State) (d : DishId) : (s.stowArrive d).stow.moves[d] = none := by
  rw [stowArrive_eq, (checkStowedHold_records _).2.2, arrived_stow]
  exact (set_get _ _ _ _).trans (if_pos rfl)

/-- The passage of the stow with its last arrival (R107). -/
theorem stowArrive_state (ha : s.stow.state = .active) (hq : s.stow.queue = [])
    (hn : ∀ e, e ≠ d → (s.dish e).motion ≠ .stowing) :
    (s.stowArrive d).stow.state = if s.releaseCondition then .calmWait else .stowedHold := by
  have hst := arrived_stow s d
  have hnone : (s.arrived d).someStowing = false := by
    unfold State.someStowing
    rw [List.any_eq_false]
    intro e _
    rw [decide_eq_true_eq]
    by_cases he : e = d
    · subst he; rw [(core_eq (arrived_core s e)).1]; nofun
    · rw [((touches_arrived s d).dish e (by simpa using he)).1]; exact hn e he
  rw [stowArrive_eq, checkStowedHold_state (by rw [hst]; exact ha) (by rw [hst]; exact hq) hnone,
    (within_arrived s d).releaseCondition_eq]

/-- What rounds and scans leave of a dish that has arrived, and of the stow that it has held. -/
theorem stowArrive_settled (s : State) (d : DishId) :
    (s.stowArrive d).settle.core d = ({ s.dish d with motion := .stowed }, .holdBrake, none)
      ∧ (s.stowArrive d).settle.stow.moves[d] = none := by
  have hcore := stowArrive_core s d
  have hcall : ((s.stowArrive d).dish d).motion.atCall = false := by rw [(core_eq hcore).1]; rfl
  refine ⟨(settle_core hcall).trans hcore, ?_⟩
  exact (congrArg Hold.move ((spares_settle (s.stowArrive d)).dish d hcall) :).trans (stowArrive_move s d)

end

/-! ## Shed moves -/

section
variable {s : State} {d : DishId} {m : ShedMove}

theorem shedReport_shedding (hs : (s.dish d).motion = .shedding) (hm : s.melt.shedMoves[d] = some m) :
    s.shedReport d = match m.start with
      | none => if (s.dish d).profileLoaded then s.shedGo d m else s
      | some st =>
        if m.settled then if (s.dish d).brakedStill then s.shedArrive d else s
        else if frameReached s.ring.frame st && (s.dish d).inPosition && !(s.dish d).moving then s.shedSettle d m
        else s := by
  unfold State.shedReport; dsimp only
  rw [if_pos hs, hm] <;> rfl

theorem setShedMove_self (s : State) (d : DishId) (m : Option ShedMove) : (s.setShedMove d m).melt.shedMoves[d] = m :=
  (set_get _ _ _ _).trans (if_pos rfl)

theorem shedGo_spec (s : State) (d : DishId) (m : ShedMove) :
    (s.shedGo d m).melt.shedMoves[d] = some { m with
      start := some (s.ring.frame + 2), deadline := s.ring.frame + BitVec.ofNat 32 m.t + 40 }
    ∧ (s.shedGo d m).core d = (s.dish d, if s.moveLocked d then s.slot d else .go (s.ring.frame + 2), s.feeder.reservations[d]) := by
  unfold State.shedGo
  rw [(touches_setShedMove _ _ _).core_eq (by simp), writeGo_core, setShedMove_self]
  exact ⟨rfl, rfl⟩

theorem shedSettle_spec (s : State) (d : DishId) (m : ShedMove) :
    (s.shedSettle d m).melt.shedMoves[d] = some { m with settled := true }
    ∧ (s.shedSettle d m).core d = (s.dish d, .holdBrake, s.feeder.reservations[d]) := by
  unfold State.shedSettle
  rw [(touches_setShedMove _ _ _).core_eq (by simp), writeHoldBrake_core, setShedMove_self]
  exact ⟨rfl, rfl⟩

theorem endShed_self (s : State) (d : DishId) (r : ShedResult) :
    (s.endShed d r).melt.shedMoves[d] = none ∧ (s.endShed d r).melt.shedResult[d] = r :=
  ⟨(set_get _ _ _ _).trans (if_pos rfl), (set_get _ _ _ _).trans (if_pos rfl)⟩

/-- A shed move's end before the dish enters IDLE (R140). -/
def State.shedEnded (s : State) (d : DishId) : State := (s.releaseReservation d).endShed d .done

theorem touches_shedEnded (s : State) (d : DishId) : Touches [.dish d, .sheds] s (s.shedEnded d) :=
  ((touches_releaseReservation s d).mono (by simp)).after (touches_endShed _ d .done) (by simp)

theorem within_shedEnded (s : State) (d : DishId) : Within s (s.shedEnded d) :=
  (within_releaseReservation _ _).trans (within_endShed _ _ _)

/-- Arrival of a shed move of a dish that bears no mark: IDLE, DONE, and nobody admitted, so that it stays there (R140). -/
theorem shedArrive_settled (hm : s.mark d = .none) (hn : NobodyAdmitted s) :
    (s.shedArrive d).settle.core d = ((s.dish d).idled, idleSlot (s.moveLocked d), none)
      ∧ (s.shedArrive d).settle.melt.shedMoves[d] = none ∧ (s.shedArrive d).settle.melt.shedResult[d] = .done := by
  have ht := touches_shedEnded s d
  have hw := within_shedEnded s d
  have hmark : (s.shedEnded d).mark d = .none := by unfold State.mark; rw [ht.stow (by simp)]; exact hm
  have heq : s.shedArrive d = (s.shedEnded d).atIdle d := enterIdle_plain (s := s.shedEnded d) (.inl (by rw [hmark]; nofun))
  have hcore : (s.shedEnded d).core d = (s.dish d, s.slot d, none) :=
    (touches_endShed (s.releaseReservation d) d .done).core_eq (by simp) |>.trans (releaseReservation_core s d)
  obtain ⟨h1, -, h3⟩ := core_eq hcore
  have hidle := touches_atIdle (s.shedEnded d) d
  have hall : Touches [.dish d, .sheds] s ((s.shedEnded d).atIdle d) := ht.after hidle (by simp)
  have hnobody : NobodyAdmitted ((s.shedEnded d).atIdle d) := by
    refine hn.of_same (by rw [hall.stow (by simp)]; exact hn.1) (by rw [hall.orders]) hall.listed (fun g e => ?_)
      (by rw [(hw.trans (within_atIdle _ _)).locks_eq])
    rwa [(hall.group g (by simp)).1] at e
  have hset := touches_settle_of_nobody hnobody
  obtain ⟨e1, e2⟩ := endShed_self (s.releaseReservation d) d .done
  obtain ⟨m1, m2, -⟩ := hset.sheds (by simp)
  obtain ⟨i1, i2, -⟩ := hidle.sheds (by simp)
  rw [heq]
  refine ⟨?_, by rw [m1, i1]; exact e1, by rw [m2, i2]; exact e2⟩
  rw [hset.core_eq (by simp), atIdle_core, h1, h3, hw.moveLocked_eq]

end

/-! ## Reports and deadlines of moving dishes -/

section
variable {s : State} {d : DishId} {r : Report}

/-- A report with code 0 and no change of the switch lock, of a dish on a stow or shed move and in no group, is answered for its move
alone. -/
theorem exec_report_moving (ha : ReportAwaited d s) (hf : r.fault = 0) (hsw : r.switchLock = (s.dish d).switchLock)
    (hg : (s.dish d).group = none)
    (hm : (s.dish d).motion = .stowing ∨ (s.dish d).motion = .shedding ∧ s.lockRequested d = false) :
    exec (.validReport d r) s = .next (((s.stored d r).stowReport d).shedReport d).settle := by
  have hd := stored_dish s d r
  have hrules : (s.stored d r).reportRules d = s.stored d r := by
    rw [reportRules_of_clear (by rw [hd]; exact hf)]
    have hmot : ((s.stored d r).dish d).motion = (s.dish d).motion := by rw [hd]; rfl
    unfold State.stateRules; dsimp only; rw [hmot]
    rcases hm with hm | ⟨hm, -⟩ <;> rw [hm]
  have hlock : (s.stored d r).lockReport d = s.stored d r := by
    rcases hm with hm | ⟨-, hl⟩
    · exact lockReport_of_stowing (by rw [hd]; exact hm)
    · exact lockReport_of_unrequested hl
  rw [exec_report ha, hrules, answers_of_moves hlock (by rw [hd]; exact hsw) (by rw [hd]; exact hg)]

/-- A stow move acknowledged: GO for the present frame plus 2, and the deadline set (R106). -/
theorem stow_acknowledged {m : StowMove} (ha : ReportAwaited d s) (hq : s.Quiet) (hf : r.fault = 0)
    (hsw : r.switchLock = (s.dish d).switchLock) (hm : (s.dish d).motion = .stowing) (hg : (s.dish d).group = none)
    (hmove : s.stow.moves[d] = some m) (hstart : m.start = none) (hl : r.profileLoaded = true) :
    exec (.validReport d r) s = .next ((s.stored d r).stowGo d m) := by
  have hd := stored_dish s d r
  have hm' : ((s.stored d r).dish d).motion = .stowing := by rw [hd]; exact hm
  have hl' : ((s.stored d r).dish d).profileLoaded = true := by rw [hd]; exact hl
  have hgo : ((s.stored d r).stowGo d m).dish d = (s.dish d).told r s.ring.frame :=
    (core_eq (stowGo_spec (s.stored d r) d m).2).1.trans hd
  have hquiet : ((s.stored d r).stowGo d m).Quiet := writeGo_quiet (stored_quiet hq d r) d _
  rw [exec_report_moving ha hf hsw hg (.inl hm), stowReport_stowing hm' hmove, hstart]
  dsimp only
  rw [if_pos hl', shedReport_other (by rw [hgo]; change (s.dish d).motion ≠ _; rw [hm]; nofun), settle_of_quiet _ hquiet]

/-- A stow move in position (R107). -/
theorem stow_arrives {m : StowMove} {start : Frame} (ha : ReportAwaited d s) (hf : r.fault = 0)
    (hsw : r.switchLock = (s.dish d).switchLock) (hm : (s.dish d).motion = .stowing) (hg : (s.dish d).group = none)
    (hmove : s.stow.moves[d] = some m) (hstart : m.start = some start) (hreach : (s.ring.frame - start).toNat < 2147483648)
    (hstill : r.moving = false) (hpos : r.inPosition = true) (hel : 89900 ≤ r.el) :
    exec (.validReport d r) s = .next ((s.stored d r).stowArrive d).settle := by
  have hd := stored_dish s d r
  have hm' : ((s.stored d r).dish d).motion = .stowing := by rw [hd]; exact hm
  have hcond : (frameReached (s.stored d r).ring.frame start && !((s.stored d r).dish d).moving
      && ((s.stored d r).dish d).atWindStow) = true := by
    have hfr : frameReached s.ring.frame start = true := decide_eq_true hreach
    have hrep : 89900 ≤ clampEl r.el := by unfold clampEl; omega
    rw [hd]
    simp [Dish.atWindStow, Dish.told, hstill, hpos, hrep, (stored_rest s d r).2.2.2.2.2.2.2, hfr]
  rw [exec_report_moving ha hf hsw hg (.inl hm), stowReport_stowing hm' hmove, hstart]
  dsimp only
  rw [if_pos hcond, shedReport_other (by rw [(core_eq (stowArrive_core _ d)).1]; nofun)]

/-- A report of a dish on a shed move that stands in the move's record. -/
theorem exec_report_shedding {m : ShedMove} (ha : ReportAwaited d s) (hf : r.fault = 0)
    (hsw : r.switchLock = (s.dish d).switchLock) (hm : (s.dish d).motion = .shedding) (hg : (s.dish d).group = none)
    (hl : s.lockRequested d = false) (hmove : s.melt.shedMoves[d] = some m) :
    exec (.validReport d r) s = .next (State.settle <| match m.start with
      | none => if r.profileLoaded then (s.stored d r).shedGo d m else s.stored d r
      | some st =>
        if m.settled then if ((s.stored d r).dish d).brakedStill then (s.stored d r).shedArrive d else s.stored d r
        else if frameReached s.ring.frame st && r.inPosition && !r.moving then (s.stored d r).shedSettle d m
        else s.stored d r) := by
  have hd := stored_dish s d r
  have hm' : ((s.stored d r).dish d).motion = .shedding := by rw [hd]; exact hm
  have hp : ((s.stored d r).dish d).profileLoaded = r.profileLoaded := by rw [hd]; rfl
  have hi : ((s.stored d r).dish d).inPosition = r.inPosition := by rw [hd]; rfl
  have hv : ((s.stored d r).dish d).moving = r.moving := by rw [hd]; rfl
  rw [exec_report_moving ha hf hsw hg (.inr ⟨hm, hl⟩), stowReport_other (by rw [hm']; nofun), shedReport_shedding hm' hmove,
    hp, hi, hv]
  rfl

end

section
variable {s : State} {d : DishId}

theorem stowMoveTimeout_taken {m : StowMove} (hr : s.resetHeld = false) (hm : (s.dish d).motion = .stowing)
    (hmove : s.stow.moves[d] = some m) (hd : m.deadline = s.ring.frame) :
    exec (.stowMoveTimeout d) s = .next ((s.faultDish d).markDish d .unreachable (.stowFailed d)).settle := by
  refine (event_taken hr).trans ?_
  rw [if_pos]
  unfold State.stowTimedOut
  rw [hmove]
  simp [hm, hd]

theorem shedMoveTimeout_taken {m : ShedMove} (hr : s.resetHeld = false) (hm : (s.dish d).motion = .shedding)
    (hmove : s.melt.shedMoves[d] = some m) (hd : m.deadline = s.ring.frame) :
    exec (.shedMoveTimeout d) s = .next ((s.faultDish d).endShed d .failed).settle := by
  refine (event_taken hr).trans ?_
  rw [if_pos]
  unfold State.shedTimedOut
  rw [hmove]
  simp [hm, hd]

theorem event_idle {s take : State} {b : Bool} (h : b = false) : event s (if b then take else s) = .next s := by
  unfold event
  rw [h]
  split <;> rfl

/-- A stow move timed out: the dish in FAULT, its record gone, its mark UNREACHABLE (R106). -/
theorem stowTimeout_settled (s : State) (d : DishId) :
    let t := ((s.faultDish d).markDish d .unreachable (.stowFailed d)).settle
    t.core d = ({ s.dish d with motion := .fault }, .stop, none) ∧ t.stow.moves[d] = none ∧ t.mark d = .unreachable
      ∧ (t.source .stowProblem).pending = true ∧ t.fixed = s.fixed := by
  intro t
  obtain ⟨h1, h2, -, h4⟩ := markDish_self (s.faultDish d) d .unreachable (.stowFailed d)
  have hcore := ((touches_markDish (s.faultDish d) d .unreachable (.stowFailed d)).core_eq (d := d) (by simp)).trans
    (faultDish_core s d)
  have hw : Within s ((s.faultDish d).markDish d .unreachable (.stowFailed d)) :=
    (within_faultDish _ _).trans (within_markDish _ _ _ _)
  have hcall : (((s.faultDish d).markDish d .unreachable (.stowFailed d)).dish d).motion.atCall = false := by
    rw [(core_eq hcore).1]; rfl
  have hsp := spares_settle ((s.faultDish d).markDish d .unreachable (.stowFailed d))
  refine ⟨(settle_core hcall).trans hcore, (congrArg Hold.move (hsp.dish d hcall) :).trans h2,
    (congrArg (fun x : Vector StowMark 48 => x[d]) hsp.marks).trans h1, (within_settle _).pending _ h4,
    (hw.trans (within_settle _)).fixed⟩

/-- A shed move timed out: the dish in FAULT, its record gone, its result FAILED (R141). -/
theorem shedTimeout_settled (s : State) (d : DishId) (hl : s.shedListed d = false) :
    let t := ((s.faultDish d).endShed d .failed).settle
    t.core d = ({ s.dish d with motion := .fault }, .stop, none) ∧ t.melt.shedMoves[d] = none
      ∧ t.melt.shedResult[d] = .failed ∧ t.fixed = s.fixed := by
  intro t
  obtain ⟨h1, h2⟩ := endShed_self (s.faultDish d) d .failed
  have hall := (touches_faultDish s d).then (touches_endShed (s.faultDish d) d .failed)
  have hcore := ((touches_endShed (s.faultDish d) d .failed).core_eq (d := d) (by simp)).trans (faultDish_core s d)
  have hw : Within s ((s.faultDish d).endShed d .failed) := (within_faultDish _ _).trans (within_endShed _ _ _)
  have hcall : (((s.faultDish d).endShed d .failed).dish d).motion.atCall = false := by
    rw [(core_eq hcore).1]; rfl
  have hsp := spares_settle ((s.faultDish d).endShed d .failed)
  refine ⟨(settle_core hcall).trans hcore, (congrArg Hold.shedMove (hsp.dish d hcall) :).trans h1, ?_,
    (hw.trans (within_settle _)).fixed⟩
  exact ((roundKeeps_shedEnded .failed).settle (s := (s.faultDish d).endShed d .failed)
    ⟨shedListed_of_subset hl hall.listed, h2⟩).2

end

/-- Settles O21: each report and each deadline reaches one operation on the dish's move, which rounds and scans leave. -/
theorem stowAndShedMovesRun : Obligations.StowAndShedMovesRun := by
  unfold Obligations.StowAndShedMovesRun
  refine fun d s => ⟨fun r ha hq hf hsw => ?_, fun hr => ⟨fun m hm hmove hd => ?_, fun m hm hmove hd hl => ?_, fun h => ?_,
    fun h => ?_⟩⟩
  · intro reached
    have hlock : (s.stored d r).moveLocked d = s.moveLocked d := stored_moveLocked_same hsw
    have hdish := stored_dish s d r
    have hmotion : ((s.dish d).told r s.ring.frame).motion = (s.dish d).motion := rfl
    refine ⟨fun m hm hg hmove => ?_, fun m hm hg hl hmove => ?_⟩
    · by_cases hgo : m.start = none ∧ r.profileLoaded = true
      · obtain ⟨k1, k2⟩ := stowGo_spec (s.stored d r) d m
        obtain ⟨c1, c2, -⟩ := core_eq k2
        refine ⟨_, stow_acknowledged ha hq hf hsw hm hg hmove hgo.1 hgo.2, fun _ _ => ⟨k1, ?_, ?_⟩, fun hs => ?_⟩
        · rw [c1, hdish, hmotion]; exact hm
        · rw [c2, hlock]; rfl
        · obtain ⟨start, hstart, -⟩ := hs
          rw [hgo.1] at hstart; cases hstart
      · refine ⟨_, exec_report_moving ha hf hsw hg (.inl hm), fun h1 h2 => absurd ⟨h1, h2⟩ hgo,
          fun ⟨start, hstart, hreach⟩ h1 h2 h3 => ?_⟩
        have hexec := (exec_report_moving ha hf hsw hg (.inl hm)).symm.trans
          (stow_arrives ha hf hsw hm hg hmove hstart hreach h1 h2 h3)
        rw [Host.Outcome.next.inj hexec]
        obtain ⟨k1, k2⟩ := stowArrive_settled (s.stored d r) d
        obtain ⟨c1, c2, c3⟩ := core_eq k1
        refine ⟨by rw [c1], c2, c3, k2, fun hact hqueue hothers => ?_⟩
        have hst : ((s.stored d r).stowArrive d).stow.state = if s.releaseCondition then .calmWait else .stowedHold :=
          stowArrive_state (s := s.stored d r) hact hqueue fun e he => by
            rw [((touches_stored s d r).dish e (by simpa using he)).1]; exact hothers e he
        rw [(spares_settle _).stow (by rw [hst]; split <;> nofun), hst]
    · have hexec := exec_report_shedding ha hf hsw hm hg hl hmove
      refine ⟨_, hexec, fun h1 h2 => ?_, fun ⟨start, hstart, hreach⟩ h1 h2 h3 => ?_, fun h1 h2 h3 h4 hmark hn => ?_⟩
      · rw [h1]; dsimp only
        obtain ⟨k1, k2⟩ := shedGo_spec (s.stored d r) d m
        obtain ⟨c1, c2, -⟩ := core_eq k2
        have hquiet : ((s.stored d r).shedGo d m).Quiet := writeGo_quiet (stored_quiet hq d r) d _
        rw [if_pos h2, settle_of_quiet _ hquiet]
        refine ⟨k1, ?_, ?_⟩
        · rw [c1, hdish, hmotion]; exact hm
        · rw [c2, hlock]; rfl
      · obtain ⟨k1, k2⟩ := shedSettle_spec (s.stored d r) d m
        obtain ⟨c1, c2, -⟩ := core_eq k2
        rw [hstart] at k1 ⊢; dsimp only at k1 ⊢
        have hfr : frameReached s.ring.frame start = true := decide_eq_true hreach
        have hquiet : ((s.stored d r).shedSettle d m).Quiet := stored_quiet hq d r
        rw [if_neg (by simp [h1]), if_pos (by simp [hfr, h2, h3]), settle_of_quiet _ hquiet]
        refine ⟨k1, ?_, c2⟩
        rw [c1, hdish, hmotion]; exact hm
      · obtain ⟨start, hstart⟩ := Option.ne_none_iff_exists'.1 h1
        have hstill : ((s.stored d r).dish d).brakedStill = true := by
          rw [hdish]; simp [Dish.brakedStill, Dish.told, h3, h4]
        rw [hstart]; dsimp only
        rw [if_pos h2, if_pos hstill]
        obtain ⟨k1, k2, k3⟩ := shedArrive_settled (s := s.stored d r) (d := d) hmark (stored_nobody _ _ hn)
        obtain ⟨c1, c2, c3⟩ := core_eq k1
        rw [c1]
        exact ⟨rfl, rfl, rfl, by rw [c2, hlock]; rfl, c3, k2, k3⟩
  · obtain ⟨h1, h2, h3, h4, h5⟩ := stowTimeout_settled s d
    obtain ⟨c1, c2, c3⟩ := core_eq h1
    exact ⟨_, stowMoveTimeout_taken hr hm hmove hd, by rw [c1], c2, c3, h2, h3, h4, h5⟩
  · obtain ⟨h1, h2, h3, h4⟩ := shedTimeout_settled s d hl
    obtain ⟨c1, c2, c3⟩ := core_eq h1
    exact ⟨_, shedMoveTimeout_taken hr hm hmove hd, by rw [c1], c2, c3, h2, h3, h4⟩
  · refine event_idle ?_
    unfold State.stowTimedOut
    cases hm : s.stow.moves[d] with
    | none => simp
    | some m => simp [h m hm]
  · refine event_idle ?_
    unfold State.shedTimedOut
    cases hm : s.melt.shedMoves[d] with
    | none => simp
    | some m => simp [h m hm]

end Sys2Proof.Machine
end

section
/-! What the locks' and the switch's answers to a report make of the dish itself, of its zones and of the Lock Table (R132, R148, R152,
R153). -/

namespace Sys2Proof.Machine

/-! ## Pending locks applied (R148) -/

/-- A lock entry after R148 has applied the dish's PENDING ones. -/
def LockEntry.appliedBy (d : DishId) (e : LockEntry) : LockEntry :=
  if e.dish = d ∧ e.state = .pending then { e with state := .applied } else e

theorem LockEntry.appliedBy_appliedBy (d : DishId) (e : LockEntry) : (e.appliedBy d).appliedBy d = e.appliedBy d := by
  by_cases h : e.dish = d ∧ e.state = .pending <;> simp [LockEntry.appliedBy, h]

section
variable (d : DishId)

theorem applyAt_entries (s : State) (p q : Fin 96) : (State.applyAt d s p).locks.entries[q] =
    if q = p then s.locks.entries[q].map (LockEntry.appliedBy d) else s.locks.entries[q] := by
  unfold State.applyAt; split
  · next h =>
    split
    · next hq => rw [hq, h]; rfl
    · rfl
  · next e h =>
    by_cases hp : e.pendingOn d = true
    · have hnew : e.appliedBy d = { e with state := .applied } := if_pos (by simpa [LockEntry.pendingOn] using hp)
      rw [if_pos hp]
      refine (set_get _ _ _ _).trans ?_
      split
      · next hq => rw [hq, h, Option.map_some, hnew]
      · rfl
    · have hnew : e.appliedBy d = e := if_neg (by simpa [LockEntry.pendingOn] using hp)
      rw [if_neg hp]
      split
      · next hq => rw [hq, h, Option.map_some, hnew]
      · rfl

theorem foldl_applyAt_entries (ps : List (Fin 96)) (s : State) (q : Fin 96) : (ps.foldl (State.applyAt d) s).locks.entries[q] =
    if q ∈ ps then s.locks.entries[q].map (LockEntry.appliedBy d) else s.locks.entries[q] := by
  induction ps generalizing s with
  | nil => rfl
  | cons p ps ih =>
    rw [List.foldl_cons, ih, applyAt_entries]
    by_cases h1 : q = p <;> by_cases h2 : q ∈ ps <;>
      simp [h1, h2, Option.map_map, Function.comp_def, LockEntry.appliedBy_appliedBy]

theorem foldl_applyAt_pending (ps : List (Fin 96)) (s : State)
    (h : (s.source .lockApplied).pending = true ∨ ∃ p ∈ ps, ∃ e, s.locks.entries[p] = some e ∧ e.pendingOn d = true) :
    ((ps.foldl (State.applyAt d) s).source .lockApplied).pending = true := by
  induction ps generalizing s with
  | nil => rcases h with h | ⟨p, hp, -⟩
           · exact h
           · cases hp
  | cons p ps ih =>
    refine ih _ ?_
    rcases h with h | ⟨q, hq, e, he, hpe⟩
    · exact .inl ((withinLocks_applyAt d s p).within.pending _ h)
    · by_cases hqp : q = p
      · left
        unfold State.applyAt
        rw [← hqp, he]; dsimp only
        rw [if_pos hpe, raise_source_self]
        exact (raised_pending _ _).1
      · refine .inr ⟨q, (List.mem_cons.1 hq).resolve_left hqp, e, ?_, hpe⟩
        rw [applyAt_entries, if_neg hqp]; exact he

variable (s : State)

theorem mem_lockPositions (p : Fin 96) : p ∈ lockPositions := List.mem_finRange p

theorem applyPending_entries (p : Fin 96) :
    (s.applyPending d).locks.entries[p] = s.locks.entries[p].map (LockEntry.appliedBy d) := by
  have h : (s.applyAll d).locks.entries[p] = s.locks.entries[p].map (LockEntry.appliedBy d) := by
    unfold State.applyAll
    rw [foldl_applyAt_entries, if_pos (mem_lockPositions p)]
  rw [applyPending_eq]
  generalize s.applyAll d = u at h ⊢
  split <;> exact h

theorem countLocks_pos {s : State} {f : LockEntry → Bool} :
    1 ≤ s.countLocks f ↔ ∃ (p : Fin 96) (e : LockEntry), s.locks.entries[p] = some e ∧ f e = true := by
  unfold State.countLocks
  rw [Nat.one_le_iff_ne_zero, ← Nat.pos_iff_ne_zero, List.countP_pos_iff]
  constructor
  · rintro ⟨x, hx, hf⟩
    obtain ⟨e, rfl, he⟩ := (Option.any_eq_true _ _).1 hf
    obtain ⟨i, hi, hget⟩ := List.getElem_of_mem hx
    rw [Vector.length_toList] at hi
    exact ⟨⟨i, hi⟩, e, by simpa using hget, he⟩
  · rintro ⟨p, e, he, hf⟩
    refine ⟨some e, ?_, hf⟩
    rw [← he, Vector.mem_toList_iff]
    exact Vector.getElem_mem _

/-- A lock-requested dish has a PENDING move lock. -/
theorem lockRequested_spec {s : State} {d : DishId} (h : s.lockRequested d = true) : ∃ (p : Fin 96) (e : LockEntry),
    s.locks.entries[p] = some e ∧ e.dish = d ∧ e.scope ≠ .heat ∧ e.state = .pending := by
  obtain ⟨p, e, he, hf⟩ := countLocks_pos.1 (of_decide_eq_true h)
  simp only [Bool.and_eq_true, decide_eq_true_eq] at hf
  exact ⟨p, e, he, hf.1.1, hf.1.2, hf.2⟩

/-- A dish whose pending move lock has been applied is move-locked (R5). -/
theorem applyPending_moveLocked {s : State} {d : DishId} (h : s.lockRequested d = true) :
    (s.applyPending d).moveLocked d = true := by
  obtain ⟨p, e, he, hd, hs, hp⟩ := lockRequested_spec h
  have hentry := applyPending_entries d s p
  rw [he, Option.map_some, LockEntry.appliedBy, if_pos ⟨hd, hp⟩] at hentry
  have hcount : 1 ≤ (s.applyPending d).appliedMove d := countLocks_pos.2 ⟨p, _, hentry, by simp [hd, hs]⟩
  unfold State.moveLocked; simp [hcount]

/-- LOCK_APPLIED is pending once a PENDING move lock has been applied (R148). -/
theorem applyPending_raises {s : State} {d : DishId} (h : s.lockRequested d = true) :
    ((s.applyPending d).source .lockApplied).pending = true := by
  obtain ⟨p, e, he, hd, -, hp⟩ := lockRequested_spec h
  have hall : ((s.applyAll d).source .lockApplied).pending = true := by
    unfold State.applyAll
    exact foldl_applyAt_pending d _ s (.inr ⟨p, mem_lockPositions p, e, he, by simp [LockEntry.pendingOn, hd, hp]⟩)
  rw [applyPending_eq]
  generalize s.applyAll d = u at hall ⊢
  split <;> exact hall

theorem lockReport_dish : (s.lockReport d).dish d = s.dish d := by
  unfold State.lockReport; split
  · exact (core_eq (applyPending_core s d)).1
  · rfl

end

/-! ## The switch lock newly set (R152) -/

section
variable {s : State} {d : DishId}

theorem stowOnSwitch_core (h : (s.dish d).motion ≠ .stowing) : (s.stowOnSwitch d).core d = s.core d := by
  unfold State.stowOnSwitch; rw [if_neg h]
  exact (touches_stowOnLocked s d).core_eq (by simp)

/-- A STOWING dish is stopped by its switch (R108). -/
theorem stowOnSwitch_core_stowing (h : (s.dish d).motion = .stowing) :
    (s.stowOnSwitch d).core d = ({ s.dish d with motion := .stopping }, .stop, none) := by
  unfold State.stowOnSwitch; rw [if_pos h, (touches_markDish _ _ _ _).core_eq (by simp), stopDish_core]

theorem holdIfIdle_core (s : State) (d : DishId) : (s.holdIfIdle d).core d =
    (s.dish d, if (s.dish d).motion = .idle then .holdBrake else s.slot d, s.feeder.reservations[d]) := by
  unfold State.holdIfIdle; split
  · exact writeHoldBrake_core s d
  · rfl

/-- What follows the stow's answer to a switch newly set. -/
theorem switchSetAlone_core_of (h : ((s.stowOnSwitch d).dish d).motion ≠ .shedding) (heat : Bool) :
    (s.switchSetAlone d heat).core d = (((s.stowOnSwitch d)).dish d,
      if ((s.stowOnSwitch d).dish d).motion = .idle then .holdBrake else (s.stowOnSwitch d).slot d,
      (s.stowOnSwitch d).feeder.reservations[d]) := by
  unfold State.switchSetAlone
  generalize s.stowOnSwitch d = u at h ⊢
  have hshed : u.stopShed d .aborted = u := if_neg h
  obtain ⟨h1, h2, h3⟩ := core_eq ((touches_skipShed u d).core_eq (d := d) (by simp))
  rw [(touches_answerBlock _ _ _).core_eq (by simp), hshed, holdIfIdle_core, h1, h2, h3]

/-- A dish on no move keeps its record; an IDLE one is held (R152). -/
theorem switchSetAlone_core (h1 : (s.dish d).motion ≠ .stowing) (h2 : (s.dish d).motion ≠ .shedding) (heat : Bool) :
    (s.switchSetAlone d heat).core d =
      (s.dish d, if (s.dish d).motion = .idle then .holdBrake else s.slot d, s.feeder.reservations[d]) := by
  obtain ⟨e1, e2, e3⟩ := core_eq (stowOnSwitch_core h1)
  rw [switchSetAlone_core_of (by rw [e1]; exact h2), e1, e2, e3]

theorem switchSetAlone_core_stowing (h : (s.dish d).motion = .stowing) (heat : Bool) :
    (s.switchSetAlone d heat).core d = ({ s.dish d with motion := .stopping }, .stop, none) := by
  obtain ⟨e1, e2, e3⟩ := core_eq (stowOnSwitch_core_stowing h)
  rw [switchSetAlone_core_of (by rw [e1]; nofun), e1, e2, e3]; rfl

theorem switchSetAlone_core_shedding (h : (s.dish d).motion = .shedding) (heat : Bool) :
    (s.switchSetAlone d heat).core d = ({ s.dish d with motion := .stopping }, .stop, none) := by
  obtain ⟨e1, -, -⟩ := core_eq (stowOnSwitch_core (s := s) (d := d) (by rw [h]; nofun))
  unfold State.switchSetAlone
  generalize s.stowOnSwitch d = u at e1 ⊢
  have hshed : u.stopShed d .aborted = (u.stopDish d).endShed d .aborted := if_pos (by rw [e1]; exact h)
  have hcore : ((u.stopShed d .aborted).skipShed d).core d = ({ s.dish d with motion := .stopping }, .stop, none) := by
    rw [(touches_skipShed _ _).core_eq (by simp), hshed, (touches_endShed _ _ _).core_eq (by simp), stopDish_core, e1]
  obtain ⟨k1, k2, k3⟩ := core_eq hcore
  rw [(touches_answerBlock _ _ _).core_eq (by simp), holdIfIdle_core, k1, k2, k3]; rfl

/-- A switch newly set leaves the dish on no move. -/
theorem switchSetAlone_dish (s : State) (d : DishId) (heat : Bool) :
    ((s.switchSetAlone d heat).dish d).group = (s.dish d).group
      ∧ ((s.switchSetAlone d heat).dish d).motion ≠ .stowing ∧ ((s.switchSetAlone d heat).dish d).motion ≠ .shedding := by
  by_cases h1 : (s.dish d).motion = .stowing
  · rw [(core_eq (switchSetAlone_core_stowing h1 heat)).1]; exact ⟨rfl, nofun, nofun⟩
  · by_cases h2 : (s.dish d).motion = .shedding
    · rw [(core_eq (switchSetAlone_core_shedding h2 heat)).1]; exact ⟨rfl, nofun, nofun⟩
    · rw [(core_eq (switchSetAlone_core h1 h2 heat)).1]; exact ⟨rfl, h1, h2⟩

theorem excludeMember_group (s : State) (d : DishId) (why : ExclReason) : ((s.excludeMember d why).dish d).group = none := by
  unfold State.excludeMember; split
  · assumption
  · by_cases hl : (s.dish d).motion = .fault ∨ (s.dish d).motion = .offline
    · rw [(core_eq ((exclude_core _ _ _ _).trans ((expelled_core _ _ _ _).trans (if_pos hl)))).1]
    · rw [(core_eq ((exclude_core _ _ _ _).trans ((expelled_core _ _ _ _).trans (if_neg hl)))).1]

/-- After the switch newly set nothing more answers the report: the dish is in no group and on no move (log 13). -/
theorem answers_of_set (h : (s.dish d).switchLock = true) : s.answers d false = (s.lockReport d).switchSet d := by
  obtain ⟨h1, h2, h3⟩ := switchSetAlone_dish ((s.lockReport d).excludeMember d .localSwitch) d ((s.lockReport d).heatBySwitch d)
  rw [← switchSet_eq] at h1 h2 h3
  unfold State.answers
  rw [switchReport_set (by rw [lockReport_dish]; exact h)]
  exact moves_none (h1.trans (excludeMember_group _ _ _)) h2 h3

/-! ## The switch lock newly clear (R153) -/

/-- A move lock that ends returns an IDLE dish's slot to KEEP (R11). -/
theorem switchClear_core (s : State) (d : DishId) : (s.switchClear d).core d = (s.dish d,
    if (s.dish d).motion = .idle ∧ s.moveLocked d = false then .keep else s.slot d, s.feeder.reservations[d]) := by
  change ((s.moveLockEnded d).answerBlock d (s.heatBySwitch d)).core d = _
  rw [(touches_answerBlock _ _ _).core_eq (by simp)]
  unfold State.moveLockEnded
  cases s.moveLocked d
  · rw [if_neg (by simp), (touches_rejoinBlocked _ _).core_eq (by simp)]
    by_cases hi : (s.dish d).motion = .idle
    · rw [if_pos hi, if_pos ⟨hi, rfl⟩]; exact putSlot_core s d .keep
    · rw [if_neg hi, if_neg fun e => hi e.1]; rfl
  · rw [if_pos rfl, if_neg (by simp)]; rfl

/-- A switch newly clear has the dish's zones judged after its move lock has ended. -/
theorem rejoinBlocked_none (h : s.mark d ≠ .blocked ∨ s.stow.state.rejoins = false) : s.rejoinBlocked d = s := by
  unfold State.rejoinBlocked
  rw [if_neg]
  rintro ⟨h1, -, h2⟩
  rcases h with h | h
  · exact h h1
  · rw [h] at h2; cases h2

theorem touches_switchClear_plain (h : s.mark d ≠ .blocked ∨ s.stow.state.rejoins = false) :
    Touches [.dish d, .heat, .block] s (s.switchClear d) := by
  have hput : Touches [.dish d, .heat, .block] s (if (s.dish d).motion = .idle then s.putSlot d .keep else s) :=
    touches_ite ((touches_putSlot s d .keep).mono (by simp)) (.refl _ s)
  have hst := hput.stow (by simp)
  unfold State.switchClear State.moveLockEnded
  generalize (if (s.dish d).motion = .idle then s.putSlot d .keep else s) = u at hput hst ⊢
  have hnone : u.rejoinBlocked d = u := rejoinBlocked_none (by unfold State.mark; rw [hst]; exact h)
  rw [hnone]
  exact ((touches_ite (.refl _ s) hput).after (touches_answerBlock _ _ _) (by simp)).askRound

/-! ## A dish in no group and on no move -/

section
variable {former : Bool}

theorem switchReport_dish (hg : (s.dish d).group = none) (h1 : (s.dish d).motion ≠ .stowing)
    (h2 : (s.dish d).motion ≠ .shedding) : (s.switchReport d former).dish d = s.dish d := by
  unfold State.switchReport; split
  · rw [switchSet_eq, excludeMember_none hg]; exact (core_eq (switchSetAlone_core h1 h2 _)).1
  · exact (core_eq (switchClear_core s d)).1
  · rfl
  · rfl

/-- Such a dish is answered by the locks and the switch alone. -/
theorem answers_at_rest (hg : (s.dish d).group = none) (h1 : (s.dish d).motion ≠ .stowing)
    (h2 : (s.dish d).motion ≠ .shedding) : s.answers d former = (s.lockReport d).switchReport d former := by
  have hd := lockReport_dish d s
  have hsw : ((s.lockReport d).switchReport d former).dish d = s.dish d :=
    (switchReport_dish (by rw [hd]; exact hg) (by rw [hd]; exact h1) (by rw [hd]; exact h2)).trans hd
  unfold State.answers
  exact moves_none (by rw [hsw]; exact hg) (by rw [hsw]; exact h1) (by rw [hsw]; exact h2)

theorem switchReport_core_of_not_idle (hg : (s.dish d).group = none) (h0 : (s.dish d).motion ≠ .idle)
    (h1 : (s.dish d).motion ≠ .stowing) (h2 : (s.dish d).motion ≠ .shedding) :
    (s.switchReport d former).core d = s.core d := by
  unfold State.switchReport; split
  · rw [switchSet_eq, excludeMember_none hg, switchSetAlone_core h1 h2, if_neg h0]; rfl
  · rw [switchClear_core, if_neg fun e => h0 e.1]; rfl
  · rfl
  · rfl

/-- A dish in no group, neither IDLE nor on a move, bears every report as the state rules leave it. -/
theorem answers_settled_core (hg : (s.dish d).group = none) (hm : (s.dish d).motion.atCall = false)
    (h1 : (s.dish d).motion ≠ .stowing) (h2 : (s.dish d).motion ≠ .shedding) :
    (s.answers d former).settle.core d = s.core d := by
  have h0 : (s.dish d).motion ≠ .idle := fun e => by rw [e] at hm; cases hm
  have hd := lockReport_dish d s
  have hcore : (s.answers d former).core d = s.core d := by
    rw [answers_at_rest hg h1 h2, switchReport_core_of_not_idle (by rw [hd]; exact hg) (by rw [hd]; exact h0)
      (by rw [hd]; exact h1) (by rw [hd]; exact h2), lockReport_core_of_not_idle h0]
  rw [settle_core (by rw [(core_eq hcore).1]; exact hm), hcore]

end

end

end Sys2Proof.Machine
end

section
/-! A dish in IDLE through the answers to its report, where no round admits anybody; zones through the answers of a block condition. -/

namespace Sys2Proof.Machine

/-! ## Admission after the answers -/

section
variable {s : State} {d : DishId} {former : Bool}

theorem markDish_state (h : s.stow.state ≠ .active) (m : StowMark) (why : Detail) :
    (s.markDish d m why).stow.state = s.stow.state := by
  have hs : (s.marked d m why).stow.state = s.stow.state := by rw [marked_stow]; exact unqueue_state s d
  rw [markDish_eq, checkStowedHold_other (by rw [hs]; exact h), hs]

theorem stowOnLocked_state (h : s.stow.state ≠ .active) : (s.stowOnLocked d).stow.state = s.stow.state := by
  unfold State.stowOnLocked; split
  · exact markDish_state h _ _
  · rfl

/-- What follows the stow's answer to a switch newly set leaves the Stow Controller alone. -/
theorem switchSetAlone_stow (s : State) (d : DishId) (heat : Bool) :
    (s.switchSetAlone d heat).stow = (s.stowOnSwitch d).stow := by
  unfold State.switchSetAlone
  generalize s.stowOnSwitch d = u
  have h : Touches [.dish d, .sheds, .heat, .block] u ((((u.stopShed d .aborted).skipShed d).holdIfIdle d).answerBlock d heat) :=
    ((((touches_stopShed u d .aborted).mono (by simp)).after (touches_skipShed _ d) (by simp)).after (touches_holdIfIdle _ d)
      (by simp)).after (touches_answerBlock _ _ _) (by simp)
  exact h.stow (by simp)

/-- The mark bars the rejoining of a BLOCKED dish, or the stow's state does. -/
def State.StaysOut (s : State) (d : DishId) : Prop := s.mark d ≠ .blocked ∨ s.stow.state.rejoins = false

/-- Outside ACTIVE the answers to a report of a dish at rest do not bring the stow back. -/
theorem switchReport_state (hg : (s.dish d).group = none) (h1 : (s.dish d).motion ≠ .stowing) (h : s.stow.state ≠ .active)
    (hb : former = true → s.StaysOut d) : (s.switchReport d former).stow.state = s.stow.state := by
  unfold State.switchReport; split
  · rw [switchSet_eq, excludeMember_none hg, switchSetAlone_stow]
    unfold State.stowOnSwitch; rw [if_neg h1]
    exact stowOnLocked_state h
  · rw [(touches_switchClear_plain (hb rfl)).stow (by simp)]
  · rfl
  · rfl

theorem touches_switchReport (hg : (s.dish d).group = none) : Touches (ownPlaces d) s (s.switchReport d former) := by
  unfold State.switchReport; split
  · rw [switchSet_eq, excludeMember_none hg]; exact touches_switchSetAlone _ _ _
  · exact touches_switchClear _ _
  · exact .refl _ s
  · exact .refl _ s

theorem lockReport_nobody (hn : NobodyAdmitted s) : NobodyAdmitted (s.lockReport d) := by
  have hl := touches_lockReport s d
  refine hn.of_same (by rw [hl.stow (by simp)]; exact hn.1) (by rw [hl.orders]) hl.listed (fun g e => ?_)
    (congrArg Locks.census (withinLocks_lockReport s d).locks :)
  rwa [(hl.group g (by simp)).1] at e

/-- Nobody is admitted after the answer to the switch of a dish that does not come back to the stow, if nobody was. -/
theorem switchReport_nobody (hn : NobodyAdmitted s) (hg : (s.dish d).group = none) (h1 : (s.dish d).motion ≠ .stowing)
    (hb : former = true → s.StaysOut d) : NobodyAdmitted (s.switchReport d former) := by
  have ht := touches_switchReport (former := former) hg
  refine hn.of_same ?_ (by rw [ht.orders]) ht.listed (fun g e => ?_)
    (congrArg Locks.census (within_switchReport s d former).locks_eq :)
  · rw [switchReport_state hg h1 hn.1 hb]; exact hn.1
  · rwa [(ht.group g (by simp)).1] at e

theorem answers_nobody (hn : NobodyAdmitted s) (hg : (s.dish d).group = none) (h1 : (s.dish d).motion ≠ .stowing)
    (h2 : (s.dish d).motion ≠ .shedding) (hb : former = true → s.StaysOut d) : NobodyAdmitted (s.answers d former) := by
  have hd := lockReport_dish d s
  have hs := (touches_lockReport s d).stow (by simp)
  rw [answers_at_rest hg h1 h2]
  refine switchReport_nobody (lockReport_nobody hn) (by rw [hd]; exact hg) (by rw [hd]; exact h1) fun h => ?_
  unfold State.StaysOut State.mark; rw [hs]; exact hb h

end

/-! ## A dish in IDLE -/

/-- A dish stands in IDLE as entry to IDLE leaves it: its commanded positions the reported ones, its slot by its move lock (R11). -/
def State.Idles (s : State) (d : DishId) : Prop :=
  (s.dish d).motion = .idle ∧ (s.dish d).group = none ∧ (s.dish d).cmdAz = (s.dish d).repAz
    ∧ (s.dish d).cmdEl = (s.dish d).repEl ∧ s.slot d = idleSlot (s.moveLocked d)

section
variable {s t : State} {d : DishId} {former : Bool}

theorem State.Idles.of_core (h : s.Idles d) (hd : t.dish d = s.dish d) (hs : t.slot d = idleSlot (t.moveLocked d)) : t.Idles d := by
  obtain ⟨h1, h2, h3, h4, -⟩ := h
  unfold State.Idles; rw [hd]
  exact ⟨h1, h2, h3, h4, hs⟩

theorem State.Idles.of_same (h : s.Idles d) (hc : t.core d = s.core d) (hl : t.moveLocked d = s.moveLocked d) : t.Idles d := by
  obtain ⟨h1, h2, -⟩ := core_eq hc
  obtain ⟨-, -, -, -, hslot⟩ := id h
  exact h.of_core h1 (by rw [h2, hl]; exact hslot)

theorem moveLocked_of_switchLock (h : (s.dish d).switchLock = true) : s.moveLocked d = true := by simp [State.moveLocked, h]

theorem atIdle_idles (hg : (s.dish d).group = none) : (s.atIdle d).Idles d := by
  obtain ⟨h1, h2, -⟩ := core_eq (atIdle_core s d)
  unfold State.Idles
  rw [h1, h2, (within_atIdle s d).moveLocked_eq]
  exact ⟨rfl, hg, rfl, rfl, rfl⟩

/-- A pending lock applied holds the IDLE dish that it makes move-locked. -/
theorem State.Idles.lockReport (h : s.Idles d) : (s.lockReport d).Idles d := by
  by_cases hreq : s.lockRequested d = true
  · refine h.of_core (lockReport_dish d s) ?_
    obtain ⟨hi, -, -, -, hslot⟩ := h
    unfold State.lockReport; split
    · obtain ⟨-, h2, -⟩ := core_eq (applyPending_core s d)
      rw [h2, if_pos hi, applyPending_moveLocked hreq]; rfl
    · exact hslot
  · rw [lockReport_of_unrequested (by simpa using hreq)]; exact h

/-- The slot of an IDLE dish follows its switch (R152, R153). -/
theorem State.Idles.switchReport (h : s.Idles d) : (s.switchReport d former).Idles d := by
  obtain ⟨hi, hg, -, -, hslot⟩ := id h
  have hlock : (s.switchReport d former).moveLocked d = s.moveLocked d := (within_switchReport s d former).moveLocked_eq d
  refine h.of_core (switchReport_dish hg (by rw [hi]; nofun) (by rw [hi]; nofun)) ?_
  rw [hlock]
  unfold State.switchReport; split
  · next hsw =>
    rw [switchSet_eq, excludeMember_none hg, (core_eq (switchSetAlone_core (s := s) (d := d) (by rw [hi]; nofun)
      (by rw [hi]; nofun) _)).2.1, if_pos hi, moveLocked_of_switchLock hsw]; rfl
  · rw [(core_eq (switchClear_core s d)).2.1, hslot]
    cases s.moveLocked d <;> simp [hi, idleSlot]
  · exact hslot
  · exact hslot

theorem State.Idles.answers (h : s.Idles d) : (s.answers d former).Idles d := by
  obtain ⟨hi, hg, -⟩ := id h
  rw [answers_at_rest hg (by rw [hi]; nofun) (by rw [hi]; nofun)]
  exact h.lockReport.switchReport

/-- Where nobody is admitted the rounds leave an IDLE dish in IDLE. -/
theorem State.Idles.settle (h : s.Idles d) (hn : NobodyAdmitted s) : s.settle.Idles d :=
  h.of_same ((touches_settle_of_nobody hn).core_eq (by simp)) ((within_settle s).moveLocked_eq d)

end

/-! ## Zones set by their block conditions (R132) -/

section
variable {s : State} {d : DishId} {z : ZoneId}

theorem zonesOf_dish {z : ZoneId} (h : z ∈ zonesOf d) : z.dish = d := mem_zonesOf.1 h

/-- Where no block condition holds, a zone judged leaves BLOCKED for WAITING, and nothing else changes (R132). -/
theorem reblockZone_of_free {w : ZoneId} (h : s.blocks w.dish = false) : s.reblockZone w =
    if (s.zone w).state = .blocked then (s.setZone w fun x => { x with state := .waiting }).askScan else s := by
  unfold State.reblockZone; rw [h]
  cases (s.zone w).state <;> rfl

theorem reblockZone_zone_of_free {w : ZoneId} (h : s.blocks w.dish = false) : ((s.reblockZone w).zone z).state =
    if z = w ∧ (s.zone w).state = .blocked then .waiting else (s.zone z).state := by
  rw [reblockZone_of_free h]
  by_cases hb : (s.zone w).state = .blocked
  · rw [if_pos hb]
    change ((s.setZone w fun x => { x with state := .waiting }).zone z).state = _
    rw [setZone_zone]
    by_cases he : z = w
    · rw [if_pos he, if_pos ⟨he, hb⟩]
    · rw [if_neg he, if_neg fun e => he e.1]
  · rw [if_neg hb, if_neg fun e => hb e.2]

theorem reblockZone_blocks (w : ZoneId) (d : DishId) : (s.reblockZone w).blocks d = s.blocks d := by
  have ht := touches_reblockZone s w
  have hw := within_reblockZone s w
  have hd := (ht.dish d (by simp)).1
  have hs := ht.stow (by simp)
  unfold State.blocks State.heatLocked
  rw [hd, hs, hw.appliedHeat_eq, hw.censusDone_eq]

theorem reblock_unblocks (ws : List ZoneId) (s : State) (hws : ∀ w ∈ ws, w.dish = d) (h : s.blocks d = false)
    (hz : z ∈ ws ∨ (s.zone z).state ≠ .blocked) : ((ws.foldl State.reblockZone s).zone z).state ≠ .blocked := by
  induction ws generalizing s with
  | nil => exact hz.resolve_left (by simp)
  | cons w ws ih =>
    have hw := hws w List.mem_cons_self
    have hzone := reblockZone_zone_of_free (s := s) (w := w) (z := z) (by rw [hw]; exact h)
    refine ih _ (fun x hx => hws x (List.mem_cons_of_mem _ hx)) (by rw [reblockZone_blocks]; exact h) ?_
    by_cases hzws : z ∈ ws
    · exact .inl hzws
    · right
      rw [hzone]
      by_cases hb : (s.zone z).state = .blocked
      · obtain rfl : z = w := (List.mem_cons.1 (hz.resolve_right (absurd hb))).resolve_right hzws
        rw [if_pos ⟨rfl, hb⟩]; nofun
      · split
        · nofun
        · exact hb

/-- No zone of the dish stays BLOCKED once no block condition holds (R132). -/
theorem answerBlock_unblocks (h : s.blocks d = false) (hz : z.dish = d) (b : Bool) :
    ((s.answerBlock d b).zone z).state ≠ .blocked := by
  have hr : ((s.reblockDish d).zone z).state ≠ .blocked :=
    reblock_unblocks (zonesOf d) s (fun w hw => zonesOf_dish hw) h (.inl (mem_zonesOf.2 hz))
  unfold State.answerBlock; dsimp only
  generalize s.reblockDish d = u at hr ⊢
  split <;> exact hr

/-- Every zone of the power order is POWERED. -/
def State.OrderPowered (s : State) : Prop := ∀ z, z ∈ s.feeder.powerOrder.map (·.zone) → (s.zone z).state = .powered

theorem State.OrderPowered.touch {s t : State} {ps : List Place} (h : s.OrderPowered) (ht : Touches ps s t) (hp : .heat ∉ ps) :
    t.OrderPowered := by
  obtain ⟨h1, h2⟩ := ht.heat hp
  intro z
  unfold State.zone; rw [h1, h2]; exact h z

theorem State.OrderPowered.setZone {w : ZoneId} {s : State} (h : s.OrderPowered) (hw : (s.zone w).state ≠ .powered)
    (f : Zone → Zone) : (s.setZone w f).OrderPowered := fun z hz => by
  have hne : z ≠ w := fun e => hw (e ▸ h z hz)
  rw [setZone_zone, if_neg hne]; exact h z hz

theorem State.OrderPowered.unpower {w : ZoneId} {s : State} (h : s.OrderPowered) (st : ZoneState) :
    (s.unpower w st).OrderPowered := fun z hz => by
  obtain ⟨h1, h2⟩ := (mem_unpower_order s w z st).1 hz
  rw [unpower_zone_ne _ _ _ _ h2]; exact h z h1

theorem State.OrderPowered.reblockZone {s : State} (h : s.OrderPowered) (w : ZoneId) : (s.reblockZone w).OrderPowered := by
  unfold State.reblockZone; split
  · exact h
  · split
    · exact h.unpower _
    · exact h
  · next hw =>
    split
    · exact h.setZone (w := w) (by rw [hw]; nofun) fun x => { x with state := .blocked }
    · exact h
  · next hw =>
    split
    · exact h
    · exact h.setZone (w := w) (by rw [hw]; nofun) fun x => { x with state := .waiting }

theorem State.OrderPowered.reblock {s : State} (h : s.OrderPowered) (ws : List ZoneId) :
    (ws.foldl State.reblockZone s).OrderPowered := by
  induction ws generalizing s with
  | nil => exact h
  | cons w ws ih => exact ih (h.reblockZone w)

theorem State.OrderPowered.reblockAll {s : State} (h : s.OrderPowered) : s.reblockAll.OrderPowered := by
  have h1 := h.reblock allZones
  unfold State.reblockAll
  generalize allZones.foldl State.reblockZone s = u at h1 ⊢
  exact h1

theorem State.OrderPowered.answerBlock {s : State} (h : s.OrderPowered) (d : DishId) (b : Bool) :
    (s.answerBlock d b).OrderPowered := by
  have h1 : (s.reblockDish d).OrderPowered := h.reblock _
  unfold State.answerBlock; dsimp only
  generalize s.reblockDish d = u at h1 ⊢
  split <;> exact h1

theorem State.OrderPowered.checkStowedHold {s : State} (h : s.OrderPowered) : s.checkStowedHold.OrderPowered := by
  have h2 := (h.touch (touches_setStowState s .stowedHold) (by simp)).reblockAll
  unfold State.checkStowedHold; dsimp only
  split
  · split
    · exact h2.touch (touches_enterCalmWait _) (by simp)
    · exact h2
  · exact h

theorem State.OrderPowered.markDish {s : State} (h : s.OrderPowered) (d : DishId) (m : StowMark) (why : Detail) :
    (s.markDish d m why).OrderPowered := by
  have ht : Touches [.stow] s (s.marked d m why) := 
    (((touches_unqueue s d).trans (touches_setMove _ d none)).trans (touches_setMark _ d m)).raise _ _
  exact (h.touch ht (by simp)).checkStowedHold

theorem State.OrderPowered.rejoinTail {s : State} (h : s.OrderPowered) (d : DishId) : (s.rejoinTail d).OrderPowered := by
  have h1 := h.touch ((touches_setMark s d .none).trans (touches_joinQueue _ d)) (by simp)
  unfold State.rejoinTail; dsimp only
  split
  · exact (h1.touch (touches_setStowState _ .active) (by simp)).reblockAll
  · exact h1

theorem State.OrderPowered.rejoinUnreachable {s : State} (h : s.OrderPowered) (d : DishId) :
    (s.rejoinUnreachable d).OrderPowered := by
  unfold State.rejoinUnreachable; split
  · split
    · exact h.touch (touches_setMark _ _ _) (by simp)
    · exact h.rejoinTail d
  · exact h

/-- A zone judged under a block condition is shut. -/
theorem reblockZone_shuts {w : ZoneId} (h : s.OrderPowered) (hb : s.blocks w.dish = true) : (s.reblockZone w).Shut w := by
  have hout : (s.zone w).state ≠ .powered → w ∉ s.feeder.powerOrder.map (·.zone) := fun hne hm => hne (h w hm)
  unfold State.reblockZone; rw [hb]
  split
  · next hw => exact ⟨.inl hw, hout (by rw [hw]; nofun)⟩
  · refine ⟨(unpower_zone_self _ _ _).symm, fun hm => ?_⟩
    exact ((mem_unpower_order s w w .blocked).1 hm).2 rfl
  · next hw =>
    refine ⟨.inr ?_, hout (by rw [hw]; nofun)⟩
    change ((s.setZone w fun x => { x with state := .blocked }).zone w).state = _
    rw [setZone_zone, if_pos rfl]
  · next hw => exact ⟨.inr hw, hout (by rw [hw]; nofun)⟩

/-- A zone shut stays so while a block condition of its dish holds. -/
theorem reblockZone_shut {w : ZoneId} (hz : s.Shut z) (hb : s.blocks w.dish = true) : (s.reblockZone w).Shut z := by
  by_cases he : z = w
  · subst he
    unfold State.reblockZone; rw [hb]
    rcases hz.1 with e | e <;> rw [e] <;> exact hz
  · have hset : ∀ f, ((s.setZone w f).askScan).Shut z := fun f => by
      refine ⟨?_, hz.2⟩
      have : (s.setZone w f).zone z = s.zone z := by rw [setZone_zone, if_neg he]
      exact this ▸ hz.1
    unfold State.reblockZone; rw [hb]
    split
    · exact hz
    · exact hz.unpower he _
    · exact hset _
    · exact hz

theorem reblock_shuts (ws : List ZoneId) (s : State) (hws : ∀ w ∈ ws, w.dish = d) (h : s.OrderPowered)
    (hsw : (s.dish d).switchLock = true) (hz : z ∈ ws ∨ s.Shut z) : (ws.foldl State.reblockZone s).Shut z := by
  induction ws generalizing s with
  | nil => exact hz.resolve_left (by simp)
  | cons w ws ih =>
    have hb : s.blocks w.dish = true := by rw [hws w List.mem_cons_self]; exact blocks_of_switchLock hsw
    refine ih _ (fun x hx => hws x (List.mem_cons_of_mem _ hx)) (h.reblockZone w)
      (by rw [(within_reblockZone s w).switchLock_eq]; exact hsw) ?_
    rcases hz with hz | hz
    · rcases List.mem_cons.1 hz with rfl | hz
      · exact .inr (reblockZone_shuts h hb)
      · exact .inl hz
    · exact .inr (reblockZone_shut hz hb)

/-- The zones of a dish whose switch has been set are shut once they have been judged (R132, R152). -/
theorem answerBlock_shuts (h : s.OrderPowered) (hsw : (s.dish d).switchLock = true) (b : Bool) :
    ShutDish d (s.answerBlock d b) := by
  refine ⟨by rw [(within_answerBlock s d b).switchLock_eq]; exact hsw, fun z hz => ?_⟩
  have hr : (s.reblockDish d).Shut z :=
    reblock_shuts (zonesOf d) s (fun w hw => zonesOf_dish hw) h hsw (.inl (mem_zonesOf.2 hz))
  unfold State.answerBlock; dsimp only
  generalize s.reblockDish d = u at hr ⊢
  split <;> exact hr

end

end Sys2Proof.Machine
end

section
/-! The state rules for a report with code 0 (R13 to R17), and the return of an UNREACHABLE dish to the stow (R109). -/

namespace Sys2Proof.Machine

section
variable {s t u v : State} {d : DishId} {former : Bool}

/-! ## Who may rejoin the stow (R109) -/

theorem rejoins_iff {x : StowState} : x.rejoins = true ↔ x = .active ∨ x = .stowedHold := by
  cases x <;> simp [StowState.rejoins]

/-- A dish that bears no mark stays out of the stow's answers. -/
theorem staysOut_of_none (h : s.mark d = .none) : s.StaysOut d := .inl (by rw [h]; nofun)

theorem staysOut_of_not_inForce (h : s.stowInForce = false) : s.StaysOut d := .inr (rejoins_false_of_not_inForce h)

theorem State.StaysOut.of_stow (h : s.StaysOut d) (ht : t.stow = s.stow) : t.StaysOut d := by
  unfold State.StaysOut State.mark; rw [ht]; exact h

theorem joinQueue_stow (s : State) (d : DishId) : (s.joinQueue d).stow =
    { s.stow with queue := if s.queued d then s.stow.queue else s.stow.queue ++ [d] } :=
  Touches.stow (ps := []) (touches_ite (touches_raiseConflict _ d [] .queued) (.refl _ _)) (by simp)

/-- The stow with a dish come back to its queue's tail. -/
theorem rejoinTail_stow (hr : s.stow.state.rejoins = true) : (s.rejoinTail d).mark d = .none
    ∧ (s.queued d = false → (s.rejoinTail d).stow.queue = s.stow.queue ++ [d]) ∧ (s.rejoinTail d).stow.state = .active := by
  have hjoin := joinQueue_stow (s.setMark d .none) d
  have hqueue : s.queued d = false → ((s.setMark d .none).joinQueue d).stow.queue = s.stow.queue ++ [d] := fun hq => by
    rw [hjoin]; exact if_neg (by rw [show (s.setMark d .none).queued d = false from hq]; simp)
  have hm : ((s.setMark d .none).joinQueue d).mark d = .none := by
    unfold State.mark; rw [hjoin]; exact (set_get _ _ _ _).trans (if_pos rfl)
  have hst : ((s.setMark d .none).joinQueue d).stow.state = s.stow.state := by rw [hjoin]; rfl
  unfold State.rejoinTail; dsimp only
  generalize (s.setMark d .none).joinQueue d = w at hqueue hm hst ⊢
  split
  · obtain ⟨k1, k2, -⟩ := setStowState_records w .active
    unfold State.mark at hm ⊢
    rw [reblockAll_stow, k1, k2, setStowState_state]
    exact ⟨hm, hqueue, rfl⟩
  · next hne => exact ⟨hm, hqueue, (rejoins_iff.1 (hst ▸ hr)).resolve_right hne⟩

theorem rejoinUnreachable_tail (hm : s.mark d = .unreachable) (hr : s.stow.state.rejoins = true)
    (hd : (s.dish d).motion = .idle ∨ (s.dish d).motion = .stopping) (hl : s.moveLocked d = false) :
    s.rejoinUnreachable d = s.rejoinTail d := by
  unfold State.rejoinUnreachable; rw [if_pos ⟨hm, hr, hd⟩, hl]; rfl

theorem rejoinUnreachable_locked (hm : s.mark d = .unreachable) (hr : s.stow.state.rejoins = true)
    (hd : (s.dish d).motion = .idle ∨ (s.dish d).motion = .stopping) (hl : s.moveLocked d = true) :
    s.rejoinUnreachable d = s.setMark d .blocked := by
  unfold State.rejoinUnreachable; rw [if_pos ⟨hm, hr, hd⟩, hl]; rfl

/-- A dish back at the tail of the Stow Queue is there after the rounds, or has been taken to its stow (R105, R109). -/
theorem atTail_settled (hq : s.queued d = false) (hm : v.mark d = .none) (hqueue : v.stow.queue = s.stow.queue ++ [d])
    (hst : v.stow.state = .active) :
    v.settle.mark d = .none ∧ AtTail d s.stow.queue (v.dish d).motion v.settle := by
  have hnot : d ∉ s.stow.queue := by simpa [State.queued] using hq
  refine ⟨?_, (roundKeeps_atTail hnot).settle ⟨s.stow.queue, List.Sublist.refl _, .inl ⟨hqueue, hst, rfl⟩⟩⟩
  unfold State.mark; rw [(spares_settle v).marks]; exact hm

/-- A BLOCKED dish stays marked and out of the queue. -/
theorem blocked_settled (hq : v.queued d = false) (hm : v.mark d = .blocked) :
    v.settle.mark d = .blocked ∧ v.settle.queued d = false := by
  refine ⟨?_, (roundKeeps_notQueued d).settle hq⟩
  unfold State.mark; rw [(spares_settle v).marks]; exact hm

/-! ## The rules, motion by motion -/

/-- A change of zones alone, as the end of a block condition brings it (R132). -/
def ZonesOnly (s t : State) : Prop := Touches heatBlock s t ∧ Within s t

theorem ZonesOnly.refl (s : State) : ZonesOnly s s := ⟨.refl _ s, .refl s⟩

theorem zonesOnly_answerBlock (s : State) (d : DishId) (b : Bool) : ZonesOnly s (s.answerBlock d b) :=
  ⟨touches_answerBlock _ _ _, within_answerBlock _ _ _⟩

theorem ZonesOnly.core (h : ZonesOnly s t) (d : DishId) : t.core d = s.core d := h.1.core_eq (by simp)

theorem ZonesOnly.stow (h : ZonesOnly s t) : t.stow = s.stow := h.1.stow (by simp)

theorem State.Idles.zones (h : s.Idles d) (hz : ZonesOnly s t) : t.Idles d := h.of_same (hz.core d) (hz.2.moveLocked_eq d)

theorem reportStop_core (s : State) (d : DishId) :
    (s.reportStop d).core d = ({ s.dish d with motion := .stopping }, .stop, none) := by
  unfold State.reportStop; rw [(touches_rejoinUnreachable _ _).core_eq (by simp), stopDish_core]

/-- The dish found moving, or not braked, on its first report (R13, R17). -/
theorem stateRules_stops (hm : (s.dish d).motion = .unknown ∨ (s.dish d).motion = .offline) (hs : (s.dish d).brakedStill = false) :
    ZonesOnly (s.reportStop d) (s.stateRules d) := by
  unfold State.stateRules; dsimp only
  rcases hm with h | h <;> rw [h] <;> dsimp only <;> rw [if_neg (by simp [hs])]
  · exact .refl _
  · exact zonesOnly_answerBlock _ _ _

/-- The dish found braked and still (R13 to R15, R17). -/
theorem stateRules_rests (hm : (s.dish d).motion = .unknown ∨ (s.dish d).motion = .stopping ∨ (s.dish d).motion = .fault
    ∨ (s.dish d).motion = .offline) (hs : (s.dish d).brakedStill = true) :
    ZonesOnly (s.reportIdle d) (s.stateRules d) := by
  unfold State.stateRules; dsimp only
  rcases hm with h | h | h | h <;> rw [h] <;> dsimp only <;> rw [if_pos hs]
  · exact .refl _
  · exact .refl _
  · exact .refl _
  · exact zonesOnly_answerBlock _ _ _

theorem stateRules_waits (hm : (s.dish d).motion = .stopping ∨ (s.dish d).motion = .fault) (hs : (s.dish d).brakedStill = false) :
    s.stateRules d = s := by
  unfold State.stateRules; dsimp only
  rcases hm with h | h <;> rw [h] <;> dsimp only <;> rw [if_neg (by simp [hs])]

theorem stateRules_idle (hm : (s.dish d).motion = .idle) :
    s.stateRules d = if (s.dish d).moving then s.stopDish d else s := by
  unfold State.stateRules; dsimp only; rw [hm]

theorem stateRules_stowed (hm : (s.dish d).motion = .stowed) : s.stateRules d =
    if (s.dish d).moving then s.writeStop d
    else if (s.dish d).brakedStill ∧ s.slot d = .stop then s.writeHoldBrake d else s := by
  unfold State.stateRules; dsimp only; rw [hm]

/-- A dish on an order, a stow or a shed move is left to the blocks. -/
theorem stateRules_moving (hm : (s.dish d).motion = .engaged ∨ (s.dish d).motion = .stowing ∨ (s.dish d).motion = .shedding) :
    s.stateRules d = s := by
  unfold State.stateRules; dsimp only
  rcases hm with h | h | h <;> rw [h]

/-- Locks and the rejoining of the stow meet only in an UNREACHABLE, lock-requested dish (log 5). -/
theorem reportIdle_plain (h : s.mark d ≠ .unreachable ∨ s.lockRequested d = false) : s.reportIdle d = s.enterIdle d := by
  unfold State.reportIdle
  rw [if_neg]
  unfold State.lockMeetsRejoin
  rcases h with h | h <;> simp [h]

/-! ## Answers, for an unmarked dish -/

theorem reportStop_plain (h : s.mark d ≠ .unreachable) : s.reportStop d = s.stopDish d := by
  have hs := (touches_stopDish s d).stow (by simp)
  exact rejoinUnreachable_none (.inl (by unfold State.mark; rw [hs]; exact h))

/-- A dish braked and still that is not UNREACHABLE rests in IDLE (R13 to R15, R17). -/
theorem stateRules_idles (hm : (s.dish d).motion = .unknown ∨ (s.dish d).motion = .stopping ∨ (s.dish d).motion = .fault
    ∨ (s.dish d).motion = .offline) (hs : (s.dish d).brakedStill = true) (hne : s.mark d ≠ .unreachable) :
    ZonesOnly (s.atIdle d) (s.stateRules d) := by
  have h := stateRules_rests hm hs
  rwa [reportIdle_plain (.inl hne), enterIdle_plain (.inl hne)] at h

theorem nobody_zones (hn : NobodyAdmitted s) (hi : Touches [.dish d] s u) (hw : Within s u) (hz : ZonesOnly u v) :
    NobodyAdmitted v := by
  have ht : Touches [.dish d, .heat, .block] s v := (hi.mono (by simp)).after hz.1 (by simp)
  refine hn.of_same (by rw [ht.stow (by simp)]; exact hn.1) (by rw [ht.orders]) ht.listed (fun g e => ?_)
    (by rw [(hw.trans hz.2).locks_eq])
  rwa [(ht.group g (by simp)).1] at e

/-! ## Zones of a dish that no condition blocks -/

theorem blocks_false_of (hl : s.appliedHeat d = 0) (hsw : (s.dish d).switchLock = false) (hc : s.censusDone = true)
    (hst : s.stow.state ≠ .active) (hm : (s.dish d).motion ≠ .offline) : s.blocks d = false := by
  simp [State.blocks, State.heatLocked, hl, hsw, hc, hst, hm]

theorem moveLockEnded_dish (s : State) (d : DishId) : (s.moveLockEnded d).dish d = s.dish d := by
  have h := (core_eq (switchClear_core s d)).1
  change ((s.moveLockEnded d).answerBlock d (s.heatBySwitch d)).dish d = _ at h
  rwa [((touches_answerBlock _ _ _).dish d (by simp)).1] at h

theorem touches_moveLockEnded_plain (h : s.StaysOut d) : Touches [.dish d] s (s.moveLockEnded d) := by
  have hput : Touches [.dish d] s (if (s.dish d).motion = .idle then s.putSlot d .keep else s) :=
    touches_ite (touches_putSlot s d .keep) (.refl _ s)
  have hst := hput.stow (by simp)
  unfold State.moveLockEnded
  generalize (if (s.dish d).motion = .idle then s.putSlot d .keep else s) = w at hput hst ⊢
  have hnone : w.rejoinBlocked d = w := rejoinBlocked_none (h.of_stow hst)
  rw [hnone]
  exact touches_ite (.refl _ s) hput

/-- The zones of a dish whose switch no longer blocks them are not BLOCKED (R132, R153). -/
theorem switchClear_unblocks (hb : s.blocks d = false) (hs : s.StaysOut d) {z : ZoneId} (hz : z.dish = d) :
    ((s.switchClear d).zone z).state ≠ .blocked := by
  have ht := touches_moveLockEnded_plain hs
  have hw := within_moveLockEnded s d
  refine answerBlock_unblocks (s := s.moveLockEnded d) ?_ hz (s.heatBySwitch d)
  rw [← hb]
  unfold State.blocks State.heatLocked
  rw [moveLockEnded_dish, ht.stow (by simp), hw.appliedHeat_eq, hw.censusDone_eq]

end

end Sys2Proof.Machine
end

section
/-! What a report with code 0 leaves of a dish in no group, motion state by motion state (R13 to R17, R109, R132). -/

namespace Sys2Proof.Machine

section
variable {s v a : State} {d : DishId} {former : Bool}

/-! ## Stopped, waiting, stowed -/

/-- A dish that the state rules leave neither at the call of rounds nor on a move. -/
theorem answered_core {x : Dish} {c : Command} {n : Option Reservation} (h : v.core d = (x, c, n)) (hg : x.group = none)
    (hm : x.motion = .stopping ∨ x.motion = .fault ∨ x.motion = .stowed) :
    (v.answers d former).settle.core d = (x, c, n) := by
  have hd := (core_eq h).1
  have hstate : x.motion.atCall = false ∧ x.motion ≠ .stowing ∧ x.motion ≠ .shedding := by
    rcases hm with e | e | e <;> rw [e] <;> exact ⟨rfl, nofun, nofun⟩
  rw [← hd] at hg hstate
  obtain ⟨hcall, h1, h2⟩ := hstate
  rw [answers_settled_core hg hcall h1 h2, h]

/-- The first report of a dish that is not braked and still stops it (R13, R17). -/
theorem stops_answered (hg : (s.dish d).group = none) (hm : (s.dish d).motion = .unknown ∨ (s.dish d).motion = .offline)
    (hs : (s.dish d).brakedStill = false) : ((s.stateRules d).answers d former).settle.core d =
      ({ s.dish d with motion := .stopping }, .stop, none) :=
  answered_core (((stateRules_stops hm hs).core d).trans (reportStop_core s d)) hg (.inl rfl)

/-- A dish that has not yet stopped, or is not yet braked after a fault, stays as it is (R14, R15). -/
theorem waits_answered (hg : (s.dish d).group = none) (hm : (s.dish d).motion = .stopping ∨ (s.dish d).motion = .fault)
    (hs : (s.dish d).brakedStill = false) : ((s.stateRules d).answers d former).settle.core d = s.core d := by
  rw [stateRules_waits hm hs]
  exact answered_core rfl hg (hm.imp id .inl)

/-- An IDLE dish seen moving is stopped (R13). -/
theorem idleMoving_answered (hg : (s.dish d).group = none) (hm : (s.dish d).motion = .idle) (hmv : (s.dish d).moving = true) :
    ((s.stateRules d).answers d former).settle.core d = ({ s.dish d with motion := .stopping }, .stop, none) := by
  rw [stateRules_idle hm, if_pos hmv]
  exact answered_core (stopDish_core s d) hg (.inl rfl)

/-- A STOWED dish gets STOP while it moves, and HOLD BRAKE once it has braked again (R13). -/
theorem stowed_answered (hg : (s.dish d).group = none) (hm : (s.dish d).motion = .stowed) :
    ((s.stateRules d).answers d former).settle.core d =
      if (s.dish d).moving then (s.dish d, .stop, none)
      else if (s.dish d).brakedStill ∧ s.slot d = .stop then (s.dish d, .holdBrake, s.feeder.reservations[d]) else s.core d := by
  rw [stateRules_stowed hm]
  split
  · exact answered_core (writeStop_core s d) hg (.inr (.inr hm))
  · split
    · exact answered_core (writeHoldBrake_core s d) hg (.inr (.inr hm))
    · exact answered_core rfl hg (.inr (.inr hm))

/-! ## Entry to IDLE -/

/-- A dish braked and still that bears no mark is left in IDLE, where nobody is admitted (R13 to R15, R17). -/
theorem rests_answered (hg : (s.dish d).group = none)
    (hm : (s.dish d).motion = .unknown ∨ (s.dish d).motion = .stopping ∨ (s.dish d).motion = .fault ∨ (s.dish d).motion = .offline)
    (hs : (s.dish d).brakedStill = true) (hmark : s.mark d = .none) (hn : NobodyAdmitted s) :
    ((s.stateRules d).answers d former).settle.Idles d := by
  have hz := stateRules_idles hm hs (by rw [hmark]; nofun)
  have hv : (s.stateRules d).Idles d := (atIdle_idles hg).zones hz
  obtain ⟨hi, hvg, -⟩ := id hv
  refine hv.answers.settle (answers_nobody (nobody_zones hn (touches_atIdle s d) (within_atIdle s d) hz) hvg
    (by rw [hi]; nofun) (by rw [hi]; nofun) fun _ => ?_)
  exact (staysOut_of_none hmark).of_stow (hz.stow.trans ((touches_atIdle s d).stow (by simp)))

/-! ## The heat block of a dish OFFLINE (R132) -/

/-- The rules for a dish OFFLINE judge its zones after it has left OFFLINE. -/
theorem stateRules_offline (hm : (s.dish d).motion = .offline) (hmark : s.mark d = .none) :
    ∃ w, s.stateRules d = w.answerBlock d true ∧ Touches [.dish d] s w ∧ Within s w ∧ (w.dish d).group = (s.dish d).group
      ∧ ((w.dish d).motion = .idle ∨ (w.dish d).motion = .stopping) := by
  have hne : s.mark d ≠ .unreachable := by rw [hmark]; nofun
  unfold State.stateRules; dsimp only; rw [hm]
  refine ⟨_, rfl, ?_⟩
  rw [reportIdle_plain (.inl hne), enterIdle_plain (.inl hne), reportStop_plain hne]
  split
  · obtain ⟨h, -, -⟩ := core_eq (atIdle_core s d)
    exact ⟨touches_atIdle s d, within_atIdle s d, by rw [h]; rfl, by rw [h]; exact .inl rfl⟩
  · obtain ⟨h, -, -⟩ := core_eq (stopDish_core s d)
    exact ⟨touches_stopDish s d, within_stopDish s d, by rw [h], by rw [h]; exact .inr rfl⟩

/-- A dish heard again after its loss has no zone BLOCKED, where nothing else blocks it (R132). -/
theorem offline_answered (hg : (s.dish d).group = none) (hm : (s.dish d).motion = .offline) (hsw : (s.dish d).switchLock = false)
    (hl : s.lockRequested d = false) (hh : s.appliedHeat d = 0) (hc : s.censusDone = true) (hst : s.stow.state ≠ .active)
    (hmark : s.mark d = .none) {z : ZoneId} (hz : z.dish = d) :
    (((s.stateRules d).answers d former).settle.zone z).state ≠ .blocked := by
  obtain ⟨w, hrules, ht, hw, hwg, hwm⟩ := stateRules_offline hm hmark
  have hblock : w.blocks d = false := blocks_false_of (by rw [hw.appliedHeat_eq]; exact hh)
    (by rw [hw.switchLock_eq]; exact hsw) (by rw [hw.censusDone_eq]; exact hc) (by rw [ht.stow (by simp)]; exact hst)
    (by rcases hwm with e | e <;> rw [e] <;> nofun)
  have hzv : ((s.stateRules d).zone z).state ≠ .blocked := by rw [hrules]; exact answerBlock_unblocks hblock hz true
  have hz0 : ZonesOnly w (s.stateRules d) := by rw [hrules]; exact zonesOnly_answerBlock _ _ _
  generalize s.stateRules d = v at hzv hz0 ⊢
  have hvd := (core_eq (hz0.core d)).1
  have hvs : v.stow = s.stow := hz0.stow.trans (ht.stow (by simp))
  have hwithin := hw.trans hz0.2
  have hmot : (v.dish d).motion ≠ .stowing ∧ (v.dish d).motion ≠ .shedding := by
    rw [hvd]; rcases hwm with e | e <;> rw [e] <;> exact ⟨nofun, nofun⟩
  have hvb : v.blocks d = false := blocks_false_of (by rw [hwithin.appliedHeat_eq]; exact hh)
    (by rw [hwithin.switchLock_eq]; exact hsw) (by rw [hwithin.censusDone_eq]; exact hc) (by rw [hvs]; exact hst)
    (by rw [hvd]; rcases hwm with e | e <;> rw [e] <;> nofun)
  have hout : v.StaysOut d := (staysOut_of_none hmark).of_stow hvs
  refine ((roundKeeps_unblocked z).settle ?_).2
  rw [answers_at_rest (by rw [hvd, hwg]; exact hg) hmot.1 hmot.2,
    lockReport_of_unrequested (by rw [hwithin.lockRequested_eq]; exact hl)]
  have hsame : (v.dish d).switchLock = false := by rw [hwithin.switchLock_eq]; exact hsw
  cases former
  · rw [switchReport_same hsame]; exact ⟨by rw [hvs]; exact hst, hzv⟩
  · rw [switchReport_clear hsame]
    exact ⟨by rw [(touches_switchClear_plain hout).stow (by simp), hvs]; exact hst, switchClear_unblocks hvb hout hz⟩

/-! ## UNREACHABLE dishes (R109) -/

/-- The rules make a dish STOPPING or IDLE, which the stow then answers: the state before and what is left after it. -/
def Reappears (s : State) (d : DishId) (m : Motion) : Prop :=
  ∃ a, ZonesOnly (a.rejoinUnreachable d) (s.stateRules d) ∧ Touches [.dish d] s a ∧ Within s a
    ∧ (a.dish d).motion = m ∧ (a.dish d).group = (s.dish d).group

theorem reappears_stopping (hm : (s.dish d).motion = .unknown ∨ (s.dish d).motion = .offline)
    (hs : (s.dish d).brakedStill = false) : Reappears s d .stopping := by
  obtain ⟨h, -, -⟩ := core_eq (stopDish_core s d)
  exact ⟨s.stopDish d, stateRules_stops hm hs, touches_stopDish s d, within_stopDish s d, by rw [h], by rw [h]⟩

theorem reappears_idle (hm : (s.dish d).motion = .unknown ∨ (s.dish d).motion = .stopping ∨ (s.dish d).motion = .fault
    ∨ (s.dish d).motion = .offline) (hs : (s.dish d).brakedStill = true) (hl : s.lockRequested d = false) :
    Reappears s d .idle := by
  obtain ⟨h, -, -⟩ := core_eq (atIdle_core s d)
  have hz := stateRules_rests hm hs
  rw [reportIdle_plain (.inr hl), enterIdle_eq] at hz
  exact ⟨s.atIdle d, hz, touches_atIdle s d, within_atIdle s d, by rw [h]; rfl, by rw [h]; rfl⟩

/-- Nothing else answers the report of a dish that reappears unlocked, its switch as it was. -/
theorem Reappears.answers {m : Motion} (h : Reappears s d m) (hm : m = .stopping ∨ m = .idle) (hg : (s.dish d).group = none)
    (hl : s.lockRequested d = false) (hsw : (s.dish d).switchLock = former) : (s.stateRules d).answers d former = s.stateRules d := by
  obtain ⟨a, hz, -, hw, ham, hag⟩ := h
  have hd : (s.stateRules d).dish d = a.dish d :=
    (core_eq (hz.core d)).1.trans ((touches_rejoinUnreachable a d).dish d (by simp)).1
  have hwithin : Within s (s.stateRules d) := hw.trans ((within_rejoinUnreachable a d).trans hz.2)
  have hmot : ((s.stateRules d).dish d).motion ≠ .stowing ∧ ((s.stateRules d).dish d).motion ≠ .shedding := by
    rw [hd, ham]; rcases hm with e | e <;> rw [e] <;> exact ⟨nofun, nofun⟩
  rw [answers_at_rest (by rw [hd, hag]; exact hg) hmot.1 hmot.2,
    lockReport_of_unrequested (by rw [hwithin.lockRequested_eq]; exact hl),
    switchReport_same (by rw [hwithin.switchLock_eq]; exact hsw)]

section
variable {m : Motion}

/-- The dish that rejoins in ACTIVE or STOWED_HOLD (R109). -/
theorem Reappears.rejoins (h : Reappears s d m) (hm : m = .stopping ∨ m = .idle) (hmark : s.mark d = .unreachable)
    (hq : s.queued d = false) (hr : s.stow.state.rejoins = true) (hl : s.moveLocked d = false) :
    (s.stateRules d).settle.mark d = .none ∧ AtTail d s.stow.queue m (s.stateRules d).settle := by
  obtain ⟨a, hz, ht, hw, ham, -⟩ := h
  have has := ht.stow (by simp)
  have hamark : a.mark d = .unreachable := by unfold State.mark; rw [has]; exact hmark
  have htail : a.rejoinUnreachable d = a.rejoinTail d := rejoinUnreachable_tail hamark (by rw [has]; exact hr)
    (by rw [ham]; exact hm.symm) (by rw [hw.moveLocked_eq]; exact hl)
  have hd : ((s.stateRules d).dish d).motion = m := by
    rw [(core_eq (hz.core d)).1, ((touches_rejoinUnreachable a d).dish d (by simp)).1, ham]
  obtain ⟨k1, k2, k3⟩ := rejoinTail_stow (s := a) (d := d) (by rw [has]; exact hr)
  have hst : (s.stateRules d).stow = (a.rejoinTail d).stow := by rw [hz.stow, htail]
  have k2' := k2 (by unfold State.queued; rw [has]; exact hq)
  rw [← hd]
  exact atTail_settled hq (by unfold State.mark at k1 ⊢; rw [hst]; exact k1) (by rw [hst, k2', has]) (by rw [hst]; exact k3)

/-- The dish that is move-locked is marked BLOCKED (R109). -/
theorem Reappears.blocked (h : Reappears s d m) (hm : m = .stopping ∨ m = .idle) (hmark : s.mark d = .unreachable)
    (hq : s.queued d = false) (hr : s.stow.state.rejoins = true) (hl : s.moveLocked d = true) :
    (s.stateRules d).settle.mark d = .blocked ∧ (s.stateRules d).settle.queued d = false := by
  obtain ⟨a, hz, ht, hw, ham, -⟩ := h
  have has := ht.stow (by simp)
  have hamark : a.mark d = .unreachable := by unfold State.mark; rw [has]; exact hmark
  have hset : a.rejoinUnreachable d = a.setMark d .blocked := rejoinUnreachable_locked hamark (by rw [has]; exact hr)
    (by rw [ham]; exact hm.symm) (by rw [hw.moveLocked_eq]; exact hl)
  have hst : (s.stateRules d).stow = { s.stow with marks := s.stow.marks.set d .blocked } := by
    rw [hz.stow, hset, ← has]; rfl
  refine blocked_settled ?_ ?_
  · unfold State.queued; rw [hst]; exact hq
  · unfold State.mark; rw [hst]; exact (set_get _ _ _ _).trans (if_pos rfl)

/-- In a state in which no dish rejoins, its mark and the stow stay (R109; log 44). -/
theorem Reappears.keeps (h : Reappears s d m) (hst : s.stow.state = .calmWait) :
    (s.stateRules d).settle.stow = s.stow := by
  obtain ⟨a, hz, ht, -⟩ := h
  have has := ht.stow (by simp)
  have hnone : a.rejoinUnreachable d = a := rejoinUnreachable_none (.inr (by rw [has, hst]; rfl))
  have hv : (s.stateRules d).stow = s.stow := by rw [hz.stow, hnone, has]
  rw [(spares_settle _).stow (by rw [hv, hst]; nofun), hv]

/-- A dish stopped so stays last in the queue (R109). -/
theorem AtTail.of_stopping {q : List DishId} (h : AtTail d q .stopping s) (hm : (s.dish d).motion = .stopping) :
    s.stow.state = .active ∧ ∃ p, p.Sublist q ∧ s.stow.queue = p ++ [d] := by
  obtain ⟨p, hp, ⟨h1, h2, -⟩ | ⟨-, h2⟩⟩ := h
  · exact ⟨h2, p, hp, h1⟩
  · rw [hm] at h2; rcases h2 with e | e <;> cases e

end

end

end Sys2Proof.Machine
end

section
/-! A report of a member of a braked group: seen moving it is stopped, and seen braked and still it returns (R53, R54). -/

namespace Sys2Proof.Machine

section
variable {s : State} {d : DishId} {g : SlotId} {former : Bool}

/-- A member with its braked mark. -/
def Group.brake (x : Group) (d : DishId) (b : Bool) : Group := x.setMember d fun m => { m with braked := b }

theorem mem_brake_activeDishes (x : Group) (d e : DishId) (b : Bool) : e ∈ (x.brake d b).activeDishes ↔ e ∈ x.activeDishes := by
  rw [mem_activeDishes, mem_activeDishes, Group.brake, setMember_members]
  constructor
  · rintro ⟨m', hm', ha, hd⟩
    obtain ⟨m, hm, rfl⟩ := List.mem_map.1 hm'
    refine ⟨m, hm, ?_, ?_⟩ <;> split at ha <;> split at hd <;> assumption
  · rintro ⟨m, hm, ha, hd⟩
    refine ⟨_, List.mem_map_of_mem hm, ?_, ?_⟩ <;> split <;> assumption

/-- A group whose dishes brake: POSITIONED, HELD or waiting to resume. -/
def GroupState.brakes (x : GroupState) : Prop := x = .positioned ∨ x = .held ∨ x = .resumeWait

/-! ## A member seen moving (R54) -/

theorem groupReport_moving (hg : (s.dish d).group = some g) (hx : (s.group g).state.brakes) (hm : (s.dish d).moving = true) :
    s.groupReport d = s.stopBraked g d := by
  unfold State.groupReport; rw [hg]; dsimp only
  rcases hx with h | h | h <;> rw [h] <;> exact if_pos hm

theorem stopBraked_core (s : State) (g : SlotId) (d : DishId) :
    (s.stopBraked g d).core d = ({ s.dish d with motion := .stopping }, .stop, none) := by
  unfold State.stopBraked; rw [(touches_setMember _ _ _ _).core_eq (by simp), stopDish_core]

theorem stopBraked_group (s : State) (g : SlotId) (d : DishId) : (s.stopBraked g d).group g = (s.group g).brake d false := by
  unfold State.stopBraked
  rw [← ((touches_stopDish s d).group g (by simp)).1]
  exact setGroup_group_self _ _ _

theorem brakedMoving_answered (hg : (s.dish d).group = some g) (hd : d ∈ (s.group g).activeDishes)
    (hx : (s.group g).state.brakes) (hm : (s.dish d).motion = .engaged) (hmv : (s.dish d).moving = true)
    (hsw : (s.dish d).switchLock = former) :
    ((s.stateRules d).answers d former).settle.group g = (s.group g).brake d false
      ∧ ((s.stateRules d).answers d former).settle.core d = ({ s.dish d with motion := .stopping }, .stop, none) := by
  have hcore := stopBraked_core s g d
  have hgroup := stopBraked_group s g d
  have hmot : ((s.stopBraked g d).dish d).motion = .stopping := by rw [(core_eq hcore).1]
  have hans : (s.stateRules d).answers d former = s.stopBraked g d := by
    rw [stateRules_moving (.inl hm)]
    unfold State.answers
    rw [lockReport_of_unsettled (by simp [Dish.brakedStill, hmv]), switchReport_same hsw, groupReport_moving hg hx hmv,
      stowReport_other (by rw [hmot]; nofun), shedReport_other (by rw [hmot]; nofun)]
  rw [hans]
  refine ⟨?_, (settle_core (by rw [hmot]; rfl)).trans hcore⟩
  by_cases hw : (s.group g).state = .resumeWait
  · exact ((roundKeeps_barredGroup (g := g) (x := (s.group g).brake d false) (d := d) hw
      ((mem_brake_activeDishes _ _ _ _).2 hd) rfl).settle (s := s.stopBraked g d) ⟨hgroup, hmot⟩).1
  · rw [((spares_settle _).group g ?_).1, hgroup]
    rw [hgroup]
    change (s.group g).state.atCall = false
    rcases hx with h | h | h
    · rw [h]; rfl
    · rw [h]; rfl
    · exact absurd h hw

/-! ## A member seen braked and still again (R14, R53) -/

/-- A member back in its group, before the group is judged. -/
def State.backInGroup (s : State) (g : SlotId) (d : DishId) : State :=
  ((s.setMotion d .engaged).writeHoldBrake d).setMember g d fun m => { m with braked := true }

theorem returnMember_eq (s : State) (g : SlotId) (d : DishId) : s.returnMember g d = (s.backInGroup g d).judgeGroup g := rfl

theorem groupReport_returns (hg : (s.dish d).group = some g) (hx : (s.group g).state = .holding ∨ (s.group g).state.brakes)
    (hm : (s.dish d).moving = false) (hi : (s.dish d).motion = .idle) : s.groupReport d = s.returnMember g d := by
  unfold State.groupReport; rw [hg]; dsimp only
  rcases hx with h | h | h | h <;> rw [h] <;> dsimp only <;> simp [hm, hi]

theorem touches_backInGroup (s : State) (g : SlotId) (d : DishId) : Touches [.dish d, .group g] s (s.backInGroup g d) :=
  (((touches_setMotion s d .engaged).mono (by simp)).after (touches_writeHoldBrake _ d) (by simp)).after
    (touches_setMember _ g d _) (by simp)

theorem backInGroup_core (s : State) (g : SlotId) (d : DishId) :
    (s.backInGroup g d).core d = ({ s.dish d with motion := .engaged }, .holdBrake, s.feeder.reservations[d]) := by
  obtain ⟨h1, -, h3⟩ := core_eq (setMotion_core s d .engaged)
  unfold State.backInGroup; rw [(touches_setMember _ _ _ _).core_eq (by simp), writeHoldBrake_core, h1, h3]

theorem backInGroup_group (s : State) (g : SlotId) (d : DishId) : (s.backInGroup g d).group g = (s.group g).brake d true := by
  have h : Touches [.dish d] s ((s.setMotion d .engaged).writeHoldBrake d) :=
    (touches_setMotion _ _ _).trans (touches_writeHoldBrake _ _)
  rw [← (h.group g (by simp)).1]
  exact setGroup_group_self _ _ _

/-- Every active member bears its braked mark, with a further dish's. -/
theorem all_braked_iff (x : Group) (d : DishId) : (x.brake d true).active.all (·.braked) = true ↔
    ∀ m ∈ x.active, m.order.dish = d ∨ m.braked = true := by
  unfold Group.active Group.brake
  rw [setMember_members]
  simp only [List.all_eq_true, List.mem_filter, List.mem_map]
  constructor
  · rintro h m ⟨hm, ha⟩
    by_cases hd : m.order.dish = d
    · exact .inl hd
    · have := h m ⟨⟨m, hm, if_neg hd⟩, ha⟩
      exact .inr this
  · rintro h m' ⟨⟨m, hm, rfl⟩, ha⟩
    by_cases hd : m.order.dish = d
    · rw [if_pos hd]
    · rw [if_neg hd] at ha ⊢
      exact (h m ⟨hm, ha⟩).resolve_left hd

/-- The group of a member that has returned: HELD once all have (R53). -/
def Group.returning (x : Group) (d : DishId) : Group :=
  { x.brake d true with
    state := if x.state = .holding ∧ ∀ m ∈ x.active, m.order.dish = d ∨ m.braked = true then .held else x.state }

theorem judgeGroup_returned (hx : (s.group g).state = .holding ∨ (s.group g).state.brakes) :
    (s.returnMember g d).group g = (s.group g).returning d ∧ Touches [.group g] (s.backInGroup g d) (s.returnMember g d) := by
  have hgroup := backInGroup_group s g d
  rw [returnMember_eq]
  generalize s.backInGroup g d = w at hgroup ⊢
  have hst : (w.group g).state = (s.group g).state := by rw [hgroup]; rfl
  unfold State.judgeGroup; rw [hst]
  rcases hx with h | h | h | h <;> rw [h] <;> dsimp only
  · unfold State.judgeHeld; rw [hgroup]
    by_cases hall : ((s.group g).brake d true).active.all (·.braked) = true
    · rw [if_pos hall]
      refine ⟨?_, touches_setGroup _ _ _⟩
      refine (setGroup_group_self _ _ _).trans ?_
      unfold Group.returning
      rw [hgroup, if_pos ⟨h, (all_braked_iff _ _).1 hall⟩]
    · rw [if_neg hall]
      refine ⟨?_, .refl _ _⟩
      unfold Group.returning
      rw [hgroup, if_neg fun e => hall ((all_braked_iff _ _).2 e.2)]; rfl
  all_goals
    refine ⟨?_, .refl _ _⟩
    unfold Group.returning
    rw [hgroup, if_neg fun e => by rw [e.1] at h; cases h]; rfl

/-- A member that rests in IDLE returns to its group (R53). -/
theorem returnMember_core (hx : (s.group g).state = .holding ∨ (s.group g).state.brakes) : (s.returnMember g d).core d =
    ({ s.dish d with motion := .engaged }, .holdBrake, s.feeder.reservations[d]) :=
  ((judgeGroup_returned hx).2.core_eq (by simp)).trans (backInGroup_core s g d)

/-- The answers to a report that shows a stopped member braked and still. -/
theorem answers_returns (hg : (s.dish d).group = some g) (hx : (s.group g).state = .holding ∨ (s.group g).state.brakes)
    (hi : (s.dish d).motion = .idle) (hm : (s.dish d).moving = false) (hl : s.lockRequested d = false)
    (hsw : (s.dish d).switchLock = former) : s.answers d former = s.returnMember g d := by
  have hmot : ((s.returnMember g d).dish d).motion = .engaged := by rw [(core_eq (returnMember_core hx)).1]
  unfold State.answers
  rw [lockReport_of_unrequested hl, switchReport_same hsw, groupReport_returns hg hx hm hi,
    stowReport_other (by rw [hmot]; nofun), shedReport_other (by rw [hmot]; nofun)]

theorem returning_brakes {x : Group} (h : x.state = .holding ∨ x.state.brakes) :
    (x.returning d).state.atCall = false ∨ x.state = .resumeWait := by
  unfold Group.returning
  rcases h with h | h | h | h
  · left; dsimp only; split
    · rfl
    · rw [h]; rfl
  · left; dsimp only; rw [if_neg (fun e => by rw [e.1] at h; cases h), h]; rfl
  · left; dsimp only; rw [if_neg (fun e => by rw [e.1] at h; cases h), h]; rfl
  · exact .inr h

/-- Nobody is admitted once the member has returned, if nobody was. -/
theorem returnMember_nobody (hn : NobodyAdmitted s) (hx : (s.group g).state = .holding ∨ (s.group g).state.brakes) :
    NobodyAdmitted (s.returnMember g d) := by
  obtain ⟨hgroup, htouch⟩ := judgeGroup_returned (s := s) (d := d) hx
  have ht : Touches [.dish d, .group g] s (s.returnMember g d) := (touches_backInGroup s g d).after htouch (by simp)
  refine hn.of_same (by rw [ht.stow (by simp)]; exact hn.1) (by rw [ht.orders]) ht.listed (fun k e => ?_)
    (by rw [(within_returnMember s g d).locks_eq])
  by_cases hk : k = g
  · subst hk
    rcases returning_brakes (d := d) hx with h | h
    · rw [← hgroup, e] at h; cases h
    · exact h
  · rwa [(ht.group k (by simpa using hk)).1] at e

/-- What a report leaves of a stopped member that it shows braked and still (R14, R53). -/
theorem stoppedMember_answered (hg : (s.dish d).group = some g) (hm : (s.dish d).motion = .stopping)
    (hs : (s.dish d).brakedStill = true) (hl : s.lockRequested d = false) (hmark : s.mark d = .none)
    (hsw : (s.dish d).switchLock = former)
    (hx : (s.group g).state = .holding ∨ (s.group g).state = .positioned ∨ (s.group g).state = .held
      ∨ (s.group g).state = .resumeWait ∧ NobodyAdmitted s) :
    ((s.stateRules d).answers d former).settle.group g = (s.group g).returning d
      ∧ (NobodyAdmitted s → ((s.stateRules d).answers d former).settle.core d =
        ({ (s.dish d).idled with motion := .engaged }, .holdBrake, s.feeder.reservations[d])) := by
  have hz := stateRules_idles (.inr (.inl hm)) hs (by rw [hmark]; nofun)
  have hcore := (hz.core d).trans (atIdle_core s d)
  have ht : Touches [.dish d, .heat, .block] s (s.stateRules d) := ((touches_atIdle s d).mono (by simp)).after hz.1 (by simp)
  have hw := (within_atIdle s d).trans hz.2
  have hnobody : NobodyAdmitted s → NobodyAdmitted (s.stateRules d) := fun hn =>
    nobody_zones hn (touches_atIdle s d) (within_atIdle s d) hz
  generalize s.stateRules d = v at hcore ht hw hnobody ⊢
  obtain ⟨h1, -, h3⟩ := core_eq hcore
  have hgrp : v.group g = s.group g := (ht.group g (by simp)).1
  have hx' : (v.group g).state = .holding ∨ (v.group g).state.brakes := by
    rw [hgrp]; exact hx.imp id fun h => h.imp id fun h => h.imp id And.left
  have hstill : (v.dish d).moving = false := by
    rw [h1]; change (s.dish d).moving = false
    simp only [Dish.brakedStill, Bool.and_eq_true, Bool.not_eq_true'] at hs; exact hs.2
  rw [answers_returns (by rw [h1]; exact hg) hx' (by rw [h1]; rfl) hstill (by rw [hw.lockRequested_eq]; exact hl)
    (by rw [hw.switchLock_eq]; exact hsw)]
  have hgroup := (judgeGroup_returned (d := d) hx').1
  have hrc := returnMember_core (d := d) hx'
  have hset : NobodyAdmitted s → Touches [.heat] (v.returnMember g d) (v.returnMember g d).settle := fun hn =>
    touches_settle_of_nobody (returnMember_nobody (hnobody hn) hx')
  rw [h1, h3] at hrc
  rw [hgrp] at hgroup
  refine ⟨?_, fun hn => ((hset hn).core_eq (by simp)).trans hrc⟩
  by_cases hn : NobodyAdmitted s
  · rw [((hset hn).group g (by simp)).1, hgroup]
  · have hcall : ((s.group g).returning d).state.atCall = false := by
      refine (returning_brakes (hgrp ▸ hx')).resolve_right fun e => ?_
      rw [e] at hx
      rcases hx with h | h | h | h
      · cases h
      · cases h
      · cases h
      · exact hn h.2
    rw [((spares_settle _).group g (by rw [hgroup]; exact hcall)).1, hgroup]

end

/-! ## Reports with code 0 -/

section
variable {s : State} {d : DishId} {r : Report}

theorem exec_report_clear (ha : ReportAwaited d s) (hf : r.fault = 0) :
    exec (.validReport d r) s = .next (((s.stored d r).stateRules d).answers d (s.dish d).switchLock).settle := by
  rw [exec_report ha, reportRules_of_clear (by rw [stored_dish]; exact hf)]

/-- What a report stored shows of the dish, and leaves of its motion and group. -/
theorem stored_shows (s : State) (d : DishId) (r : Report) : ((s.stored d r).dish d).motion = (s.dish d).motion
    ∧ ((s.stored d r).dish d).group = (s.dish d).group ∧ ((s.stored d r).dish d).moving = r.moving
    ∧ ((s.stored d r).dish d).switchLock = r.switchLock
    ∧ (((s.stored d r).dish d).brakedStill = true ↔ r.brakesSet = true ∧ r.moving = false) := by
  rw [stored_dish]
  exact ⟨rfl, rfl, rfl, rfl, by simp [Dish.brakedStill, Dish.told]⟩

/-- What a report with code 0 leaves of an UNREACHABLE dish that it lets reappear (R109). -/
theorem unreachable_answered (hg : (s.dish d).group = none) (hmark : s.mark d = .unreachable)
    (hq : s.queued d = false) (hl : s.lockRequested d = false) (hsw : r.switchLock = (s.dish d).switchLock) {m : Motion}
    (hm : m = .stopping ∨ m = .idle) (h : Reappears (s.stored d r) d m) (t : State)
    (ht : t = (((s.stored d r).stateRules d).answers d (s.dish d).switchLock).settle) :
    (s.stow.state.rejoins = true → s.moveLocked d = false → t.mark d = .none ∧ AtTail d s.stow.queue m t)
      ∧ (s.stow.state.rejoins = true → s.moveLocked d = true → t.mark d = .blocked ∧ t.queued d = false)
      ∧ (s.stow.state = .calmWait → t.stow = s.stow) := by
  obtain ⟨-, hgroup, -, hswitch, -⟩ := stored_shows s d r
  have hlock : (s.stored d r).moveLocked d = s.moveLocked d := stored_moveLocked_same hsw
  rw [h.answers hm (by rw [hgroup]; exact hg) hl (by rw [hswitch]; exact hsw)] at ht
  subst ht
  exact ⟨fun hr hn => h.rejoins hm hmark hq hr (by rw [hlock]; exact hn),
    fun hr hn => h.blocked hm hmark hq hr (by rw [hlock]; exact hn), h.keeps⟩

end

/-- Settles O14: the state rules leave the dish in one record each, which the blocks' answers and the rounds leave or follow up. -/
theorem reportsStopOrReturn : Obligations.ReportsStopOrReturn := by
  unfold Obligations.ReportsStopOrReturn
  intro d r s ha hf still m
  obtain ⟨hmotion, hgroup, hmoving, hswitch, hstill⟩ := stored_shows s d r
  have hexec := exec_report_clear ha hf
  have hnot : ¬ still → ((s.stored d r).dish d).brakedStill = false := fun h => by
    rw [← Bool.not_eq_true]; exact fun e => h (hstill.1 e)
  refine ⟨fun hg => ?_, fun g hg hd hsw => ?_⟩
  · have hg' : ((s.stored d r).dish d).group = none := hgroup.trans hg
    refine ⟨_, hexec, fun hm hs => ?_, fun hm hs hn hmark => ?_, fun hm hs => ?_, fun hm hmv => ?_, fun hm hmv hq hsw hl => ?_,
      fun hm => ?_, fun hm hsw hl hh hc hst hmark z hz => ?_, fun hmark hq hl hsw => ?_⟩
    · obtain ⟨h1, h2, h3⟩ := core_eq (stops_answered (former := (s.dish d).switchLock) hg' (hmotion ▸ hm) (hnot hs))
      exact ⟨by rw [h1], h2, h3⟩
    · obtain ⟨h1, -, h3, h4, h5⟩ := rests_answered (former := (s.dish d).switchLock) hg' (hmotion ▸ hm) (hstill.2 hs) hmark
        (stored_nobody d r hn)
      exact ⟨h1, h3, h4, h5⟩
    · obtain ⟨h1, h2, -⟩ := core_eq (waits_answered (former := (s.dish d).switchLock) hg' (hmotion ▸ hm) (hnot hs))
      exact ⟨by rw [h1]; exact hmotion, h2⟩
    · obtain ⟨h1, h2, h3⟩ := core_eq (idleMoving_answered (former := (s.dish d).switchLock) hg' (hmotion ▸ hm) (hmoving.trans hmv))
      exact ⟨by rw [h1], h2, h3⟩
    · have hm' : ((s.stored d r).dish d).motion = .idle := hmotion.trans hm
      rw [stateRules_idle hm', if_neg (by rw [hmoving, hmv]; nofun), answers_at_rest hg' (by rw [hm']; nofun) (by rw [hm']; nofun),
        lockReport_of_unrequested (s := s.stored d r) hl, switchReport_same (hswitch.trans hsw), settle_of_quiet _ (stored_quiet hq d r)]
      exact ⟨hm', rfl⟩
    · have hcore := stowed_answered (former := (s.dish d).switchLock) hg' (hmotion.trans hm)
      have hm' : ((s.stored d r).dish d).motion = .stowed := hmotion.trans hm
      rw [hmoving] at hcore
      refine ⟨?_, fun hmv => ?_, fun hmv => ?_⟩
      · split at hcore
        · rw [(core_eq hcore).1]; exact hm'
        · split at hcore <;> rw [(core_eq hcore).1] <;> exact hm'
      · rw [if_pos hmv] at hcore
        exact (core_eq hcore).2
      · rw [if_neg (by rw [hmv]; nofun)] at hcore
        by_cases hc : r.brakesSet = true ∧ s.slot d = .stop
        · rw [if_pos ⟨hstill.2 ⟨hc.1, hmv⟩, hc.2⟩] at hcore
          rw [if_pos hc]; exact (core_eq hcore).2.1
        · rw [if_neg fun e => hc ⟨(hstill.1 e.1).1, e.2⟩] at hcore
          rw [if_neg hc]; exact (core_eq hcore).2.1
    · exact offline_answered hg' (hmotion.trans hm) (hswitch.trans hsw) hl hh hc hst hmark hz
    · intro stops rests rejoins
      have hstops : stops → Reappears (s.stored d r) d .stopping := fun h =>
        reappears_stopping (hmotion ▸ h.1) (hnot h.2)
      have hrests : rests → Reappears (s.stored d r) d .idle := fun h =>
        reappears_idle (hmotion ▸ h.1) (hstill.2 h.2) hl
      have hany : ∀ {n : Motion}, n = .stopping ∨ n = .idle → Reappears (s.stored d r) d n → _ := fun {n} hn h =>
        unreachable_answered hg hmark hq hl hsw hn h _ rfl
      refine ⟨fun h hr hn => ?_, fun h hr hn => ?_, fun h hr hn => ?_, fun h hst hn => ?_⟩
      · obtain ⟨h1, h2⟩ := (hany (.inl rfl) (hstops h)).1 (rejoins_iff.2 hr) hn
        have hstop := (core_eq (stops_answered (former := (s.dish d).switchLock) hg' (hmotion ▸ h.1) (hnot h.2))).1
        exact ⟨h1, h2.of_stopping (by rw [hstop])⟩
      · exact (hany (.inr rfl) (hrests h)).1 (rejoins_iff.2 hr) hn
      · exact h.elim (fun h => (hany (.inl rfl) (hstops h)).2.1 (rejoins_iff.2 hr) hn)
          fun h => (hany (.inr rfl) (hrests h)).2.1 (rejoins_iff.2 hr) hn
      · exact h.elim (fun h => (hany (.inl rfl) (hstops h)).2.2 hst) fun h => (hany (.inr rfl) (hrests h)).2.2 hst
  · intro marked
    have hg' : ((s.stored d r).dish d).group = some g := hgroup.trans hg
    refine ⟨fun hx hm hmv => ?_, fun hm hs hl hmark hx => ?_⟩
    · obtain ⟨h1, h2⟩ := brakedMoving_answered (former := (s.dish d).switchLock) hg' hd hx (hmotion.trans hm)
        (hmoving.trans hmv) (hswitch.trans hsw)
      obtain ⟨k1, k2, k3⟩ := core_eq h2
      exact ⟨_, hexec, h1, by rw [k1], by rw [k1]; exact hg', k2, k3⟩
    · obtain ⟨h1, h2⟩ := stoppedMember_answered (former := (s.dish d).switchLock) hg' (hmotion.trans hm) (hstill.2 hs) hl hmark
        (hswitch.trans hsw) hx
      refine ⟨_, hexec, h1, fun hn => ?_⟩
      obtain ⟨k1, k2, -⟩ := core_eq (h2 hn)
      exact ⟨by rw [k1], by rw [k1]; exact hg', k2, by rw [k1]; rfl, by rw [k1]; rfl⟩

end Sys2Proof.Machine
end

section
/-! Reports that end a dish's motion or change its locks: fault codes (R15), pending locks (R148), the switch (R152, R153). -/

namespace Sys2Proof.Machine

section
variable {s t u v : State} {d : DishId} {g : SlotId} {former : Bool}

theorem Within.brakedStill_eq (h : Within s t) (d : DishId) : (t.dish d).brakedStill = (s.dish d).brakedStill := by
  have hr := h.reported_eq d
  have h1 : (t.dish d).brakesSet = (s.dish d).brakesSet := congrArg Reported.brakesSet hr
  have h2 : (t.dish d).moving = (s.dish d).moving := congrArg Reported.moving hr
  unfold Dish.brakedStill; rw [h1, h2]

/-! ## Exclusion of a member, beyond its dish -/

/-- An exclusion changes dishes and groups alone (R49). -/
theorem touches_excludeMember (s : State) (d : DishId) (why : ExclReason) : ∃ ps, Touches ps s (s.excludeMember d why)
    ∧ .stow ∉ ps ∧ .heat ∉ ps ∧ .block ∉ ps ∧ .sheds ∉ ps := by
  unfold State.excludeMember; split
  · exact ⟨[], .refl _ s, by simp⟩
  · next g _ =>
    have h : Touches [.group g, .dish d] s (s.expelled g d why) :=
      (((touches_setMember s g d _).mono (by simp)).after (touches_leaveGroup _ d) (by simp)).after
        (touches_stopUnlessLost _ d) (by simp)
    rw [exclude_eq]
    exact ⟨_, h.then (touches_afterExclusion _ g), by simp [Group.places]⟩

/-- A group with its members as they were, and not waiting to resume if it was not. -/
def KeepsMembers (x y : Group) : Prop := y.members = x.members ∧ (x.state ≠ .resumeWait → y.state ≠ .resumeWait)

theorem onDishes_group (f : State → DishId → State) (hf : ∀ s d, Touches [.dish d] s (f s d)) (ds : List DishId) (s : State)
    (g : SlotId) : (s.onDishes ds f).group g = s.group g := ((touches_onDishes f hf ds s).group g (by simp)).1

theorem keepsMembers_setGroupState (h : v.group g = s.group g) {x : GroupState} (hx : x ≠ .resumeWait) :
    KeepsMembers (s.group g) ((v.setGroupState g x).group g) := by
  have : (v.setGroupState g x).group g = { s.group g with state := x } := by rw [← h]; exact setGroup_group_self _ _ _
  rw [this]; exact ⟨rfl, fun _ => hx⟩

theorem keepsMembers_passOnArrival (s : State) (g : SlotId) : KeepsMembers (s.group g) ((s.passOnArrival g).group g) := by
  unfold State.passOnArrival; split
  · unfold State.passPositioned; dsimp only
    refine keepsMembers_setGroupState ?_ nofun
    rw [onDishes_group _ touches_releaseReservation, onDishes_group _ touches_writeHoldBrake]
  · unfold State.passTracking; dsimp only
    refine keepsMembers_setGroupState ?_ nofun
    rw [setStream_group, onDishes_group _ fun s d => touches_limitReservation s d (s.trackSum d)]

theorem keepsMembers_judgeStart (s : State) (g : SlotId) : KeepsMembers (s.group g) ((s.judgeStart g).group g) := by
  have hgrp := onDishes_group (fun w e => w.writeGo e (s.ring.frame + 2)) (fun w e => touches_writeGo w e _)
    (s.group g).activeDishes s g
  unfold State.judgeStart; dsimp only
  split
  · generalize s.onDishes (s.group g).activeDishes (fun w e => w.writeGo e (s.ring.frame + 2)) = w at hgrp ⊢
    rw [setGroup_group_self, hgrp]
    exact ⟨rfl, fun _ => nofun⟩
  · exact ⟨rfl, id⟩

/-- What follows an exclusion keeps the group's members, and puts no group to wait to resume (R49). -/
theorem keepsMembers_afterExclusion (s : State) (g : SlotId) : KeepsMembers (s.group g) ((s.afterExclusion g).group g) := by
  unfold State.afterExclusion; split
  · rw [raise_group, (freeSlot_self s g .allExcluded).1]
    exact ⟨rfl, fun _ => nofun⟩
  · unfold State.judgeGroup; split
    · exact keepsMembers_judgeStart s g
    · unfold State.judgeArrival; split
      · exact keepsMembers_passOnArrival s g
      · exact ⟨rfl, id⟩
    · unfold State.judgeHeld; split
      · exact keepsMembers_setGroupState rfl nofun
      · exact ⟨rfl, id⟩
    all_goals exact ⟨rfl, id⟩

/-- The group of an excluded member keeps its other members (R49). -/
theorem excludeMember_members (hg : (s.dish d).group = some g) (why : ExclReason) :
    ((s.excludeMember d why).group g).members = ((s.group g).members.map fun m =>
        if m.order.dish = d then { m with status := .excluded why s.ring.frame } else m)
      ∧ ((s.group g).state ≠ .resumeWait → ((s.excludeMember d why).group g).state ≠ .resumeWait) := by
  have heq : s.excludeMember d why = (s.expelled g d why).afterExclusion g := by
    unfold State.excludeMember; rw [hg]; exact exclude_eq s g d why
  obtain ⟨h1, h2⟩ := keepsMembers_afterExclusion (s.expelled g d why) g
  rw [expelled_group] at h1 h2
  rw [heq]
  exact ⟨h1, h2⟩

/-! ## Fault codes (R15) -/

/-- A fault code takes the dish to FAULT, out of its group and with STOP (R10, R15, R49). -/
theorem faultByReport_core (s : State) (d : DishId) :
    (s.faultByReport d).core d = ({ s.dish d with motion := .fault, group := none }, .stop, none) := by
  obtain ⟨h1, h2, h3⟩ := core_eq (faultDish_core s d)
  unfold State.faultByReport; dsimp only
  rw [(touches_answerBlock _ _ _).core_eq (by simp), (touches_failShed _ _ _).core_eq (by simp),
    (touches_stowOnFault _ _ _).core_eq (by simp), excludeMember_core_lost (by rw [h1]; exact .inl rfl), h1, h2, h3]

/-- A dish in FAULT has not come to stand in the Stow Queue (R108). -/
theorem faultByReport_queued (h : s.queued d = false) : (s.faultByReport d).queued d = false := by
  obtain ⟨ps, he, hs, -⟩ := touches_excludeMember (s.faultDish d) d .driveFault
  have hstow : ((s.faultDish d).excludeMember d .driveFault).stow = s.stow :=
    (he.stow hs).trans ((touches_faultDish s d).stow (by simp))
  have hfault : (((s.faultDish d).excludeMember d .driveFault).stowOnFault d (s.dish d).motion).queued d = false := by
    have hq : ((s.faultDish d).excludeMember d .driveFault).queued d = false := by unfold State.queued; rw [hstow]; exact h
    generalize (s.faultDish d).excludeMember d .driveFault = w at hq ⊢
    unfold State.stowOnFault; split
    · exact hq
    · split
      · exact (markDish_self w d _ _).2.2.1
      · split
        · exact (markDish_self w d _ _).2.2.1
        · exact hq
  unfold State.faultByReport; dsimp only
  generalize ((s.faultDish d).excludeMember d .driveFault).stowOnFault d (s.dish d).motion = w at hfault ⊢
  have hrest : Touches [.sheds, .heat, .block] w ((w.failShed d (s.dish d).motion).answerBlock d (decide ((s.dish d).motion = .offline))) :=
    ((touches_failShed w d _).mono (by simp)).after (touches_answerBlock _ _ _) (by simp)
  unfold State.queued; rw [hrest.stow (by simp)]; exact hfault

/-! ## Pending locks (R148) -/

/-- The state rules for a dish braked and still that is not UNREACHABLE keep the locks and the stow, and start no stow move. -/
theorem stateRules_still (hs : (s.dish d).brakedStill = true) (hne : s.mark d ≠ .unreachable) (hm : (s.dish d).motion ≠ .stowing) :
    Within s (s.stateRules d) ∧ (s.stateRules d).stow = s.stow ∧ ((s.stateRules d).dish d).motion ≠ .stowing := by
  have hmv : (s.dish d).moving = false := by
    simp only [Dish.brakedStill, Bool.and_eq_true, Bool.not_eq_true'] at hs; exact hs.2
  have idles : ∀ h, Within s (s.stateRules d) ∧ (s.stateRules d).stow = s.stow ∧ ((s.stateRules d).dish d).motion ≠ .stowing :=
    fun h => by
      have hz := stateRules_idles h hs hne
      refine ⟨(within_atIdle s d).trans hz.2, hz.stow.trans ((touches_atIdle s d).stow (by simp)), ?_⟩
      rw [(core_eq ((hz.core d).trans (atIdle_core s d))).1]; nofun
  cases hmot : (s.dish d).motion with
  | unknown => exact idles (.inl hmot)
  | stopping => exact idles (.inr (.inl hmot))
  | fault => exact idles (.inr (.inr (.inl hmot)))
  | offline => exact idles (.inr (.inr (.inr hmot)))
  | idle => rw [stateRules_idle hmot, if_neg (by simp [hmv])]; exact ⟨.refl s, rfl, hm⟩
  | engaged => rw [stateRules_moving (.inl hmot)]; exact ⟨.refl s, rfl, hm⟩
  | shedding => rw [stateRules_moving (.inr (.inr hmot))]; exact ⟨.refl s, rfl, hm⟩
  | stowing => exact absurd hmot hm
  | stowed =>
    rw [stateRules_stowed hmot, if_neg (by simp [hmv])]
    split
    · exact ⟨within_writeHoldBrake s d, (touches_writeHoldBrake s d).stow (by simp),
        by rw [(core_eq (writeHoldBrake_core s d)).1]; exact hm⟩
    · exact ⟨.refl s, rfl, hm⟩

/-- Whatever the report's code, pending locks then apply (R148; log 13). -/
theorem reportRules_applies (hs : (s.dish d).brakedStill = true) (hne : s.mark d ≠ .unreachable) (hm : (s.dish d).motion ≠ .stowing)
    (hq : s.queued d = false) (hl : s.lockRequested d = true) :
    Within s (s.reportRules d) ∧ (s.reportRules d).lockReport d = (s.reportRules d).applyPending d := by
  have hrules : Within s (s.reportRules d) ∧ (s.reportRules d).queued d = false ∧ ((s.reportRules d).dish d).motion ≠ .stowing := by
    by_cases hf : (s.dish d).faultCode = 0
    · rw [reportRules_of_clear hf]
      obtain ⟨h1, h2, h3⟩ := stateRules_still hs hne hm
      exact ⟨h1, by unfold State.queued; rw [h2]; exact hq, h3⟩
    · rw [reportRules_of_fault hf]
      exact ⟨within_faultByReport s d, faultByReport_queued hq, by rw [(core_eq (faultByReport_core s d)).1]; nofun⟩
  obtain ⟨hw, hq', hm'⟩ := hrules
  exact ⟨hw, lockReport_applies (by rw [hw.brakedStill_eq]; exact hs) hm' hq' (by rw [hw.lockRequested_eq]; exact hl)⟩

/-- The Lock Table and LOCK_APPLIED after a report that applies the dish's locks (R148). -/
theorem locks_answered (hs : (s.dish d).brakedStill = true) (hne : s.mark d ≠ .unreachable) (hm : (s.dish d).motion ≠ .stowing)
    (hq : s.queued d = false) (hl : s.lockRequested d = true) :
    (∀ p : Fin 96, ((s.reportRules d).answers d former).settle.locks.entries[p] = s.locks.entries[p].map (LockEntry.appliedBy d))
      ∧ (((s.reportRules d).answers d former).settle.source .lockApplied).pending = true := by
  obtain ⟨hw, happly⟩ := reportRules_applies hs hne hm hq hl
  have hrest : Within ((s.reportRules d).applyPending d) ((s.reportRules d).answers d former).settle := by
    rw [← happly]
    exact (within_switchReport _ _ _).trans <| (within_groupReport _ _).trans <| (within_stowReport _ _).trans <|
      (within_shedReport _ _).trans (within_settle _)
  refine ⟨fun p => ?_, hrest.pending _ (applyPending_raises (by rw [hw.lockRequested_eq]; exact hl))⟩
  rw [hrest.locks_eq, applyPending_entries, hw.locks_eq]

/-- An IDLE dish whose pending lock applies is held, where nobody is admitted (R148). -/
theorem idleLocked_answered (hi : (s.dish d).motion = .idle) (hg : (s.dish d).group = none) (hs : (s.dish d).brakedStill = true)
    (hq : s.queued d = false) (hl : s.lockRequested d = true) (hsw : (s.dish d).switchLock = former) (hn : NobodyAdmitted s) :
    (s.answers d former).settle.core d = (s.dish d, .holdBrake, s.feeder.reservations[d]) := by
  have happly : s.lockReport d = s.applyPending d := lockReport_applies hs (by rw [hi]; nofun) hq hl
  have hcore := applyPending_core s d
  have hn' := lockReport_nobody (d := d) hn
  have hd := lockReport_dish d s
  rw [answers_at_rest hg (by rw [hi]; nofun) (by rw [hi]; nofun), switchReport_same (by rw [hd]; exact hsw),
    (touches_settle_of_nobody hn').core_eq (by simp), happly, hcore, if_pos hi]

end

end Sys2Proof.Machine
end

section
/-! Reports that show the switch lock newly set or newly clear (R109, R132, R152, R153). -/

namespace Sys2Proof.Machine

section
variable {s v : State} {d : DishId} {g : SlotId} {former : Bool}

/-! ## Newly set -/

/-- A member is excluded and stopped by its switch (R49, R152). -/
theorem memberSwitchSet_answered (hg : (s.dish d).group = some g) (hm : (s.dish d).motion = .engaged)
    (hsw : (s.dish d).switchLock = true) :
    (s.answers d false).settle.core d = ({ s.dish d with group := none, motion := .stopping }, .stop, none)
      ∧ (s.orders = [] → (s.group g).state ≠ .resumeWait → ((s.answers d false).settle.group g).members =
          (s.group g).members.map fun m =>
            if m.order.dish = d then { m with status := .excluded .localSwitch s.ring.frame } else m) := by
  have hd := lockReport_dish d s
  have hl := touches_lockReport s d
  have hgrp : (s.lockReport d).group g = s.group g := (hl.group g (by simp)).1
  have hframe : (s.lockReport d).ring.frame = s.ring.frame := congrArg Fixed.frame (withinLocks_lockReport s d).within.fixed
  rw [answers_of_set hsw, switchSet_eq]
  generalize s.lockReport d = w at hd hl hgrp hframe ⊢
  have hex := excludeMember_core_stops (s := w) (d := d) (g := g) (by rw [hd]; exact hg) (by rw [hd, hm]; nofun)
    (by rw [hd, hm]; nofun) .localSwitch
  obtain ⟨hmem, hst⟩ := excludeMember_members (s := w) (d := d) (g := g) (by rw [hd]; exact hg) .localSwitch
  obtain ⟨ps, hext, -⟩ := touches_excludeMember w d .localSwitch
  rw [hgrp, hframe] at hmem
  rw [hgrp] at hst
  have horders : (w.excludeMember d .localSwitch).orders = s.orders := hext.orders.trans hl.orders
  generalize w.excludeMember d .localSwitch = e at hex hmem hst horders ⊢
  obtain ⟨k1, k2, k3⟩ := core_eq hex
  have halone := switchSetAlone_core (s := e) (d := d) (by rw [k1]; nofun) (by rw [k1]; nofun) (w.heatBySwitch d)
  rw [k1, if_neg (by nofun), k2, k3, hd] at halone
  have ht := touches_switchSetAlone e d (w.heatBySwitch d)
  generalize e.switchSetAlone d (w.heatBySwitch d) = f at halone ht ⊢
  refine ⟨(settle_core (by rw [(core_eq halone).1]; rfl)).trans halone, fun ho hx => ?_⟩
  have hkept : KeptGroup g (e.group g) f := ⟨by rw [ht.orders, horders]; exact ho, (ht.group g (by simp)).1⟩
  rw [((roundKeeps_keptGroup (hst hx)).settle hkept).2, hmem]

theorem within_switchSetAlone_of (s : State) (d : DishId) (heat : Bool) : Within (s.stowOnSwitch d) (s.switchSetAlone d heat) :=
  (within_stopShed _ _ _).trans <| (within_skipShed _ _).trans <| (within_holdIfIdle _ _).trans (within_answerBlock _ _ _)

/-- A STOWING dish is stopped and marked BLOCKED by its switch (R108). -/
theorem stowingSwitchSet_answered (hg : (s.dish d).group = none) (hm : (s.dish d).motion = .stowing)
    (hsw : (s.dish d).switchLock = true) :
    (s.answers d false).settle.core d = ({ s.dish d with motion := .stopping }, .stop, none)
      ∧ (s.answers d false).settle.stow.moves[d] = none ∧ (s.answers d false).settle.mark d = .blocked
      ∧ ((s.answers d false).settle.source .stowProblem).pending = true := by
  have halone := switchSetAlone_core_stowing hm (s.heatBySwitch d)
  have hstow := switchSetAlone_stow s d (s.heatBySwitch d)
  have hw := within_switchSetAlone_of s d (s.heatBySwitch d)
  have hmark : s.stowOnSwitch d = (s.stopDish d).markDish d .blocked (.stowBlocked d) := if_pos hm
  obtain ⟨m1, m2, -, m4⟩ := markDish_self (s.stopDish d) d .blocked (.stowBlocked d)
  rw [answers_of_set hsw, lockReport_of_stowing hm, switchSet_eq, excludeMember_none hg]
  rw [hmark] at hstow hw
  generalize s.switchSetAlone d (s.heatBySwitch d) = f at halone hstow hw ⊢
  have hcall : (f.dish d).motion.atCall = false := by rw [(core_eq halone).1]; rfl
  have hsp := spares_settle f
  refine ⟨(settle_core hcall).trans halone, ?_, ?_, (within_settle f).pending _ (hw.pending _ m4)⟩
  · have hmove : f.settle.stow.moves[d] = f.stow.moves[d] := (congrArg Hold.move (hsp.dish d hcall) :)
    rw [hmove, hstow]; exact m2
  · unfold State.mark at m1 ⊢; rw [hsp.marks, hstow]; exact m1

/-- A queued IDLE dish leaves the Stow Queue by its switch, and is marked BLOCKED (R108). -/
theorem queuedSwitchSet_answered (hg : (s.dish d).group = none) (hi : (s.dish d).motion = .idle)
    (hsw : (s.dish d).switchLock = true) (hf : s.stowInForce = true) (hq : s.queued d = true) :
    (s.answers d false).settle.queued d = false ∧ (s.answers d false).settle.mark d = .blocked := by
  have hstow := switchSetAlone_stow s d (s.heatBySwitch d)
  have hmark : s.stowOnSwitch d = s.markDish d .blocked (.stowBlocked d) := by
    unfold State.stowOnSwitch State.stowOnLocked; rw [if_neg (by rw [hi]; nofun), if_pos (by simp [hf, hq])]
  obtain ⟨m1, -, m3, -⟩ := markDish_self s d .blocked (.stowBlocked d)
  rw [answers_of_set hsw, lockReport_of_queued hq, switchSet_eq, excludeMember_none hg]
  rw [hmark] at hstow
  generalize s.switchSetAlone d (s.heatBySwitch d) = f at hstow ⊢
  refine (blocked_settled ?_ ?_).symm
  · unfold State.queued at m3 ⊢; rw [hstow]; exact m3
  · unfold State.mark at m1 ⊢; rw [hstow]; exact m1

/-- An IDLE dish is held by its switch, where nobody is admitted (R152). -/
theorem idleSwitchSet_answered (hg : (s.dish d).group = none) (hi : (s.dish d).motion = .idle)
    (hsw : (s.dish d).switchLock = true) (hn : NobodyAdmitted s) : (s.answers d false).settle.slot d = .holdBrake := by
  have hd := lockReport_dish d s
  have hn' := answers_nobody (former := false) hn hg (by rw [hi]; nofun) (by rw [hi]; nofun) nofun
  have hcore : (s.answers d false).slot d = .holdBrake := by
    rw [answers_of_set hsw, switchSet_eq, excludeMember_none (by rw [hd]; exact hg),
      (core_eq (switchSetAlone_core (s := s.lockReport d) (d := d) (by rw [hd, hi]; nofun) (by rw [hd, hi]; nofun) _)).2.1, hd,
      if_pos hi]
  rw [((touches_settle_of_nobody hn').dish d (by simp)).2.1, hcore]

/-! ## The zones of a dish whose switch is set -/

theorem State.OrderPowered.stateRules (h : s.OrderPowered) : (s.stateRules d).OrderPowered := by
  have apply : ∀ {w : State}, w.OrderPowered → (w.applyPending d).OrderPowered := fun hw =>
    hw.touch (touches_applyPending _ d) (by simp)
  have enter : ∀ {w : State}, w.OrderPowered → (w.enterIdle d).OrderPowered := fun hw =>
    (hw.touch (touches_atIdle _ d) (by simp)).rejoinUnreachable d
  have idle : (s.reportIdle d).OrderPowered := by
    unfold State.reportIdle; split
    · split
      · exact enter (apply h)
      · exact enter h
    · exact enter h
  have stop : (s.reportStop d).OrderPowered := (h.touch (touches_stopDish s d) (by simp)).rejoinUnreachable d
  unfold State.stateRules; dsimp only; split
  · split
    · exact idle
    · exact stop
  · split
    · exact h.touch (touches_stopDish s d) (by simp)
    · exact h
  · split
    · exact idle
    · exact h
  · split
    · exact h.touch (touches_writeStop s d) (by simp)
    · split
      · exact h.touch (touches_writeHoldBrake s d) (by simp)
      · exact h
  · split
    · exact idle
    · exact h
  · split
    · exact idle.answerBlock d true
    · exact stop.answerBlock d true
  all_goals exact h

/-- The zones of a dish whose switch is newly set are shut (R132, R152). -/
theorem switchSet_shuts (h : s.OrderPowered) (hsw : (s.dish d).switchLock = true) : ShutDish d (s.switchSet d) := by
  obtain ⟨ps, he, -, hp, -⟩ := touches_excludeMember s d .localSwitch
  have hw : Within s (((((s.excludeMember d .localSwitch).stowOnSwitch d).stopShed d .aborted).skipShed d).holdIfIdle d) :=
    (within_excludeMember _ _ _).trans <| (within_stowOnSwitch _ _).trans <| (within_stopShed _ _ _).trans <|
      (within_skipShed _ _).trans (within_holdIfIdle _ _)
  have h1 : (s.excludeMember d .localSwitch).OrderPowered := h.touch he hp
  have h2 : ((s.excludeMember d .localSwitch).stowOnSwitch d).OrderPowered := by
    unfold State.stowOnSwitch; split
    · exact (h1.touch (touches_stopDish _ d) (by simp)).markDish d _ _
    · unfold State.stowOnLocked; split
      · exact h1.markDish d _ _
      · exact h1
  refine answerBlock_shuts ?_ (by rw [hw.switchLock_eq]; exact hsw) (s.heatBySwitch d)
  exact ((h2.touch (touches_stopShed _ d .aborted) (by simp)).touch (touches_skipShed _ d) (by simp)).touch
    (touches_holdIfIdle _ d) (by simp)

/-- Whatever the dish does, its zones are IDLE or BLOCKED once its switch has been set (R132, R152). -/
theorem zonesSwitchSet_answered (h : s.OrderPowered) (hsw : (s.dish d).switchLock = true) {z : ZoneId} (hz : z.dish = d) :
    (((s.stateRules d).answers d false).settle.zone z).state = .idle
      ∨ (((s.stateRules d).answers d false).settle.zone z).state = .blocked := by
  have hv := h.stateRules (d := d)
  have hvs : ((s.stateRules d).dish d).switchLock = true := by
    rw [(withinLocks_stateRules s d).within.switchLock_eq]; exact hsw
  generalize s.stateRules d = v at hv hvs ⊢
  have hshut : ShutDish d (v.answers d false) := by
    rw [answers_of_set hvs]
    exact switchSet_shuts (hv.touch (touches_lockReport v d) (by simp)) (by rw [lockReport_dish]; exact hvs)
  exact (((roundKeeps_shutDish d).settle hshut).2 z hz).1

/-! ## Newly clear -/

theorem answers_of_clear (hg : (s.dish d).group = none) (hi : (s.dish d).motion = .idle) (hl : s.lockRequested d = false)
    (hsw : (s.dish d).switchLock = false) : s.answers d true = s.switchClear d := by
  rw [answers_at_rest hg (by rw [hi]; nofun) (by rw [hi]; nofun), lockReport_of_unrequested hl, switchReport_clear hsw]

theorem moveLocked_false (ha : s.appliedMove d = 0) (hsw : (s.dish d).switchLock = false) : s.moveLocked d = false := by
  simp [State.moveLocked, ha, hsw]

/-- An IDLE dish's slot returns to KEEP, where no stow is in force and nobody is admitted (R11, R153). -/
theorem keepSwitchClear_answered (hg : (s.dish d).group = none) (hi : (s.dish d).motion = .idle) (hl : s.lockRequested d = false)
    (hsw : (s.dish d).switchLock = false) (ha : s.appliedMove d = 0) (hn : NobodyAdmitted s) (hf : s.stowInForce = false) :
    (s.answers d true).settle.slot d = .keep := by
  have hn' := answers_nobody (former := true) hn hg (by rw [hi]; nofun) (by rw [hi]; nofun)
    fun _ => staysOut_of_not_inForce hf
  rw [((touches_settle_of_nobody hn').dish d (by simp)).2.1, answers_of_clear hg hi hl hsw, (core_eq (switchClear_core s d)).2.1,
    if_pos ⟨hi, moveLocked_false ha hsw⟩]

theorem rejoinBlocked_tail (hi : (s.dish d).motion = .idle) (hm : s.mark d = .blocked) (hl : s.moveLocked d = false)
    (hr : s.stow.state.rejoins = true) : s.rejoinBlocked d = s.rejoinTail d := by
  unfold State.rejoinBlocked; rw [if_pos ⟨hm, hl, hr⟩, hi]

/-- A BLOCKED dish comes back to the tail of the Stow Queue by its switch (R109, R153). -/
theorem switchClear_stow (hi : (s.dish d).motion = .idle) (hm : s.mark d = .blocked) (hl : s.moveLocked d = false)
    (hr : s.stow.state.rejoins = true) : (s.switchClear d).stow = ((s.putSlot d .keep).rejoinTail d).stow := by
  have hlock : (s.putSlot d .keep).moveLocked d = false := by
    rw [(within_putSlot s d .keep).moveLocked_eq]; exact hl
  have hended : s.moveLockEnded d = (s.putSlot d .keep).rejoinTail d := by
    unfold State.moveLockEnded; rw [if_neg (by rw [hl]; nofun), if_pos hi]
    exact rejoinBlocked_tail (s := s.putSlot d .keep) hi hm hlock hr
  change ((s.moveLockEnded d).answerBlock d (s.heatBySwitch d)).stow = _
  rw [(touches_answerBlock _ _ _).stow (by simp), hended]

/-- What the switch newly clear leaves of a BLOCKED dish (R109). -/
theorem blockedSwitchClear_answered (hg : (s.dish d).group = none) (hi : (s.dish d).motion = .idle) (hl : s.lockRequested d = false)
    (hsw : (s.dish d).switchLock = false) (ha : s.appliedMove d = 0) (hm : s.mark d = .blocked)
    (hr : s.stow.state.rejoins = true) : (s.answers d true).settle.mark d = .none
      ∧ (s.queued d = false → AtTail d s.stow.queue .idle (s.answers d true).settle) := by
  have hst := switchClear_stow hi hm (moveLocked_false ha hsw) hr
  obtain ⟨k1, k2, k3⟩ := rejoinTail_stow (s := s.putSlot d .keep) (d := d) hr
  have hd := (core_eq (switchClear_core s d)).1
  rw [answers_of_clear hg hi hl hsw]
  generalize s.switchClear d = v at hst hd ⊢
  have hmark : v.mark d = .none := by unfold State.mark at k1 ⊢; rw [hst]; exact k1
  refine ⟨by unfold State.mark at hmark ⊢; rw [(spares_settle v).marks]; exact hmark, fun hq => ?_⟩
  have htail := (atTail_settled hq hmark (by rw [hst]; exact k2 hq) (by rw [hst]; exact k3)).2
  rwa [hd, hi] at htail

/-- The block of the dish's zones ends with its switch, where nothing else blocks them (R132, R153). -/
theorem zonesSwitchClear_answered (hg : (s.dish d).group = none) (hi : (s.dish d).motion = .idle) (hl : s.lockRequested d = false)
    (hsw : (s.dish d).switchLock = false) (hh : s.appliedHeat d = 0) (hc : s.censusDone = true) (hf : s.stowInForce = false)
    {z : ZoneId} (hz : z.dish = d) : ((s.answers d true).settle.zone z).state ≠ .blocked := by
  have hout := staysOut_of_not_inForce (d := d) hf
  have hst := stow_ne_active hf
  rw [answers_of_clear hg hi hl hsw]
  refine ((roundKeeps_unblocked z).settle ⟨?_, ?_⟩).2
  · rw [(touches_switchClear_plain hout).stow (by simp)]; exact hst
  · exact switchClear_unblocks (blocks_false_of hh hsw hc hst (by rw [hi]; nofun)) hout hz

end

/-- Settles O15: a fault code, the dish's pending locks and the switch are answered in log 13's order, and what they leave of the dish,
its locks and its zones the later answers and the rounds keep. -/
theorem faultLockAndSwitchReports : Obligations.FaultLockAndSwitchReports := by
  unfold Obligations.FaultLockAndSwitchReports
  intro d r s ha
  obtain ⟨hmotion, hgroup, hmoving, hswitch, hstill⟩ := stored_shows s d r
  have hcode : ((s.stored d r).dish d).faultCode = r.fault := by rw [stored_dish]; rfl
  have hclear : r.fault = 0 → (s.stored d r).reportRules d = (s.stored d r).stateRules d := fun hf =>
    reportRules_of_clear (hcode.trans hf)
  have hidle : (s.dish d).motion = .idle → r.moving = false → (s.stored d r).stateRules d = s.stored d r := fun hi hmv => by
    rw [stateRules_idle (hmotion.trans hi), if_neg (by rw [hmoving, hmv]; nofun)]
  refine ⟨_, exec_report ha r, fun hf => ?_, fun hb hmv hm hq hne hl => ?_, fun hf hold hnew => ?_,
    fun hf hold hnew hg hi hmv hl => ?_⟩
  · obtain ⟨h1, h2, h3⟩ := core_eq (answered_core (former := (s.dish d).switchLock) (faultByReport_core (s.stored d r) d) rfl
      (.inr (.inl rfl)))
    rw [reportRules_of_fault (by rw [hcode]; exact hf)]
    exact ⟨by rw [h1], h2, h3, by rw [h1]⟩
  · obtain ⟨h1, h2⟩ := locks_answered (s := s.stored d r) (d := d) (former := (s.dish d).switchLock) (hstill.2 ⟨hb, hmv⟩) hne
      (by rw [hmotion]; exact hm) hq hl
    refine ⟨h1, h2, fun hf hi hg hsw hn => ?_⟩
    have hcore := idleLocked_answered (s := s.stored d r) (d := d) (hmotion.trans hi) (hgroup.trans hg) (hstill.2 ⟨hb, hmv⟩) hq hl
      (hswitch.trans hsw) (stored_nobody d r hn)
    obtain ⟨k1, k2, -⟩ := core_eq hcore
    rw [hclear hf, hidle hi hmv]
    exact ⟨by rw [k1]; exact hmotion.trans hi, k2⟩
  · have hset : ((s.stored d r).dish d).switchLock = true := hswitch.trans hnew
    rw [hclear hf, hold]
    refine ⟨fun g hg hm => ?_, fun hg hm => ?_, fun hg hi hmv hne => ?_, fun hlaw z hz => ?_⟩
    · obtain ⟨h1, h2⟩ := memberSwitchSet_answered (hgroup.trans hg) (hmotion.trans hm) hset
      obtain ⟨k1, k2, k3⟩ := core_eq h1
      rw [stateRules_moving (.inl (hmotion.trans hm))]
      exact ⟨by rw [k1], by rw [k1], k2, k3, h2⟩
    · obtain ⟨h1, h2, h3, h4⟩ := stowingSwitchSet_answered (hgroup.trans hg) (hmotion.trans hm) hset
      obtain ⟨k1, k2, k3⟩ := core_eq h1
      rw [stateRules_moving (.inr (.inl (hmotion.trans hm)))]
      exact ⟨by rw [k1], k2, k3, h2, h3, h4⟩
    · rw [hidle hi hmv]
      exact ⟨fun hforce hq => queuedSwitchSet_answered (hgroup.trans hg) (hmotion.trans hi) hset hforce hq,
        fun hn _ => idleSwitchSet_answered (hgroup.trans hg) (hmotion.trans hi) hset (stored_nobody d r hn)⟩
    · have hpow : (s.stored d r).OrderPowered := fun w hw => (hlaw.2.2.1 w).2 hw
      exact zonesSwitchSet_answered hpow hset hz
  · have hoff : ((s.stored d r).dish d).switchLock = false := hswitch.trans hnew
    have hg' : ((s.stored d r).dish d).group = none := hgroup.trans hg
    have hi' : ((s.stored d r).dish d).motion = .idle := hmotion.trans hi
    rw [hclear hf, hidle hi hmv, hold]
    refine ⟨fun happ hn hforce => keepSwitchClear_answered hg' hi' hl hoff happ (stored_nobody d r hn) hforce,
      fun happ hmark hr => blockedSwitchClear_answered hg' hi' hl hoff happ hmark (rejoins_iff.2 hr), fun hh hc hforce z hz => ?_⟩
    exact zonesSwitchClear_answered hg' hi' hl hoff hh hc hforce hz

end Sys2Proof.Machine
end

section
/-! What a frame start touches: the groups in TRACKING or TRACK_HALTED and their active members (R80). -/

namespace Sys2Proof.Machine

/-! ## The Track Stream Unit's answers -/

section
variable (s : State) (g : SlotId) (d : DishId)

theorem touches_writeTrackStep (az el : Int) : Touches [.dish d] s (s.writeTrackStep d az el) :=
  touches_ite (.refl _ s) (touches_putSlot _ _ _)

theorem touches_writeSteps (az el : Int) : Touches ((s.group g).places g) s (s.writeSteps g az el) :=
  touches_members (touches_onDishes (fun s d => s.writeTrackStep d az el) (fun s d => touches_writeTrackStep s d az el) _ s) g

theorem touches_passPositioned : Touches ((s.group g).places g) s (s.passPositioned g) := by
  have hbrake := touches_onDishes State.writeHoldBrake touches_writeHoldBrake (s.group g).activeDishes s
  have hrelease := hbrake.trans (touches_onDishes State.releaseReservation touches_releaseReservation (s.group g).activeDishes _)
  exact ((touches_members hrelease g).trans (touches_slot _ (touches_setGroup _ g _) _)).raise _ _

theorem touches_passFinish : Touches ((s.group g).places g) s (s.passFinish g) :=
  (touches_passPositioned s g).trans (touches_slot _ (touches_setStream _ g _) _)

theorem touches_judgeLow (n : Nat) : Touches [.group g] s (s.judgeLow g n) :=
  touches_ite ((touches_setStream _ g _).raise _ _) (.refl _ s)

theorem touches_lockEntry (e : TrackEntry) (f : LimitFailure) : Touches [.group g] s (s.lockEntry g e f) :=
  ((touches_setStream _ g _).trans (touches_setGroup _ g _)).raise _ _

/-- Steps written to the members of a group whose stream, or whose state, has been changed before. -/
theorem Touches.thenSteps {s t : State} {g : SlotId} (h : Touches [.group g] s t)
    (hm : (t.group g).activeDishes = (s.group g).activeDishes) (az el : Int) :
    Touches ((s.group g).places g) s (t.writeSteps g az el) := by
  have hsteps := touches_writeSteps t g az el
  unfold Group.places at hsteps
  rw [hm] at hsteps
  exact (touches_slot g h _).trans hsteps

theorem touches_passEntry (e : TrackEntry) (rest : List TrackEntry) :
    Touches ((s.group g).places g) s (s.passEntry g e rest) :=
  ((touches_setStream s g _).thenSteps rfl e.az e.el).trans (touches_slot g (touches_judgeLow _ g _) _)

theorem touches_starve (c : StarveCause) : Touches ((s.group g).places g) s (s.starve g c) := by
  have hhalt : Touches [.group g] s ((s.setStream g fun x => { x with starved := true }).setGroupState g .trackHalted) :=
    (touches_setStream _ g _).trans (touches_setGroup _ g _)
  refine (hhalt.thenSteps ?_ 0 0).raise _ _
  unfold State.setGroupState
  rw [setGroup_group_self]; rfl

theorem touches_coastStep : Touches ((s.group g).places g) s (s.coastStep g) := by
  unfold State.coastStep; dsimp only; split
  · split
    · exact (touches_setStream s g _).thenSteps rfl _ _
    · exact touches_starve s g _
  · exact touches_starve s g _

theorem touches_consume : Touches ((s.group g).places g) s (s.consume g) := by
  unfold State.consume; dsimp only; split
  · split
    · exact touches_passFinish s g
    · split
      · exact (touches_slot g (touches_setGroup s g _) _).raise _ _
      · split
        · split
          · exact touches_passEntry s g _ _
          · exact touches_slot g (touches_lockEntry s g _ _) _
        · exact touches_coastStep s g
  · exact touches_ite (touches_writeSteps s g 0 0) (.refl _ s)
  all_goals exact .refl _ s

end

/-! ## All four slots -/

/-- A group whose stream a frame start answers: TRACKING or TRACK_HALTED (R80). -/
def GroupState.tracks (x : GroupState) : Prop := x = .tracking ∨ x = .trackHalted

section
variable {s t : State} {g : SlotId} {ps : List Place}

theorem consume_of_not_tracks (h : ¬ (s.group g).state.tracks) : s.consume g = s := by
  unfold State.consume; dsimp only
  split
  · next hg => exact absurd (.inl hg) h
  · next hg => exact absurd (.inr hg) h
  all_goals rfl

/-- Slot by slot, a slot's answer leaves the groups of the slots behind it as they were. -/
theorem touches_consumeAll (gs : List SlotId) (hn : gs.Nodup) (s : State)
    (h : ∀ g ∈ gs, (s.group g).state.tracks → (s.group g).places g ⊆ ps) : Touches ps s (gs.foldl State.consume s) := by
  induction gs generalizing s with
  | nil => exact .refl _ s
  | cons g gs ih =>
    obtain ⟨hg, hn⟩ := List.nodup_cons.1 hn
    have hfirst : Touches ps s (s.consume g) := by
      by_cases ht : (s.group g).state.tracks
      · exact (touches_consume s g).mono (h g List.mem_cons_self ht)
      · rw [consume_of_not_tracks ht]; exact .refl _ s
    refine hfirst.trans (ih hn _ fun k hk => ?_)
    have hkg : k ≠ g := fun e => hg (e ▸ hk)
    rw [((touches_consume s g).group k (by rwa [group_mem_places])).1]
    exact h k (List.mem_cons_of_mem _ hk)

/-- What touches neither the stow nor the shed records spares all dishes and groups but those it touches. -/
theorem Touches.sparesBut {ds : List DishId} {gs : List SlotId} (h : Touches ps s t) (hd : ∀ d, .dish d ∈ ps → d ∈ ds)
    (hg : ∀ g, .group g ∈ ps → g ∈ gs) (hw : .stow ∉ ps) (hs : .sheds ∉ ps) : SparesBut ds gs s t where
  dish d hn _ := by
    obtain ⟨h1, h2, h3⟩ := h.dish d fun e => hn (hd d e)
    unfold State.holdOf; rw [h1, h2, h3, h.stow hw, (h.sheds hs).1]
  group g hn _ := h.group g fun e => hn (hg g e)
  marks := by rw [h.stow hw]
  trips := by rw [h.stow hw]
  stow _ := h.stow hw

theorem touches_nextFrame (ps : List Place) (s : State) : Touches ps s s.nextFrame :=
  .of_same rfl rfl rfl rfl rfl rfl rfl rfl rfl rfl rfl rfl rfl

theorem nextFrame_framed (s : State) (d : DishId) : s.nextFrame.ring.framed[d] = (s.cfg d).present :=
  Vector.getElem_map _ _

end

/-- Settles O8: the slots' answers touch the tracking groups and their active members, and a settled step spares what rounds spare. -/
theorem frameStartCounts : Obligations.FrameStartCounts := by
  unfold Obligations.FrameStartCounts
  intro s hr tracking
  have htracking : ∀ g, g ∈ tracking ↔ (s.group g).state.tracks := fun g => by
    simp [tracking, allSlots, GroupState.tracks]
  have htouch : Touches (tracking.flatMap fun g => (s.group g).places g) s (allSlots.foldl State.consume s.nextFrame) :=
    (touches_nextFrame _ s).trans <| touches_consumeAll allSlots (List.nodup_finRange 4) _ fun g _ ht p hp =>
      List.mem_flatMap.2 ⟨g, (htracking g).2 ht, hp⟩
  have hwithin : Within s.nextFrame (allSlots.foldl State.consume s.nextFrame).settle :=
    (within_foldl _ within_consume _ _).trans (within_settle _)
  have hframed : (allSlots.foldl State.consume s.nextFrame).settle.ring.framed = s.nextFrame.ring.framed :=
    congrArg Fixed.framed hwithin.fixed
  refine ⟨_, event_taken hr, hwithin.frame_eq, fun d => ?_, ?_, (htouch.sparesBut (fun d hd => ?_) (fun g hg => ?_) ?_ ?_).settle⟩
  · rw [hframed]; exact nextFrame_framed s d
  · rw [hframed]; exact hwithin
  · obtain ⟨g, hg, hd⟩ := List.mem_flatMap.1 hd
    exact List.mem_flatMap.2 ⟨g, hg, dish_mem_places.1 hd⟩
  · obtain ⟨k, hk, hg⟩ := List.mem_flatMap.1 hg
    exact group_mem_places.1 hg ▸ hk
  · simp [stow_notMem_places]
  · simp [sheds_notMem_places]

end Sys2Proof.Machine
end

section
/-! The common start of a LOADING group (R46): GO to its active members, from which judgement on, and the acknowledgement that brings
it about. -/

namespace Sys2Proof.Machine

/-! ## GO to a list of dishes -/

section
variable (s : State) (d e : DishId) (ds : List DishId) (f : Frame)

theorem writeGo_slot : (s.writeGo d f).slot e = if e = d ∧ s.moveLocked e = false then .go f else s.slot e := by
  by_cases he : e = d
  · subst he
    obtain ⟨-, hslot, -⟩ := core_eq (writeGo_core s e f)
    rw [hslot]; cases s.moveLocked e <;> simp
  · rw [((touches_writeGo s d f).dish e (by simpa using he)).2.1, if_neg fun h => he h.1]

/-- GO written to each dish of a list. -/
def State.goAll (s : State) (ds : List DishId) (f : Frame) : State := s.onDishes ds fun w d => w.writeGo d f

theorem within_goAll : Within s (s.goAll ds f) := within_onDishes _ _ _ fun _ _ => within_writeGo _ _ _

theorem goAll_slot : (s.goAll ds f).slot e = if e ∈ ds ∧ s.moveLocked e = false then .go f else s.slot e := by
  induction ds generalizing s with
  | nil => exact (if_neg fun h => List.not_mem_nil h.1).symm
  | cons d ds ih =>
    change ((s.writeGo d f).goAll ds f).slot e = _
    rw [ih, (within_writeGo s d f).moveLocked_eq, writeGo_slot]
    cases s.moveLocked e
    · by_cases hds : e ∈ ds <;> simp [hds]
    · simp

/-- Writing GO changes the slots alone. -/
theorem goAll_rest : s.goAll ds f = { s with ring := { s.ring with slots := (s.goAll ds f).ring.slots } } := by
  induction ds generalizing s with
  | nil => rfl
  | cons d ds ih =>
    have hgo : s.writeGo d f = { s with ring := { s.ring with slots := (s.writeGo d f).ring.slots } } := by
      unfold State.writeGo State.writeBarred; split <;> rfl
    change (s.writeGo d f).goAll ds f = { s with ring := { s.ring with slots := ((s.writeGo d f).goAll ds f).ring.slots } }
    rw [ih, hgo]

end

/-! ## The judgement of a LOADING group (R46) -/

/-- A group that has been sent GO for the frame given. -/
def Group.started (x : Group) (start : Frame) : Group :=
  { x with state := .slewing, startFrame := some start, arrivalFrame := some (start + BitVec.ofNat 32 x.t) }

section
variable {s : State} {g : SlotId}

theorem judgeGroup_loading (h : (s.group g).state = .loading) : s.judgeGroup g = s.judgeStart g := by
  unfold State.judgeGroup; rw [h]

theorem touches_judgeStart (h : (s.group g).state = .loading) : Touches ((s.group g).places g) s (s.judgeStart g) :=
  judgeGroup_loading h ▸ touches_judgeGroup s g

theorem judgeStart_whole (h : ∀ m ∈ (s.group g).active, m.acked = true) : s.judgeStart g =
    (s.goAll (s.group g).activeDishes (s.ring.frame + 2)).setGroup g fun x => x.started (s.ring.frame + 2) := by
  unfold State.judgeStart
  exact if_pos (List.all_eq_true.2 h)

theorem judgeStart_waits {m : Member} (hm : m ∈ (s.group g).active) (ha : m.acked = false) : s.judgeStart g = s := by
  unfold State.judgeStart
  refine if_neg fun h => ?_
  rw [List.all_eq_true.1 h m hm] at ha; cases ha

theorem judgeStart_group (h : ∀ m ∈ (s.group g).active, m.acked = true) :
    (s.judgeStart g).group g = (s.group g).started (s.ring.frame + 2) := by
  rw [judgeStart_whole h, setGroup_group_self, goAll_rest]; rfl

theorem judgeStart_slot (h : ∀ m ∈ (s.group g).active, m.acked = true) (e : DishId) : (s.judgeStart g).slot e =
    if e ∈ (s.group g).activeDishes ∧ s.moveLocked e = false then .go (s.ring.frame + 2) else s.slot e := by
  rw [judgeStart_whole h]; exact goAll_slot _ _ _ _

/-- The judgement of a start changes slots and groups alone. -/
theorem judgeStart_rest (s : State) (g : SlotId) : s.judgeStart g = { s with
    ring := { s.ring with slots := (s.judgeStart g).ring.slots }, groups := (s.judgeStart g).groups } := by
  by_cases h : ∀ m ∈ (s.group g).active, m.acked = true
  · rw [judgeStart_whole h, goAll_rest]; rfl
  · obtain ⟨m, hm, ha⟩ := not_forall₂.1 h
    rw [judgeStart_waits hm (by simpa using ha)]

end

/-! ## A member changed -/

section
variable (x : Group) (d : DishId) (f : Member → Member)

/-- A change that keeps who is active changes the active members as it changes all. -/
theorem setMember_active (hf : ∀ m, (f m).isActive = m.isActive) :
    (x.setMember d f).active = x.active.map fun m => if m.order.dish = d then f m else m := by
  unfold Group.active
  rw [setMember_members, List.filter_map]
  congr 1
  refine List.filter_congr fun m _ => ?_
  change Member.isActive (if m.order.dish = d then f m else m) = m.isActive
  split
  · exact hf m
  · rfl

theorem setMember_activeDishes (hf : ∀ m, (f m).isActive = m.isActive) (ho : ∀ m, (f m).order = m.order) :
    (x.setMember d f).activeDishes = x.activeDishes := by
  unfold Group.activeDishes
  rw [setMember_active x d f hf, List.map_map]
  refine List.map_congr_left fun m _ => ?_
  change (if m.order.dish = d then f m else m).order.dish = m.order.dish
  split
  · rw [ho]
  · rfl

/-- A group whose member of a dish has acknowledged its LOAD (R46). -/
def Group.acknowledge (x : Group) (d : DishId) : Group := x.setMember d fun m => { m with acked := true }

theorem acknowledge_all : (∀ m ∈ (x.acknowledge d).active, m.acked = true) ↔
    ∀ m ∈ x.active, m.order.dish = d ∨ m.acked = true := by
  unfold Group.acknowledge
  rw [setMember_active x d (fun m => { m with acked := true }) fun _ => rfl, List.forall_mem_map]
  refine forall₂_congr fun m _ => ?_
  by_cases hd : m.order.dish = d <;> simp [hd]

end

/-! ## A report that acknowledges (R46) -/

section
variable {s : State} {d : DishId} {g : SlotId} {r : Report}

/-- The report stored and its member's entry acknowledged, before the group is judged. -/
def State.acknowledged (s : State) (g : SlotId) (d : DishId) (r : Report) : State :=
  (s.stored d r).setMember g d fun m => { m with acked := true }

theorem acknowledged_group (s : State) (g : SlotId) (d : DishId) (r : Report) :
    (s.acknowledged g d r).group g = (s.group g).acknowledge d := setGroup_group_self _ _ _

theorem stored_dish_ne (s : State) (d : DishId) (r : Report) {e : DishId} (h : e ≠ d) : (s.stored d r).dish e = s.dish e :=
  ((touches_stored s d r).dish e (by simpa using h)).1

theorem acknowledged_moveLocked (h : r.switchLock = (s.dish d).switchLock) (e : DishId) :
    (s.acknowledged g d r).moveLocked e = s.moveLocked e := by
  refine ((within_setMember _ g d _).moveLocked_eq e).trans ?_
  by_cases he : e = d
  · subst he; exact stored_moveLocked_same h
  · unfold State.moveLocked; rw [stored_dish_ne s d r he]; rfl

theorem groupReport_acknowledges (hg : (s.dish d).group = some g) (hx : (s.group g).state = .loading)
    (hp : (s.dish d).profileLoaded = true) :
    s.groupReport d = (s.setMember g d fun m => { m with acked := true }).judgeStart g := by
  have hjudge := judgeGroup_loading (s := s.setMember g d fun m => { m with acked := true }) (g := g)
    (by unfold State.setMember; rw [setGroup_group_self]; exact hx)
  unfold State.groupReport; rw [hg]; dsimp only
  rw [hx]; dsimp only
  rw [if_pos hp, hjudge]

theorem judgeStart_dish (s : State) (g : SlotId) (d : DishId) : (s.judgeStart g).dish d = s.dish d := by
  rw [judgeStart_rest]; rfl

theorem judgeStart_quiet (h : s.Quiet) (g : SlotId) : (s.judgeStart g).Quiet := by
  rw [judgeStart_rest]; exact h

/-- A report of a member of a LOADING group that shows no fault, no change of the switch lock and the profile loaded has the group
judged, and no round follows. -/
theorem exec_report_acknowledges (ha : ReportAwaited d s) (hq : s.Quiet) (hf : r.fault = 0) (hp : r.profileLoaded = true)
    (hsw : r.switchLock = (s.dish d).switchLock) (hm : (s.dish d).motion = .engaged) (hg : (s.dish d).group = some g)
    (hl : s.lockRequested d = false) (hx : (s.group g).state = .loading) :
    exec (.validReport d r) s = .next ((s.acknowledged g d r).judgeStart g) := by
  have hd := stored_dish s d r
  have hmot : (((s.acknowledged g d r).judgeStart g).dish d).motion = .engaged := by
    rw [judgeStart_dish]
    exact (congrArg Dish.motion hd).trans hm
  have hrules : (s.stored d r).reportRules d = s.stored d r := by
    rw [reportRules_of_clear (by rw [hd]; exact hf), stateRules_moving (.inl (by rw [hd]; exact hm))]
  have hanswers : (s.stored d r).answers d (s.dish d).switchLock = (s.acknowledged g d r).judgeStart g := by
    unfold State.answers
    rw [lockReport_of_unrequested (s := s.stored d r) hl, switchReport_same (by rw [hd]; exact hsw),
      groupReport_acknowledges (s := s.stored d r) (g := g) (by rw [hd]; exact hg) hx (by rw [hd]; exact hp)]
    change (((s.acknowledged g d r).judgeStart g).stowReport d).shedReport d = _
    rw [stowReport_other (by rw [hmot]; nofun), shedReport_other (by rw [hmot]; nofun)]
  rw [exec_report ha, hrules, hanswers, settle_of_quiet _ (judgeStart_quiet (s := s.acknowledged g d r) hq g)]

/-- What an acknowledgement leaves alone: motion states and group fields, the other groups, and every block but the ring. -/
theorem acknowledged_rest (hx : (s.group g).state = .loading) (d : DishId) (r : Report) :
    let t := (s.acknowledged g d r).judgeStart g
    (∀ e, (t.dish e).motion = (s.dish e).motion ∧ (t.dish e).group = (s.dish e).group)
      ∧ (∀ k, k ≠ g → t.group k = s.group k)
      ∧ t.streams = s.streams ∧ t.orders = s.orders ∧ t.feeder = s.feeder
      ∧ t.stow = s.stow ∧ t.melt = s.melt ∧ t.locks = s.locks ∧ t.sources = s.sources := by
  intro t
  have hrest : t = { s.acknowledged g d r with
      ring := { (s.acknowledged g d r).ring with slots := t.ring.slots }, groups := t.groups } := judgeStart_rest _ g
  refine ⟨fun e => ?_, fun k hk => ?_, by rw [hrest]; rfl, by rw [hrest]; rfl, by rw [hrest]; rfl, by rw [hrest]; rfl,
    by rw [hrest]; rfl, by rw [hrest]; rfl, by rw [hrest]; rfl⟩
  · have hdish : t.dish e = (s.stored d r).dish e := judgeStart_dish _ g e
    rw [hdish]
    by_cases he : e = d
    · subst he; rw [stored_dish]; exact ⟨rfl, rfl⟩
    · rw [stored_dish_ne s d r he]; exact ⟨rfl, rfl⟩
  · have hload : ((s.acknowledged g d r).group g).state = .loading := by rw [acknowledged_group]; exact hx
    rw [((touches_judgeStart hload).group k (by rwa [group_mem_places])).1]
    exact ((touches_setMember (s.stored d r) g d _).group k (by simpa using hk)).1

end

end Sys2Proof.Machine
end

section
/-! Exclusions from a LOADING group (R49): those of the load acknowledge limit (R46). -/

namespace Sys2Proof.Machine

/-! ## Members excluded one after another -/

section
variable (s : State) (g : SlotId) (d : DishId) (why : ExclReason)

theorem touches_expelled : Touches [.group g, .dish d] s (s.expelled g d why) :=
  (((touches_setMember s g d _).mono (by simp)).after (touches_leaveGroup _ d) (by simp)).after
    (touches_stopUnlessLost _ d) (by simp)

theorem within_expelled : Within s (s.expelled g d why) :=
  (within_setMember _ _ _ _).trans <| (within_leaveGroup _ _).trans (within_stopUnlessLost _ _)

/-- A group with the entries of some dishes excluded. -/
def Group.without (x : Group) (ds : List DishId) (why : ExclReason) (n : Frame) : Group :=
  { x with members := x.members.map fun m => if m.order.dish ∈ ds then { m with status := .excluded why n } else m }

theorem expelled_without : (s.expelled g d why).group g = (s.group g).without [d] why s.ring.frame := by
  rw [expelled_group]; simp [Group.without, Group.setMember]

/-- Excluded members are no active ones; all others are as they were. -/
theorem without_active (x : Group) (ds : List DishId) (n : Frame) :
    (x.without ds why n).active = x.active.filter fun m => decide (m.order.dish ∉ ds) := by
  unfold Group.active Group.without; dsimp only
  induction x.members with
  | nil => rfl
  | cons m ms ih =>
    rw [List.map_cons, List.filter_cons, List.filter_cons, ih]
    by_cases hd : m.order.dish ∈ ds
    · rw [if_pos hd, if_neg nofun]; split
      · rw [List.filter_cons, if_neg (by simpa using hd)]
      · rfl
    · rw [if_neg hd]; split
      · rw [List.filter_cons, if_pos (by simpa using hd)]
      · rfl

theorem mem_expelled_active {m : Member} :
    m ∈ ((s.expelled g d why).group g).active ↔ m ∈ (s.group g).active ∧ m.order.dish ≠ d := by
  rw [expelled_without, without_active]; simp

theorem mem_expelled_activeDishes {e : DishId} :
    e ∈ ((s.expelled g d why).group g).activeDishes ↔ e ∈ (s.group g).activeDishes ∧ e ≠ d := by
  simp only [Group.activeDishes, List.mem_map, mem_expelled_active]
  constructor
  · rintro ⟨m, ⟨hm, hne⟩, rfl⟩; exact ⟨⟨m, hm, rfl⟩, hne⟩
  · rintro ⟨⟨m, hm, rfl⟩, hne⟩; exact ⟨m, ⟨hm, hne⟩, rfl⟩

theorem exclude_activeDishes : ((s.exclude g d why).group g).activeDishes = ((s.expelled g d why).group g).activeDishes := by
  rw [exclude_eq]
  unfold Group.activeDishes Group.active
  rw [(keepsMembers_afterExclusion (s.expelled g d why) g).1]

end

/-! ## The dish of a member not acknowledged -/

/-- What a dish bears that has left its group: STOPPING with STOP and no reservation, unless it is FAULT or OFFLINE (R49). -/
def departed (c : Dish × Command × Option Reservation) : Dish × Command × Option Reservation :=
  if c.1.motion = .fault ∨ c.1.motion = .offline then ({ c.1 with group := none }, c.2)
  else ({ c.1 with group := none, motion := .stopping }, .stop, none)

/-- A LOADING group has an active member of the dish that has not acknowledged. -/
def State.Unacked (s : State) (g : SlotId) (d : DishId) : Prop :=
  (s.group g).state = .loading ∧ ∃ m ∈ (s.group g).active, m.order.dish = d ∧ m.acked = false

section
variable {s : State} {g : SlotId} {d e : DishId} {why : ExclReason}

theorem State.Unacked.mem_activeDishes (h : s.Unacked g d) : d ∈ (s.group g).activeDishes := by
  obtain ⟨-, m, hm, rfl, -⟩ := h
  exact List.mem_map_of_mem hm

/-- A LOADING group that an exclusion has left with an active member is judged for its start (R46, R49). -/
theorem afterExclusion_loading (hx : (s.group g).state = .loading) {m : Member} (hm : m ∈ (s.group g).active) :
    s.afterExclusion g = s.judgeStart g := by
  have hne : ¬ (s.group g).active.isEmpty = true := fun he => List.not_mem_nil (List.isEmpty_iff.1 he ▸ hm)
  unfold State.afterExclusion
  rw [if_neg hne, judgeGroup_loading hx]

/-- While a member has not acknowledged, an exclusion does not start its group. -/
theorem State.Unacked.afterExclusion (h : s.Unacked g d) : s.afterExclusion g = s := by
  obtain ⟨hx, m, hm, -, ha⟩ := h
  rw [afterExclusion_loading hx hm, judgeStart_waits hm ha]

/-- An exclusion leaves the other members that have not acknowledged as they were, with their dishes. -/
theorem State.Unacked.exclude (h : s.Unacked g d) (he : d ≠ e) :
    (s.exclude g e why).Unacked g d ∧ (s.exclude g e why).core d = s.core d := by
  obtain ⟨hx, m, hm, hmd, ha⟩ := h
  have hstays : (s.expelled g e why).Unacked g d := by
    refine ⟨?_, m, (mem_expelled_active s g e why).2 ⟨hm, hmd ▸ he⟩, hmd, ha⟩
    rw [expelled_without]; exact hx
  rw [exclude_eq, hstays.afterExclusion]
  exact ⟨hstays, (touches_expelled s g e why).core_eq (by simpa using he)⟩

theorem exclude_departed : (s.exclude g d why).core d = departed (s.core d)
    ∧ d ∉ ((s.exclude g d why).group g).activeDishes := by
  refine ⟨(exclude_core s g d why).trans (expelled_core s g d why), ?_⟩
  rw [exclude_activeDishes, mem_expelled_activeDishes]
  exact fun h => h.2 rfl

/-- The exclusion of another member does not come back to a dish that is no active member. -/
theorem exclude_outside (h : d ∉ (s.group g).activeDishes) (he : d ≠ e) :
    (s.exclude g e why).core d = s.core d ∧ d ∉ ((s.exclude g e why).group g).activeDishes := by
  have hout : d ∉ ((s.expelled g e why).group g).activeDishes := fun hd => h ((mem_expelled_activeDishes s g e why).1 hd).1
  refine ⟨?_, by rwa [exclude_activeDishes]⟩
  rw [exclude_eq, (touches_afterExclusion _ g).core_eq (by rwa [dish_mem_places]),
    (touches_expelled s g e why).core_eq (by simpa using he)]

theorem excludeAll_cons (s : State) (g : SlotId) (e : DishId) (ds : List DishId) (why : ExclReason) :
    s.excludeAll g (e :: ds) why =
      (if e ∈ (s.group g).activeDishes then s.exclude g e why else s).excludeAll g ds why := by
  simp only [State.excludeAll, State.onDishes, List.foldl_cons, List.contains_iff_mem]

theorem excludeAll_outside (ds : List DishId) (h : d ∉ (s.group g).activeDishes) :
    (s.excludeAll g ds why).core d = s.core d := by
  induction ds generalizing s with
  | nil => rfl
  | cons e ds ih =>
    rw [excludeAll_cons]; split
    · next he =>
      obtain ⟨hcore, hout⟩ := exclude_outside (why := why) h (ne_of_mem_of_not_mem he h).symm
      rw [ih hout, hcore]
    · exact ih h

/-- At the load acknowledge limit the dish of a member not acknowledged leaves its group (R46, R49). -/
theorem State.Unacked.excludeAll (h : s.Unacked g d) {ds : List DishId} (hd : d ∈ ds) :
    (s.excludeAll g ds why).core d = departed (s.core d) := by
  induction ds generalizing s with
  | nil => cases hd
  | cons e ds ih =>
    rw [excludeAll_cons]
    by_cases he : d = e
    · subst he
      rw [if_pos h.mem_activeDishes, excludeAll_outside ds exclude_departed.2, exclude_departed.1]
    · have hd : d ∈ ds := (List.mem_cons.1 hd).resolve_left he
      split
      · obtain ⟨hstays, hcore⟩ := h.exclude (why := why) he
        rw [ih hstays hd, hcore]
      · exact ih h hd

theorem departed_spec (c : Dish × Command × Option Reservation) : (departed c).1.group = none
    ∧ (departed c).1.motion.atCall = false
    ∧ (c.1.motion ≠ .fault → c.1.motion ≠ .offline →
      (departed c).1.motion = .stopping ∧ (departed c).2 = (.stop, none)) := by
  unfold departed; split
  · next h =>
    refine ⟨rfl, ?_, fun hf ho => absurd h (not_or.2 ⟨hf, ho⟩)⟩
    rcases h with h | h
    · exact congrArg Motion.atCall h
    · exact congrArg Motion.atCall h
  · exact ⟨rfl, rfl, fun _ _ => ⟨rfl, rfl⟩⟩

end

end Sys2Proof.Machine
end

section
/-! The load acknowledge limit of a group of which some have acknowledged: the others are excluded, and it starts (R46). -/

namespace Sys2Proof.Machine

/-! ## All exclusions, then the start -/

/-- The members of a list excluded, their group not yet judged. -/
def State.expelAll (s : State) (g : SlotId) (ds : List DishId) (why : ExclReason) : State :=
  s.onDishes ds fun w d => w.expelled g d why

section
variable (s : State) (g : SlotId) (d : DishId) (ds : List DishId) (why : ExclReason)

theorem expelAll_cons : s.expelAll g (d :: ds) why = (s.expelled g d why).expelAll g ds why := rfl

theorem within_expelAll : Within s (s.expelAll g ds why) := within_onDishes _ _ _ fun w d => within_expelled w g d why

theorem touches_expelAll : Touches (.group g :: ds.map .dish) s (s.expelAll g ds why) :=
  touches_foldl _ ds (fun d hd w => (touches_expelled w g d why).mono (by simpa using hd)) s

theorem without_without (x : Group) (n : Frame) : (x.without [d] why n).without ds why n = x.without (d :: ds) why n := by
  unfold Group.without; dsimp only
  rw [List.map_map]
  congr 1
  refine List.map_congr_left fun m _ => ?_
  by_cases hd : m.order.dish = d <;> by_cases hds : m.order.dish ∈ ds <;> simp_all

theorem expelAll_group : (s.expelAll g ds why).group g = (s.group g).without ds why s.ring.frame := by
  induction ds generalizing s with
  | nil => simp [State.expelAll, State.onDishes, Group.without]
  | cons d ds ih =>
    rw [expelAll_cons, ih, (within_expelled s g d why).frame_eq, expelled_without, without_without]

end

/-- A LOADING group in which just the active members of the dishes listed have not acknowledged, each of them once, and some other
has. -/
structure AckPending (g : SlotId) (ds : List DishId) (s : State) : Prop where
  loading : (s.group g).state = .loading
  nodup : ds.Nodup
  listed : ∀ d ∈ ds, d ∈ (s.group g).activeDishes
  unacked : ∀ m ∈ (s.group g).active, m.acked = false ↔ m.order.dish ∈ ds
  some_acked : ∃ m ∈ (s.group g).active, m.acked = true

section
variable {s : State} {g : SlotId} {d : DishId} {ds : List DishId} {why : ExclReason}

theorem AckPending.expelled (h : AckPending g (d :: ds) s) : AckPending g ds (s.expelled g d why) where
  loading := by rw [expelled_without]; exact h.loading
  nodup := (List.nodup_cons.1 h.nodup).2
  listed e he := (mem_expelled_activeDishes s g d why).2
    ⟨h.listed e (List.mem_cons_of_mem _ he), ne_of_mem_of_not_mem he (List.nodup_cons.1 h.nodup).1⟩
  unacked m hm := by
    obtain ⟨hm, hd⟩ := (mem_expelled_active s g d why).1 hm
    rw [h.unacked m hm, List.mem_cons]; exact or_iff_right hd
  some_acked := by
    obtain ⟨m, hm, ha⟩ := h.some_acked
    refine ⟨m, (mem_expelled_active s g d why).2 ⟨hm, fun hd => ?_⟩, ha⟩
    rw [(h.unacked m hm).2 (hd ▸ List.mem_cons_self)] at ha; cases ha

theorem AckPending.afterExclusion (h : AckPending g ds s) : s.afterExclusion g = s.judgeStart g := by
  obtain ⟨m, hm, -⟩ := h.some_acked
  exact afterExclusion_loading h.loading hm

/-- Excluded one after another, the members not acknowledged leave a group that is judged once all are gone. -/
theorem AckPending.excludeAll (h : AckPending g (d :: ds) s) :
    s.excludeAll g (d :: ds) why = (s.expelAll g (d :: ds) why).judgeStart g := by
  induction ds generalizing s d with
  | nil =>
    rw [excludeAll_cons, if_pos (h.listed d List.mem_cons_self)]
    exact h.expelled.afterExclusion
  | cons e ds ih =>
    have hrest : AckPending g (e :: ds) (s.expelled g d why) := h.expelled
    obtain ⟨m, hm, rfl⟩ := List.mem_map.1 (hrest.listed e List.mem_cons_self)
    have hwaits := judgeStart_waits hm ((hrest.unacked m hm).2 List.mem_cons_self)
    rw [excludeAll_cons, if_pos (h.listed d List.mem_cons_self), exclude_eq, hrest.afterExclusion, hwaits, expelAll_cons]
    exact ih hrest

theorem AckPending.expelAll_acked (h : AckPending g ds s) : ∀ m ∈ ((s.expelAll g ds why).group g).active, m.acked = true := by
  intro m hm
  rw [expelAll_group, without_active, List.mem_filter, decide_eq_true_eq] at hm
  rw [← Bool.not_eq_false, h.unacked m hm.1]; exact hm.2

/-- The group as the limit leaves it, before the rounds that follow (R46). -/
theorem AckPending.excluded_group (h : AckPending g (d :: ds) s) : (s.excludeAll g (d :: ds) why).group g =
    ((s.group g).without (d :: ds) why s.ring.frame).started (s.ring.frame + 2) := by
  rw [h.excludeAll, judgeStart_group h.expelAll_acked, expelAll_group, (within_expelAll s g _ why).frame_eq]

/-- The members that have acknowledged are sent GO, a move-locked one apart (R23, R46). -/
theorem AckPending.excluded_slot (h : AckPending g (d :: ds) s) {m : Member} (hm : m ∈ (s.group g).active)
    (ha : m.acked = true) (hl : s.moveLocked m.order.dish = false) :
    (s.excludeAll g (d :: ds) why).slot m.order.dish = .go (s.ring.frame + 2) := by
  have hw := within_expelAll s g (d :: ds) why
  have hstays : m.order.dish ∈ ((s.expelAll g (d :: ds) why).group g).activeDishes := by
    refine List.mem_map_of_mem ?_
    rw [expelAll_group, without_active, List.mem_filter, decide_eq_true_eq, ← h.unacked m hm, ha]
    exact ⟨hm, nofun⟩
  rw [h.excludeAll, judgeStart_slot h.expelAll_acked, if_pos ⟨hstays, by rw [hw.moveLocked_eq]; exact hl⟩, hw.frame_eq]

/-- The limit puts nobody at a round's call. -/
theorem AckPending.excluded_nobody (h : AckPending g (d :: ds) s) (hn : NobodyAdmitted s) :
    NobodyAdmitted (s.excludeAll g (d :: ds) why) := by
  have hload : ((s.expelAll g (d :: ds) why).group g).state = .loading := by rw [expelAll_group]; exact h.loading
  have ht := (touches_expelAll s g (d :: ds) why).then (touches_judgeStart hload)
  rw [← h.excludeAll] at ht
  refine hn.of_same ?_ (by rw [ht.orders]) ht.listed (fun k e => ?_) (by rw [(within_excludeAll s g _ why).locks_eq])
  · rw [ht.stow (by simp [stow_notMem_places])]; exact hn.1
  · by_cases hk : k = g
    · subst hk; rw [h.excluded_group] at e; cases e
    · rwa [(ht.group k (by simp [group_mem_places, hk])).1] at e

end

/-! ## The members that have not acknowledged -/

/-- The dishes of the active members that have not acknowledged. -/
abbrev Group.unackedDishes (x : Group) : List DishId := x.dishesWhere fun m => !m.acked

section
variable {s : State} {g : SlotId}

theorem mem_unackedDishes {x : Group} {d : DishId} :
    d ∈ x.unackedDishes ↔ ∃ m ∈ x.active, m.acked = false ∧ m.order.dish = d := by
  simp [Group.dishesWhere, and_assoc]

/-- Where no dish has two entries, a dish is listed by its member's mark. -/
theorem dish_mem_unackedDishes {x : Group} (hn : (x.members.map (·.order.dish)).Nodup) {m : Member} (hm : m ∈ x.members) :
    m.order.dish ∈ x.unackedDishes ↔ m.isActive = true ∧ m.acked = false := by
  rw [mem_unackedDishes]
  constructor
  · rintro ⟨m', hm', ha, hd⟩
    obtain ⟨hmem, hact⟩ := List.mem_filter.1 hm'
    obtain rfl : m' = m := List.inj_on_of_nodup_map hn hmem hm hd
    exact ⟨hact, ha⟩
  · rintro ⟨hact, ha⟩; exact ⟨m, List.mem_filter.2 ⟨hm, hact⟩, ha, rfl⟩

theorem ackPending_unackedDishes (hx : (s.group g).state = .loading) (hn : ((s.group g).members.map (·.order.dish)).Nodup)
    (ha : ∃ m ∈ (s.group g).active, m.acked = true) : AckPending g (s.group g).unackedDishes s where
  loading := hx
  nodup := hn.sublist ((List.filter_sublist.trans List.filter_sublist).map _)
  listed d hd := by
    obtain ⟨m, hm, -, rfl⟩ := mem_unackedDishes.1 hd
    exact List.mem_map_of_mem hm
  unacked m hm := by
    obtain ⟨hmem, hact⟩ := List.mem_filter.1 hm
    rw [dish_mem_unackedDishes hn hmem]; exact (and_iff_right hact).symm
  some_acked := ha

theorem without_unackedDishes {x : Group} (hn : (x.members.map (·.order.dish)).Nodup) (why : ExclReason) (n : Frame) :
    (x.without x.unackedDishes why n).members =
      x.members.map fun m => if m.isActive ∧ m.acked = false then { m with status := .excluded why n } else m := by
  refine List.map_congr_left fun m hm => ?_
  simp only [dish_mem_unackedDishes hn hm]

theorem exec_loadAckLimit {f : Frame} (hr : s.resetHeld = false) (hx : (s.group g).state = .loading)
    (hf : (s.group g).loadFrame = some f) (h10 : f + 10 = s.ring.frame) :
    exec (.loadAckLimit g) s = .next (s.excludeAll g (s.group g).unackedDishes .noAck).settle := by
  have hreached : s.loadLimitReached g = true := by
    unfold State.loadLimitReached
    rw [hf, Option.map_some, h10]; simp [hx]
  exact (event_taken hr).trans (congrArg _ (if_pos hreached))

end

/-! ## Acknowledgements and the limit -/

/-- Settles O18: a report's acknowledgement has the group judged alone; at the limit each member not acknowledged departs, and the last
exclusion has the group start with the rest. -/
theorem loadingGroupStarts : Obligations.LoadingGroupStarts := by
  unfold Obligations.LoadingGroupStarts
  intro g s hx
  constructor
  · intro d r ha hq hf hp hsw hm hg hl members whole
    have hgroup := acknowledged_group s g d r
    have hall : (∀ m ∈ ((s.acknowledged g d r).group g).active, m.acked = true) ↔ whole := by
      rw [hgroup]; exact acknowledge_all _ _
    have hdishes : ((s.acknowledged g d r).group g).activeDishes = (s.group g).activeDishes := by
      rw [hgroup]; exact setMember_activeDishes _ _ _ (fun _ => rfl) fun _ => rfl
    obtain ⟨hmotion, hothers, hrest⟩ := acknowledged_rest hx d r
    refine ⟨_, exec_report_acknowledges ha hq hf hp hsw hm hg hl hx, fun hw => ⟨?_, fun e => ?_⟩, fun hw => ?_, hmotion, hothers, hrest⟩
    · rw [judgeStart_group (hall.2 hw), hgroup]; rfl
    · rw [judgeStart_slot (hall.2 hw), hdishes, acknowledged_moveLocked hsw]; rfl
    · obtain ⟨m, hm, ha⟩ := not_forall₂.1 fun h => hw (hall.1 h)
      rw [judgeStart_waits hm (by simpa using ha), hgroup]
      exact ⟨rfl, fun _ => rfl⟩
  · intro f hr hload h10
    refine ⟨_, exec_loadAckLimit hr hx hload h10, fun m hm ha => ?_, fun hn hun hacked => ?_,
      ((within_excludeAll _ _ _ _).trans (within_settle _)).fixed⟩
    · have hcore := State.Unacked.excludeAll (s := s) (g := g) (d := m.order.dish) (why := .noAck) ⟨hx, m, hm, rfl, ha⟩
        (mem_unackedDishes.2 ⟨m, hm, ha, rfl⟩)
      obtain ⟨hgroup, hcall, hstops⟩ := departed_spec (s.core m.order.dish)
      have hsettled := settle_core ((congrArg (fun c => c.1.motion.atCall) hcore).trans hcall)
      obtain ⟨h1, h2, h3⟩ := core_eq (hsettled.trans hcore)
      rw [h1, h2, h3]
      refine ⟨hgroup, fun hf ho => ?_⟩
      obtain ⟨hmot, hrest⟩ := hstops hf ho
      exact ⟨hmot, congrArg Prod.fst hrest, congrArg Prod.snd hrest⟩
    · have hpend := ackPending_unackedDishes hx hn hacked
      have hmembers := without_unackedDishes hn .noAck s.ring.frame
      obtain ⟨m, hm, ha⟩ := hun
      obtain ⟨d, ds, hds⟩ := List.exists_cons_of_ne_nil (List.ne_nil_of_mem (mem_unackedDishes.2 ⟨m, hm, ha, rfl⟩))
      rw [hds] at hpend hmembers ⊢
      have hgroup := hpend.excluded_group (why := .noAck)
      refine ⟨?_, fun hnc hstow e he hack hlock => ?_⟩
      · rw [((spares_settle _).group g (by rw [hgroup]; rfl)).1, hgroup, ← hmembers]; rfl
      · have hquiet := touches_settle_of_nobody (hpend.excluded_nobody (why := .noAck) ⟨hstow, .inl hnc⟩)
        rw [(hquiet.dish _ (by simp)).2.1]
        exact hpend.excluded_slot he hack hlock

end Sys2Proof.Machine
end

section
/-! The record last sent on the ring: a send alone puts one there, and it bars what a move-locked dish may not hear (R24). -/

namespace Sys2Proof.Machine

/-! ## Operations that send nothing -/

theorem Within.out_eq {s t : State} (h : Within s t) : t.ring.out = s.ring.out := congrArg Fixed.out h.fixed

theorem WithinLocks.out_eq {d : DishId} {s t : State} (h : WithinLocks d s t) : t.ring.out = s.ring.out := h.within.out_eq

theorem foldl_out {α : Type} (f : State → α → State) (h : ∀ s x, (f s x).ring.out = s.ring.out) (xs : List α) (s : State) :
    (xs.foldl f s).ring.out = s.ring.out := by
  induction xs generalizing s with
  | nil => rfl
  | cons x xs ih => exact (ih _).trans (h s x)

section
variable (s : State)

@[simp] theorem ite_out (c : Prop) [Decidable c] (t u : State) :
    (if c then t else u).ring.out = if c then t.ring.out else u.ring.out := apply_ite (fun x : State => x.ring.out) c t u

@[simp] theorem settle_out : s.settle.ring.out = s.ring.out := (within_settle s).out_eq
@[simp] theorem askRound_out : s.askRound.ring.out = s.ring.out := rfl
@[simp] theorem askScan_out : s.askScan.ring.out = s.ring.out := rfl
@[simp] theorem askJudge_out : s.askJudge.ring.out = s.ring.out := rfl
@[simp] theorem passTo_out (n : Nat) : (s.passTo n).ring.out = s.ring.out := rfl
@[simp] theorem drawFresh_out : s.drawFresh.ring.out = s.ring.out := rfl

@[simp] theorem answer_out (src : Sender) (r : Request) (st : Status) (bs : List Byte) :
    (s.answer src r st bs).ring.out = s.ring.out := congrArg Ring.out (putHolder_ring s src _)

@[simp] theorem respond_out (src : Sender) (c : Byte) (st : Status) (bs : List Byte) :
    (s.respond src c st bs).ring.out = s.ring.out := congrArg Ring.out (putHolder_ring s src _)

@[simp] theorem refuse_out (src : Sender) (r : Request) (st : Status) : (s.refuse src r st).ring.out = s.ring.out :=
  answer_out _ _ _ _ _

@[simp] theorem endTransaction_out (p : Port) : (s.endTransaction p).ring.out = s.ring.out := by rw [endTransaction_ports]

@[simp] theorem setViolation_out (p : Port) (v : Violation) : (s.setViolation p v).ring.out = s.ring.out := by
  rw [setViolation_ports]

@[simp] theorem setSource_out (x : Source) (f : SourceState → SourceState) : (s.setSource x f).ring.out = s.ring.out := rfl
@[simp] theorem setStream_out (g : SlotId) (f : Stream → Stream) : (s.setStream g f).ring.out = s.ring.out := rfl
@[simp] theorem setGroupState_out (g : SlotId) (x : GroupState) : (s.setGroupState g x).ring.out = s.ring.out := rfl

theorem onSlot_out (src : Sender) (r : Request) (n : Nat) (take : SlotId → State)
    (h : ∀ g, (take g).ring.out = s.ring.out) : (s.onSlot src r n take).ring.out = s.ring.out := by
  unfold State.onSlot; split
  · exact h _
  · simp

@[simp] theorem onStream_out (src : Sender) (r : Request) (g : SlotId) (take : State)
    (h : take.ring.out = s.ring.out) : (s.onStream src r g take).ring.out = s.ring.out := by
  simp [State.onStream, h]

@[simp] theorem refuseWrite_out (src : Sender) : (s.refuseWrite src).ring.out = s.ring.out := by simp [State.refuseWrite]

@[simp] theorem judgeWrite_out (src : Sender) (any : Bool) (oks : List Bool) (c : Bool) (take : State)
    (h : take.ring.out = s.ring.out) : (s.judgeWrite src any oks c take).ring.out = s.ring.out := by
  unfold State.judgeWrite; split
  · simp
  · split
    · exact answer_out _ _ _ _ _
    · simp [h]

end

/-! ## Weather -/

section
variable (s : State) (m : MastId)

@[simp] theorem setMast_out (x : Mast) : (s.setMast m x).ring.out = s.ring.out := rfl
@[simp] theorem capture_out (x : SnapEntry) : (s.capture m x).ring.out = s.ring.out := rfl
@[simp] theorem offerSnapshot_out (x : SnapEntry) : (s.offerSnapshot m x).ring.out = s.ring.out := by simp [State.offerSnapshot]

@[simp] theorem noteTrip_out (x : Option Level) : (s.noteTrip m x).ring.out = s.ring.out := by
  unfold State.noteTrip; dsimp only; split <;> rfl

@[simp] theorem plainTrigger_out : s.plainTrigger.ring.out = s.ring.out := (within_plainTrigger s).out_eq
@[simp] theorem judgeWeather_out : s.judgeWeather.ring.out = s.ring.out := (within_judgeWeather s).out_eq
@[simp] theorem enterClear_out : s.enterClear.ring.out = s.ring.out := (within_enterClear s).out_eq

@[simp] theorem goStale_out : (s.goStale m).ring.out = s.ring.out := by simp [State.goStale]

@[simp] theorem takeSample_out (mean gust : Nat) : (s.takeSample m mean gust).ring.out = s.ring.out :=
  (within_answerSample _ m _).out_eq.trans (by simp)

theorem writeMast_out (flags : Vector (Option Bool) 6) : (State.writeMast flags s m).ring.out = s.ring.out := by
  unfold State.writeMast; split
  · rfl
  · simp [State.putConfigured]

theorem judgeMast_out (flags : Vector (Option Bool) 6) : (State.judgeMast flags s m).ring.out = s.ring.out := by
  simp [State.judgeMast, writeMast_out]

@[simp] theorem takeMasts_out (flags : Vector (Option Bool) 6) : (s.takeMasts flags).ring.out = s.ring.out := by
  have hwrite := foldl_out _ (fun s m => writeMast_out s m flags) allMasts s
  unfold State.takeMasts State.judgeStaleWrite; split
  · exact (plainTrigger_out _).trans hwrite
  · exact foldl_out _ (fun s m => judgeMast_out s m flags) allMasts s

end

/-! ## Orders and streams -/

section
variable (s : State) (g : SlotId)

@[simp] theorem removeOrder_out (tag : Nat) : (s.removeOrder tag).ring.out = s.ring.out := by simp [State.removeOrder]

@[simp] theorem endResetCommit_out : s.endResetCommit.ring.out = s.ring.out := rfl

@[simp] theorem commit_out (x : Staging) : (s.commit x).ring.out = s.ring.out := by simp [State.commit]

@[simp] theorem hold_out (x : HeldFrom) : (s.hold g x).ring.out = s.ring.out := (within_hold s g x).out_eq
@[simp] theorem endGroup_out (r : GroupResult) : (s.endGroup g r).ring.out = s.ring.out := (within_endGroup s g r).out_eq
@[simp] theorem releaseBraked_out : (s.releaseBraked g).ring.out = s.ring.out := (within_releaseBraked s g).out_eq

@[simp] theorem pushEntries_out (es : List TrackEntry) : (s.pushEntries g es).ring.out = s.ring.out := by
  simp [State.pushEntries, State.revive]

@[simp] theorem flush_out : (s.flush g).ring.out = s.ring.out := by simp [State.flush]

@[simp] theorem clearFault_out : (s.clearFault g).ring.out = s.ring.out := by simp [State.clearFault]

@[simp] theorem driveReset_out : s.driveReset.ring.out = s.ring.out := by
  unfold State.driveReset; dsimp only
  rw [askJudge_out, (within_resetStow _).out_eq, (within_clearSheds _ _).out_eq, (within_dissolveAll _ _).out_eq]

end

/-! ## Feeder, heaters and locks -/

section
variable (s : State) (d : DishId)

@[simp] theorem takeAllowance_out (v : Nat) : (s.takeAllowance v).ring.out = s.ring.out := by
  have hshed : (s.shedTo v).ring.out = s.ring.out := by
    unfold State.shedTo; split
    · exact (within_shedHeaters (s.putAllowance v)).out_eq
    · rfl
  exact ((within_judgeOverCommit _ _).trans (within_noteCut _ _ _)).out_eq.trans hshed

theorem addEnergy_out (n : Nat) (z : ZoneId) : (s.addEnergy n z).ring.out = s.ring.out := by
  unfold State.addEnergy; dsimp only; split <;> rfl

theorem setIce_out : (s.setIce d).ring.out = s.ring.out := by
  unfold State.setIce; split
  · rfl
  · exact (within_excludeMember _ d .iced).out_eq

theorem meltZones_out (kinds : List ZoneKind) (n : Nat) (ice : Bool) : (s.meltZones kinds n ice d).ring.out = s.ring.out := by
  have hzones := foldl_out (fun (s : State) k => s.addEnergy n ⟨d, k⟩) (fun s k => addEnergy_out s n ⟨d, k⟩) kinds s
  simp [State.meltZones, setIce_out, hzones]

theorem takeOffer_out (o : ShedOffer) : (s.takeOffer d o).ring.out = s.ring.out := by cases o <;> rfl

@[simp] theorem meltWalk_out (kinds : List ZoneKind) (n : Nat) (ice shed : Bool) (ds : List DishId) (s : State) :
    (meltWalk kinds n ice shed ds s).1.ring.out = s.ring.out := by
  induction ds generalizing s with
  | nil => rfl
  | cons d ds ih => exact (ih _).trans ((takeOffer_out _ _ _).trans (meltZones_out s d kinds n ice))

@[simp] theorem placeLock_out (src : Sender) (n : StationId) (sc : Scope) (tag : Nat) :
    (s.placeLock src n d sc tag).ring.out = s.ring.out := by
  have hplace : ∀ i, (s.place n d sc tag i).ring.out = s.ring.out := fun i => (within_answerPlacing _ _ _ _).out_eq
  unfold State.placeLock; split
  · simp
  · split
    · simp
    · split <;> simp [hplace]

@[simp] theorem removeLock_out (src : Sender) (i : Fin 96) (e : LockEntry) :
    (s.removeLock src i e).ring.out = s.ring.out := by
  have hgone : ((s.putLock i none).answerRemoval e).ring.out = s.ring.out := (within_answerRemoval (s.putLock i none) e).out_eq
  simp [State.removeLock, hgone]

@[simp] theorem completeCensus_out (n : StationId) : (s.completeCensus n).ring.out = s.ring.out := by
  unfold State.completeCensus; dsimp only
  rw [askRound_out, (within_reblockAll _).out_eq, setSource_out]

end

/-! ## Configuration, attention and ports -/

section
variable (s : State)

@[simp] theorem dishWritten_out (d : DishId) (c : DishSettings) : (s.dishWritten d c).ring.out = s.ring.out := by
  unfold State.dishWritten State.answerPresent; split
  · rw [clearPresent_ring]; rfl
  · exact (within_setPresent (s.putCfg d c) d).out_eq
  all_goals rfl

@[simp] theorem writeDish_out (src : Sender) (d : DishId) (c : DishSettings) : (s.writeDish src d c).ring.out = s.ring.out := by
  unfold State.writeDish; split
  · exact answer_out _ _ _ _ _
  · exact (answer_out _ _ _ _ _).trans ((settle_out _).trans (dishWritten_out s d c))

@[simp] theorem keepCensusRaised_out : s.keepCensusRaised.ring.out = s.ring.out := by
  unfold State.keepCensusRaised; split <;> rfl

@[simp] theorem takeAttention_out (src : Sender) : (s.takeAttention src).ring.out = s.ring.out := by
  unfold State.takeAttention; dsimp only; split <;> simp

@[simp] theorem maskSources_out (mask : Byte) (xs : List Source) (n : Nat) (s : State) :
    (State.maskSources mask xs n s).ring.out = s.ring.out := by
  induction xs generalizing n s with
  | nil => rfl
  | cons x xs ih => exact ih _ _

@[simp] theorem emptyHolders_out (p : Port) : (s.emptyHolders p).ring.out = s.ring.out := by cases p <;> rfl

@[simp] theorem portResetBlocks_out (p : Port) : (s.portResetBlocks p).ring.out = s.ring.out := by
  cases p with
  | scheduler => rfl
  | safety => rfl
  | maintenance => exact keepCensusRaised_out s

@[simp] theorem abandon_out (p : Port) : (s.abandon p).ring.out = s.ring.out := by cases p <;> rfl

end

/-! ## The ring -/

section
variable (s : State) (d : DishId)

theorem judgeLoss_out : (s.judgeLoss d).ring.out = s.ring.out :=
  (within_ite ((within_loseDish s d).trans (within_settle _)) (.refl s)).out_eq

theorem takeReport_out (r : Report) : (s.closeWindow.takeReport d r).ring.out = s.ring.out :=
  (withinLocks_takeReport s.closeWindow d r).out_eq

theorem miss_out : ((s.closeWindow.countMiss d).judgeLoss d).ring.out = s.ring.out := judgeLoss_out _ d

end

/-! ## Whole steps -/

section
variable {s t : State}

theorem event_out {take : State} (h : event s take = .next t) (k : take.ring.out = s.ring.out) : t.ring.out = s.ring.out := by
  rcases event_cases h with ⟨-, rfl⟩ | ⟨-, rfl⟩
  · rfl
  · exact k

theorem serve_out {α : Type} {src : Sender} {r : Request} {body : Body α} {take : α → State}
    (h : serve src r body s take = .next t) (k : ∀ f, (take f).ring.out = s.ring.out) : t.ring.out = s.ring.out := by
  rcases serve_cases h with ⟨-, rfl⟩ | ⟨-, rfl⟩ | ⟨-, -, rfl⟩ | ⟨f, -, -, -, rfl⟩
  · rfl
  · simp
  · simp
  · exact k f

end

/-- No step but a send puts a record on the ring. -/
theorem exec_out {i : Instr} {s t : State} (h : exec i s = .next t) (hr : i ≠ .powerOnReset) (hs : ∀ d, i ≠ .commandSend d) :
    t.ring.out = s.ring.out := by
  cases i with
  | powerOnReset => exact absurd rfl hr
  | commandSend d => exact absurd rfl (hs d)
  | frameStart => exact event_out h ((within_foldl _ within_consume _ s.nextFrame).trans (within_settle _)).out_eq
  | validReport d r => exact event_out h (by simp [takeReport_out])
  | miss d => exact event_out h (by simp [miss_out])
  | lossOfDish d => exact event_out h (judgeLoss_out s d)
  | loadAckLimit g => exact event_out h (within_ite ((within_excludeAll _ _ _ _).trans (within_settle _)) (.refl s)).out_eq
  | arrivalGrace g => exact event_out h (within_ite ((within_excludeAll _ _ _ _).trans (within_settle _)) (.refl s)).out_eq
  | orderExpiry tag => exact event_out h (by simp [(within_raise _ _ _).out_eq])
  | stowMoveTimeout d =>
    exact event_out h (within_ite (((within_faultDish s d).trans (within_markDish _ _ _ _)).trans (within_settle _)) (.refl s)).out_eq
  | shedMoveTimeout d =>
    exact event_out h (within_ite (((within_faultDish s d).trans (within_endShed _ _ _)).trans (within_settle _)) (.refl s)).out_eq
  | admissionRound => exact event_out h ((within_admissionRound s).trans (within_settle _)).out_eq
  | poweringScan => exact event_out h (within_poweringScan s).out_eq
  | mastStalenessExpiry m =>
    refine event_out h ?_
    split <;> simp
  | holdOffExpiry =>
    refine event_out h ?_
    split <;> simp
  | meltSlotExpiry z =>
    refine event_out h ?_
    split
    · rfl
    · simp [(within_slotExpired _ z).out_eq]
  | meterTimerExpiry =>
    exact event_out h ((within_foldl _ within_meterZone _ (s.passTo s.melt.meterTimer).restartMeter).trans (within_settle _)).out_eq
  | secondsCountTick => exact event_out h rfl
  | linkTimeout l => exact event_out h (by simp)
  | maintenanceLinkTimeout n => cases h; simp
  | fetchResponse src => cases h; simp
  | unknownRequest src c => cases h; simp
  | badFrame src first => cases h; cases first <;> simp
  | resetPinAsserted => cases h; rfl
  | readQueue src body | readWeather src body | readFeeder src body | cancelOrder src body | stowArray src body
  | setAllowance src body | setMeltGuard src body | writeConfigMast src body | writeConfigTrack src body
  | writeConfigMelt src body | driveReset src body | takeAttention src body | setAttentionMask src body
  | readViolation src body => exact serve_out h fun f => by simp
  | openOrder src body | windSample src body | releaseStow src body | meltOrder src body | writeConfigDish src body
  | readConfig src body | censusComplete src body | readDish src body | endAttention src body =>
    exact serve_out h fun f => by split <;> simp
  | abortGroup src body | pushTrack src body | flushTrack src body | clearTrackFault src body | readGroup src body =>
    exact serve_out h fun f => onSlot_out s _ _ _ _ fun g => by simp
  | holdGroup src body | resumeGroup src body | releaseGroup src body =>
    exact serve_out h fun f => onSlot_out s _ _ _ _ fun g => by split <;> simp
  | addMembers src body =>
    refine serve_out h fun f => ?_
    split
    · simp
    · split <;> simp
  | commitOrder src body => exact serve_out h fun f => by dsimp only; split <;> simp
  | resetWeatherSnapshot src body =>
    refine serve_out h fun f => (answer_out _ _ _ _ _).trans ?_
    split <;> rfl
  | cancelMelt src body =>
    refine serve_out h fun f => ?_
    split
    · simp
    · simp [(within_onDishes _ _ _ fun _ _ => within_cancelDish _ _ _).out_eq]
  | readMelt src body | readLocks src body =>
    refine serve_out h fun f => ?_
    split
    · simp
    · split <;> simp
  | writeConfigWind src body => exact serve_out h fun f => by simp [(within_answerWind _ _).out_eq, State.putWind]
  | writeConfigStation src body => exact serve_out h fun f => by simp [State.putStations]
  | placeLock src body =>
    refine serve_out h fun f => ?_
    split
    · rfl
    · split
      · split <;> simp
      · simp
  | releaseLock src body =>
    refine serve_out h fun f => ?_
    split
    · split
      · split
        · simp
        · split <;> simp
      · simp
    · simp
  | portReset src body =>
    exact serve_out h fun f => by simp [foldl_out _ fun s x => setSource_out s x SourceState.cleared]

/-! ## What is sent -/

theorem toSend_of_moveLocked {s : State} {d : DishId} (h : s.moveLocked d = true) :
    s.toSend d = .stop ∨ s.toSend d = .holdBrake := by
  rw [toSend_eq, h]
  cases s.slot d with
  | stop => exact .inl rfl
  | keep | load | go | trackStep | holdBrake => exact .inr rfl

/-- Settles O12: a record that was not there before has been put on the ring by a send. -/
theorem lockedDishHearsStopOrHold : Obligations.LockedDishHearsStopOrHold := by
  unfold Obligations.LockedDishHearsStopOrHold
  intro i s t r h hout hnew hlock
  by_cases hreset : i = .powerOnReset
  · subst hreset; cases h; cases hout
  · by_cases hsend : ∃ d, i = .commandSend d
    · obtain ⟨d, rfl⟩ := hsend
      have hsent : t = s ∨ t = s.sendTo d := by
        rcases event_cases h with ⟨-, rfl⟩ | ⟨-, rfl⟩
        · exact .inl rfl
        · split
          · exact .inr rfl
          · exact .inl rfl
      rcases hsent with rfl | rfl
      · exact absurd hout hnew
      · rw [sendTo_ring] at hout
        obtain rfl : SentRecord.mk d s.ring.frame (s.toSend d) = r := Option.some.inj hout
        exact toSend_of_moveLocked hlock
    · rw [exec_out h hreset fun d hd => hsend ⟨d, hd⟩] at hout
      exact absurd hout hnew

end Sys2Proof.Machine
end

section
/-! The staging area and the Order Queue: what OPEN ORDER, ADD MEMBERS, COMMIT ORDER, CANCEL ORDER and an order's expiry do to them
(R35 to R40). -/

namespace Sys2Proof.Machine

/-! ## Responses over the shared operations -/

/-- A response placed after the shared operations instead of before them. -/
theorem Within.putHolder {s t : State} (h : Within s t) (src : Sender) (r : Option Response) :
    Within (s.putHolder src r) (t.putHolder src r) := by
  have hports : (t.putHolder src r).ports = (s.putHolder src r).ports := by
    have hp := h.ports_eq
    have hs := h.settings_eq
    cases src <;>
      simp [State.putHolder, State.endTransaction, State.setAbandoned, State.freeBus, State.storeResponse, Sender.port, hp, hs]
  have hzone : ∀ (u : State) z, (u.putHolder src r).zone z = u.zone z := fun u z => by simp [State.zone]
  have hstream : ∀ (u : State) g, (u.putHolder src r).stream g = u.stream g := fun u g => by simp [State.stream]
  have hsource : ∀ (u : State) x, (u.putHolder src r).source x = u.source x := fun u x => by simp [State.source]
  have hfixed : ∀ u : State, (u.putHolder src r).fixed = { u.fixed with ports := (u.putHolder src r).ports } := fun u => by
    rw [putHolder_ports]; rfl
  refine ⟨by rw [hfixed, hfixed, hports, h.fixed], by simpa using h.orders, fun z => ?_, fun d => by simpa using h.ice d,
    fun g => ?_, fun x => ?_, fun x => ?_⟩
  · rw [hzone, hzone]; exact h.energy z
  · rw [hstream, hstream]; exact h.buffer g
  · rw [hsource, hsource]; exact h.overrun x
  · rw [hsource, hsource]; exact h.pending x

/-! ## OPEN ORDER and ADD MEMBERS (R35, R36) -/

theorem exec_openOrder {s : State} (hh : s.hears .scheduler = true) (f : OpenOrderFields) :
    exec (.openOrder .scheduler (.fields f)) s = .next (match actionOf f.action with
      | none => s.refuse .scheduler .openOrder .badField
      | some a =>
        if 1 ≤ f.tag ∧ f.tag ≤ 65535 ∧ f.deadline ≤ 65535 then
          { s with staging := some ⟨f.tag, a, f.deadline, []⟩ }.answer .scheduler .openOrder .ok []
        else s.refuse .scheduler .openOrder .badField) := serve_taken hh rfl _ _

theorem actionOf_some {n : Nat} {a : Action} : actionOf n = some a ↔ a = .position ∧ n = 0 ∨ a = .track ∧ n = 1 := by
  unfold actionOf; split <;> cases a <;> simp_all

/-- Settles O32: the action code is read first, then the ranges of tag and deadline. -/
theorem openOrderStages : Obligations.OpenOrderStages := by
  unfold Obligations.OpenOrderStages
  intro f s hh
  have hexec := exec_openOrder hh f
  refine ⟨fun a hr ha => ?_, fun hbad => ?_⟩
  · rw [actionOf_some.2 ha] at hexec; dsimp only at hexec
    rw [if_pos hr] at hexec
    exact ⟨_, hexec, rfl, rfl, rfl⟩
  · cases hact : actionOf f.action with
    | none => rw [hact] at hexec; exact hexec
    | some a =>
      rw [hact] at hexec; dsimp only at hexec
      have hle : f.action ≤ 1 := by
        rcases actionOf_some.1 hact with ⟨-, h⟩ | ⟨-, h⟩ <;> omega
      rw [if_neg fun h => hbad ⟨h.1, h.2.1, h.2.2, hle⟩] at hexec
      exact hexec

theorem exec_addMembers {s : State} (hh : s.hears .scheduler = true) (f : AddMembersFields) :
    exec (.addMembers .scheduler (.fields f)) s = .next (match s.staging with
      | none => s.refuse .scheduler .addMembers .wrongState
      | some g =>
        match s.membersOf f.records with
        | none => s.refuse .scheduler .addMembers .badField
        | some ms =>
          if repeats g.members ms then s.refuse .scheduler .addMembers .duplicate
          else if 48 < g.members.length + ms.length then s.refuse .scheduler .addMembers .full
          else
            { s with staging := some { g with members := g.members ++ ms } }.answer .scheduler .addMembers .ok
              (u8 (g.members.length + ms.length))) := serve_taken hh rfl _ _

/-- A carried record may be staged: its dish is present and its fields lie in range (R36). -/
def State.takes (s : State) (f : MemberFields) : Prop :=
  (∃ h : f.dish < 48, (s.cfg ⟨f.dish, h⟩).present = true) ∧ f.skyAz ≤ 359999 ∧ 15000 ≤ f.el ∧ f.el ≤ 90000 ∧ f.wrap ≤ 2

/-- A member record as ADD MEMBERS carries it (R178). -/
def MemberRecord.carried (m : MemberRecord) : MemberFields := ⟨m.dish.val, m.skyAz, m.el, m.wrap.place⟩

theorem wrapOf_some {n : Nat} {w : Wrap} : wrapOf n = some w ↔ w.place = n := by
  unfold wrapOf; split <;> cases w <;> simp_all [Wrap.place] <;> omega

theorem wrapOf_isSome {n : Nat} (h : n ≤ 2) : ∃ w, wrapOf n = some w := by
  interval_cases n <;> exact ⟨_, rfl⟩

theorem Wrap.place_le (w : Wrap) : w.place ≤ 2 := by cases w <;> decide

theorem presentDish_some {s : State} {n : Nat} {d : DishId} :
    s.presentDish n = some d ↔ d.val = n ∧ (s.cfg d).present = true := by
  unfold State.presentDish
  constructor
  · intro h
    split at h
    · next hn =>
      split at h
      · next hp => cases h; exact ⟨rfl, hp⟩
      · cases h
    · cases h
  · rintro ⟨rfl, hp⟩
    rw [dif_pos d.isLt, if_pos hp]

theorem memberOf_some {s : State} {f : MemberFields} {m : MemberRecord} (h : s.memberOf f = some m) :
    s.takes f ∧ m.carried = f := by
  unfold State.memberOf at h
  split at h
  · next d w hd hw =>
    obtain ⟨hval, hp⟩ := presentDish_some.1 hd
    have hplace := wrapOf_some.1 hw
    have hlt : f.dish < 48 := hval ▸ d.isLt
    obtain rfl : d = ⟨f.dish, hlt⟩ := Fin.ext hval
    split at h
    · next hr =>
      cases h
      refine ⟨⟨⟨hlt, hp⟩, hr.1, hr.2.1, hr.2.2, hplace ▸ w.place_le⟩, ?_⟩
      unfold MemberRecord.carried; rw [hplace]
    · cases h
  · cases h

theorem memberOf_isSome {s : State} {f : MemberFields} (h : s.takes f) : ∃ m, s.memberOf f = some m := by
  obtain ⟨⟨hlt, hp⟩, haz, hlo, hhi, hw⟩ := h
  obtain ⟨w, hw⟩ := wrapOf_isSome hw
  have hd : s.presentDish f.dish = some ⟨f.dish, hlt⟩ := presentDish_some.2 ⟨rfl, hp⟩
  unfold State.memberOf; rw [hd, hw]; dsimp only
  rw [if_pos ⟨haz, hlo, hhi⟩]; exact ⟨_, rfl⟩

theorem membersOf_some {s : State} {fs : List MemberFields} {ms : List MemberRecord} (h : s.membersOf fs = some ms) :
    (∀ f ∈ fs, s.takes f) ∧ ms.map MemberRecord.carried = fs := by
  induction fs generalizing ms with
  | nil => cases h; exact ⟨nofun, rfl⟩
  | cons f fs ih =>
    unfold State.membersOf at h
    split at h
    · next m ms' hm hms =>
      cases h
      obtain ⟨hgood, hcarried⟩ := memberOf_some hm
      obtain ⟨hgoods, hrest⟩ := ih hms
      exact ⟨List.forall_mem_cons.2 ⟨hgood, hgoods⟩, by rw [List.map_cons, hcarried, hrest]⟩
    · cases h

theorem membersOf_isSome {s : State} {fs : List MemberFields} (h : ∀ f ∈ fs, s.takes f) : ∃ ms, s.membersOf fs = some ms := by
  induction fs with
  | nil => exact ⟨[], rfl⟩
  | cons f fs ih =>
    obtain ⟨hf, hfs⟩ := List.forall_mem_cons.1 h
    obtain ⟨m, hm⟩ := memberOf_isSome hf
    obtain ⟨ms, hms⟩ := ih hfs
    exact ⟨m :: ms, by unfold State.membersOf; rw [hm, hms]⟩

/-- A repeated dish shows in the records as carried. -/
theorem repeats_iff {staged ms : List MemberRecord} : repeats staged ms = true ↔
    (∃ f ∈ ms.map MemberRecord.carried, ∃ x ∈ staged, x.dish.val = f.dish)
      ∨ ¬ ((ms.map MemberRecord.carried).map (·.dish)).Nodup := by
  have hdishes : (ms.map MemberRecord.carried).map (·.dish) = (ms.map (·.dish)).map Fin.val := by
    rw [List.map_map, List.map_map]; rfl
  rw [hdishes, List.nodup_map_iff Fin.val_injective]
  simp [repeats, MemberRecord.carried, Fin.ext_iff]

/-- Settles O33: the records are read one by one, and what repeats is judged on them as carried. -/
theorem addMembersJudged : Obligations.AddMembersJudged := by
  unfold Obligations.AddMembersJudged
  intro f s hh refused good
  have hexec := exec_addMembers hh f
  refine ⟨fun hs => by rw [hs] at hexec; exact hexec, fun g hs => ?_⟩
  rw [hs] at hexec; dsimp only at hexec
  refine ⟨fun ⟨m, hm, hbad⟩ => ?_, fun hgood => ?_⟩
  · cases hms : s.membersOf f.records with
    | none => rw [hms] at hexec; exact hexec
    | some ms => exact absurd ((membersOf_some hms).1 m hm) hbad
  · obtain ⟨ms, hms⟩ := membersOf_isSome (s := s) hgood
    obtain ⟨-, hcarried⟩ := membersOf_some hms
    have hlength : ms.length = f.records.length := by rw [← hcarried, List.length_map]
    have hrepeats := repeats_iff (staged := g.members) (ms := ms)
    rw [hcarried] at hrepeats
    rw [hms] at hexec; dsimp only at hexec
    rw [hlength] at hexec
    refine ⟨fun hdup => ?_, fun hnew hnodup => ?_⟩
    · rw [if_pos (hrepeats.2 hdup)] at hexec; exact hexec
    · have hno : ¬ repeats g.members ms = true := fun h => by
        rcases hrepeats.1 h with ⟨m, hm, x, hx, he⟩ | h
        · exact hnew m hm x hx he
        · exact h hnodup
      rw [if_neg hno] at hexec
      refine ⟨fun hfull => ?_, fun hfits => ?_⟩
      · rw [if_pos hfull] at hexec; exact hexec
      · rw [if_neg (by omega)] at hexec
        exact ⟨_, ms, hexec, hcarried, rfl⟩

/-! ## COMMIT ORDER (R37) -/

theorem exec_commitOrder {s : State} (hh : s.hears .scheduler = true) (f : CountFields) :
    exec (.commitOrder .scheduler (.fields f)) s = .next (match s.orderToCommit with
      | none => s.endResetCommit.refuse .scheduler .commitOrder .wrongState
      | some g =>
        if f.count ≠ g.members.length ∨ g.members = [] then s.endResetCommit.refuse .scheduler .commitOrder .badField
        else if s.endResetCommit.queuedTag g.tag || s.endResetCommit.groupTag g.tag then
          s.endResetCommit.refuse .scheduler .commitOrder .duplicate
        else if 16 ≤ s.orders.length then s.endResetCommit.refuse .scheduler .commitOrder .full
        else (s.endResetCommit.commit g).settle.answer .scheduler .commitOrder .ok
          (u16 g.tag ++ u8 (s.orders.length + 1))) := serve_taken hh rfl _ _

theorem queuedTag_iff {s : State} {tag : Nat} : s.queuedTag tag = true ↔ ∃ o ∈ s.orders, o.tag = tag := by
  simp [State.queuedTag]

theorem groupTag_iff {s : State} {tag : Nat} :
    s.groupTag tag = true ↔ ∃ k, (s.group k).state ≠ .free ∧ (s.group k).tag = tag := by
  simp [State.groupTag, allSlots]

/-- The staged order at the tail of the queue, before admission is asked for. -/
def State.joined (s : State) (g : Staging) : State :=
  { s with staging := none, orders := s.orders ++ [Order.mk g.tag g.action g.deadline g.members s.ring.frame] }

theorem commit_eq (s : State) (g : Staging) : s.commit g = if s.orders = [] then (s.joined g).askRound else s.joined g := rfl

theorem within_commit (s : State) (g : Staging) : Within (s.joined g) (s.commit g) := by
  rw [commit_eq]; exact within_ite (within_askRound _) (.refl _)

theorem commit_settle_of_quiet {s : State} {g : Staging} (hq : s.Quiet) (ho : s.orders ≠ []) :
    (s.commit g).settle = s.joined g := by
  rw [commit_eq, if_neg ho, settle_of_quiet]; exact hq

/-- Settles O34: the refusals fall in the order in which they are judged, and the rounds after a commit stay within the shared
operations. -/
theorem commitOrderQueues : Obligations.CommitOrderQueues := by
  unfold Obligations.CommitOrderQueues
  intro f s hh taken refused used
  have hexec := exec_commitOrder hh f
  refine ⟨fun hs hr => ?_, fun g hfound => ?_⟩
  · have hnone : s.orderToCommit = none := Option.eq_none_iff_forall_not_mem.2 fun g hg => by
      rcases orderToCommit_eq_some.1 hg with h | ⟨-, h⟩
      · rw [hs] at h; cases h
      · exact hr g h
    rw [hnone] at hexec; exact hexec
  · rw [orderToCommit_eq_some.2 hfound] at hexec; dsimp only at hexec
    have hempty : g.members = [] ↔ g.members.length = 0 := List.length_eq_zero_iff.symm
    refine ⟨fun hbad => by rw [if_pos (hbad.imp_right hempty.2)] at hexec; exact hexec, fun hcount hpos => ?_⟩
    rw [if_neg (by rw [hempty]; omega)] at hexec
    have hused : (s.endResetCommit.queuedTag g.tag || s.endResetCommit.groupTag g.tag) = true ↔ used g.tag := by
      rw [Bool.or_eq_true, queuedTag_iff, groupTag_iff]; rfl
    refine ⟨fun hu => by rw [if_pos (hused.2 hu)] at hexec; exact hexec, fun hu => ?_⟩
    rw [if_neg (mt hused.1 hu)] at hexec
    refine ⟨fun hfull => by rw [if_pos hfull] at hexec; exact hexec, fun hroom => ?_⟩
    rw [if_neg (Nat.not_le.2 hroom)] at hexec
    refine ⟨_, hexec, rfl, ((within_commit _ g).trans (within_settle _)).putHolder _ _, fun hq ho => ?_⟩
    rw [commit_settle_of_quiet (s := s.endResetCommit) hq ho]; rfl

/-! ## Orders taken from the queue (R38 to R40) -/

theorem removeOrder_settle_of_quiet {s : State} {tag : Nat} (hq : s.Quiet)
    (hh : ∀ x, s.orders.head? = some x → x.tag ≠ tag) :
    s.removeOrder tag = { s with orders := s.orders.filter fun o => decide (o.tag ≠ tag) }
      ∧ (s.removeOrder tag).Quiet := by
  have hno : ¬ (s.orders.head?.any fun o => decide (o.tag = tag)) = true := by
    simpa [Option.any_eq_true] using hh
  have heq : s.removeOrder tag = { s with orders := s.orders.filter fun o => decide (o.tag ≠ tag) } := if_neg hno
  exact ⟨heq, by rw [heq]; exact hq⟩

theorem exec_cancelOrder {s : State} (hh : s.hears .scheduler = true) (f : TagFields) :
    exec (.cancelOrder .scheduler (.fields f)) s = .next (
      if s.queuedTag f.tag then (s.removeOrder f.tag).settle.answer .scheduler .cancelOrder .ok []
      else if s.groupTag f.tag then s.refuse .scheduler .cancelOrder .wrongState
      else s.refuse .scheduler .cancelOrder .notFound) := serve_taken hh rfl _ _

/-- Settles O35: a queued order is filtered out, and only where it was the head does a round follow. -/
theorem cancelOrderRemoves : Obligations.CancelOrderRemoves := by
  unfold Obligations.CancelOrderRemoves
  intro f s hh left
  have hexec := exec_cancelOrder hh f
  refine ⟨fun hqueued => ?_, fun hno => ?_⟩
  · rw [if_pos (queuedTag_iff.2 hqueued)] at hexec
    refine ⟨_, hexec, rfl, ((within_removeOrder s f.tag _ rfl).trans (within_settle _)).putHolder _ _, fun hq hhead => ?_⟩
    obtain ⟨heq, hquiet⟩ := removeOrder_settle_of_quiet hq hhead
    rw [settle_of_quiet _ hquiet, heq]; rfl
  · have hnot : ¬ s.queuedTag f.tag = true := fun h => by
      obtain ⟨o, ho, ht⟩ := queuedTag_iff.1 h
      exact hno o ho ht
    rw [if_neg hnot] at hexec
    refine ⟨fun hgroup => by rw [if_pos (groupTag_iff.2 hgroup)] at hexec; exact hexec, fun hnone => ?_⟩
    rw [if_neg fun h => ?_] at hexec
    · exact hexec
    · obtain ⟨k, hk, ht⟩ := groupTag_iff.1 h
      exact hnone k hk ht

theorem exec_orderExpiry {s : State} (hr : s.resetHeld = false) (tag : Nat) :
    exec (.orderExpiry tag) s = .next (if s.orders.any fun o => decide (o.tag = tag) && s.expiresNow o then
      ((s.removeOrder tag).raise .orderRefused (.orderRefused tag .expired)).settle else s) := event_taken hr

theorem expiresNow_iff {s : State} {o : Order} :
    s.expiresNow o = true ↔ o.deadline ≠ 0 ∧ o.commitFrame + BitVec.ofNat 32 o.deadline = s.ring.frame := by
  simp [State.expiresNow]

/-- Settles O20: an order of the tag that expires now is the one condition on which anything happens. -/
theorem orderExpires : Obligations.OrderExpires := by
  unfold Obligations.OrderExpires
  intro s hr
  refine ⟨fun o ho hd hf => ?_, fun tag hno => ?_⟩
  · have hexec := exec_orderExpiry hr o.tag
    have hany : (s.orders.any fun x => decide (x.tag = o.tag) && s.expiresNow x) = true :=
      List.any_eq_true.2 ⟨o, ho, by rw [expiresNow_iff.2 ⟨hd, hf⟩]; simp⟩
    rw [if_pos hany] at hexec
    have hraised : (((s.removeOrder o.tag).raise .orderRefused (.orderRefused o.tag .expired)).source .orderRefused).pending
        = true := by rw [raise_source_self]; exact (raised_pending _ _).1
    refine ⟨_, hexec, ?_, (within_settle _).pending _ hraised, fun hq hhead => ?_⟩
    · exact (within_removeOrder s o.tag _ rfl).trans <| (within_raise _ _ _).trans (within_settle _)
    · obtain ⟨heq, hquiet⟩ := removeOrder_settle_of_quiet hq hhead
      rw [settle_of_quiet ((s.removeOrder o.tag).raise .orderRefused (.orderRefused o.tag .expired)) hquiet, heq]
      exact ⟨rfl, by rw [raise_source_self]; exact (raised_pending _ _).2, rfl⟩
  · rw [exec_orderExpiry hr, if_neg]
    rw [List.any_eq_true]
    rintro ⟨o, ho, h⟩
    rw [Bool.and_eq_true, decide_eq_true_eq, expiresNow_iff] at h
    exact hno o ho h.1 h.2

end Sys2Proof.Machine
end

section
/-! Groups held and ended: what HOLD GROUP, RELEASE GROUP of a tracking group and ABORT GROUP do to the members, the slot and its stream
(R52, R57, R58, R76, R88). -/

namespace Sys2Proof.Machine

/-! ## One operation on each dish of a list -/

/-- An operation on each dish of a list, at its own place and no other once done: each dish bears what the operation makes of it. -/
theorem onDishes_core {f : State → DishId → State}
    {F : Dish × Command × Option Reservation → Dish × Command × Option Reservation}
    (ht : ∀ s d, Touches [.dish d] s (f s d)) (hc : ∀ s d, (f s d).core d = F (s.core d)) (hF : ∀ c, F (F c) = F c)
    (ds : List DishId) (s : State) {e : DishId} (he : e ∈ ds) : (s.onDishes ds f).core e = F (s.core e) := by
  induction ds generalizing s with
  | nil => cases he
  | cons d ds ih =>
    change ((f s d).onDishes ds f).core e = F (s.core e)
    have hfirst : (f s d).core e = F (s.core e) ∨ e ∈ ds ∧ (f s d).core e = s.core e := by
      by_cases hed : e = d
      · subst hed; exact .inl (hc s e)
      · exact .inr ⟨(List.mem_cons.1 he).resolve_left hed, (ht s d).core_eq (by simpa using hed)⟩
    by_cases hds : e ∈ ds
    · rw [ih _ hds]
      rcases hfirst with h | ⟨-, h⟩ <;> rw [h]
      exact hF _
    · rw [(touches_onDishes f ht ds _).core_eq (by simpa using hds)]
      exact hfirst.resolve_right fun h => hds h.1

/-- A dish stopped: STOPPING with STOP and no reservation. -/
def stopped (c : Dish × Command × Option Reservation) : Dish × Command × Option Reservation :=
  ({ c.1 with motion := .stopping }, .stop, none)

/-- A dish leaves its group and is stopped unless it is FAULT or OFFLINE (R49, R58). -/
def State.depart (s : State) (d : DishId) : State := (s.leaveGroup d).stopUnlessLost d

section
variable (s : State) (d : DishId)

theorem touches_depart : Touches [.dish d] s (s.depart d) := (touches_leaveGroup s d).trans (touches_stopUnlessLost _ d)

theorem stopUnlessLost_core : (s.stopUnlessLost d).core d =
    if (s.dish d).motion = .fault ∨ (s.dish d).motion = .offline then s.core d
    else ({ s.dish d with motion := .stopping }, .stop, none) := by
  unfold State.stopUnlessLost
  by_cases h : (s.dish d).motion = .fault ∨ (s.dish d).motion = .offline
  · rw [if_pos h, if_pos h]
  · rw [if_neg h, if_neg h]; exact stopDish_core s d

theorem depart_core : (s.depart d).core d = departed (s.core d) := by
  have hd : (s.leaveGroup d).dish d = { s.dish d with group := none } := (core_eq (leaveGroup_core s d)).1
  unfold State.depart departed
  rw [stopUnlessLost_core, leaveGroup_core, hd]
  rfl

end

theorem departed_departed (c : Dish × Command × Option Reservation) : departed (departed c) = departed c := by
  by_cases h : c.1.motion = .fault ∨ c.1.motion = .offline <;> simp [departed, h]

theorem departAll_core (ds : List DishId) (s : State) {e : DishId} (he : e ∈ ds) :
    (s.onDishes ds State.depart).core e = departed (s.core e) :=
  onDishes_core touches_depart depart_core departed_departed ds s he

/-- The answer to a request keeps what an event has spared. -/
theorem SparesBut.answer {ds : List DishId} {gs : List SlotId} {s t : State} (h : SparesBut ds gs s t) (src : Sender)
    (r : Request) (st : Status) (bs : List Byte) : SparesBut ds gs s (t.answer src r st bs) := by
  unfold State.answer State.respond
  rw [putHolder_ports]; exact ⟨h.dish, h.group, h.marks, h.trips, h.stow⟩

/-! ## HOLD GROUP (R52, R88) -/

theorem exec_holdGroup {s : State} (hh : s.hears .scheduler = true) (n : Nat) :
    exec (.holdGroup .scheduler (.fields ⟨n⟩)) s = .next (s.onSlot .scheduler .holdGroup n fun g =>
      match (s.group g).state with
      | .loading | .slewing => (s.hold g .slewing).settle.answer .scheduler .holdGroup .ok []
      | .tracking | .trackHalted => ((s.hold g .tracking).setStream g Stream.frozen).settle.answer .scheduler .holdGroup .ok []
      | .resumeWait => (s.setGroupState g .held).answer .scheduler .holdGroup .ok []
      | .free | .positioned | .holding | .held => s.refuse .scheduler .holdGroup .wrongState) := serve_taken hh rfl _ _

/-- A group record as a hold leaves it. -/
def Group.heldFromNow (x : Group) (h : HeldFrom) : Group :=
  { x with state := .holding, heldFrom := some h, members := x.members.map fun m => { m with braked := false } }

/-- A stream as a hold leaves it: frozen where the group tracked (R88). -/
def Stream.atHold (x : Stream) : HeldFrom → Stream
  | .slewing => x
  | .tracking => x.frozen

/-- A hold with the stream's part in it, before the rounds. -/
def State.heldBy (s : State) (g : SlotId) (h : HeldFrom) : State := (s.hold g h).setStream g (·.atHold h)

section
variable (s : State) (g : SlotId) (h : HeldFrom)

theorem setStream_id : s.setStream g (fun x => x) = s := by simp [State.setStream, upd]

theorem touches_hold : Touches ((s.group g).places g) s (s.hold g h) :=
  (touches_members (touches_onDishes _ touches_stopDish _ s) g).trans (touches_slot g (touches_setGroup _ g _) _)

theorem touches_heldBy : Touches ((s.group g).places g) s (s.heldBy g h) :=
  (touches_hold s g h).trans (touches_slot g (touches_setStream _ g _) _)

theorem within_heldBy : Within s (s.heldBy g h) :=
  (within_hold s g h).trans (within_setStream _ _ _ fun x => by cases h <;> exact le_rfl)

theorem heldBy_group : (s.heldBy g h).group g = (s.group g).heldFromNow h := by
  change (s.hold g h).group g = _
  unfold State.hold
  rw [setGroup_group_self, onDishes_group _ touches_stopDish]; rfl

theorem heldBy_stream : (s.heldBy g h).stream g = (s.stream g).atHold h := by
  have hs : (s.hold g h).stream g = s.stream g := ((touches_onDishes _ touches_stopDish _ s).group g (by simp)).2
  unfold State.heldBy
  rw [setStream_stream_self, hs]

theorem heldBy_core {d : DishId} (hd : d ∈ (s.group g).activeDishes) : (s.heldBy g h).core d = stopped (s.core d) := by
  have hstop : (s.onDishes (s.group g).activeDishes State.stopDish).core d = stopped (s.core d) :=
    onDishes_core (F := stopped) touches_stopDish (fun s d => stopDish_core s d) (fun _ => rfl) _ s hd
  exact hstop

/-- A hold settled: nobody at rest is left among the members, and the rounds spare the group. -/
theorem heldBy_settled : let t := (s.heldBy g h).settle
    t.group g = (s.group g).heldFromNow h ∧ t.stream g = (s.stream g).atHold h
    ∧ (∀ d ∈ (s.group g).activeDishes, t.core d = stopped (s.core d))
    ∧ Within s t ∧ SparesBut (s.group g).activeDishes [g] s t := by
  intro t
  have hspare := (spares_settle (s.heldBy g h)).group g (by rw [heldBy_group]; rfl)
  refine ⟨hspare.1.trans (heldBy_group s g h), hspare.2.trans (heldBy_stream s g h), fun d hd => ?_,
    (within_heldBy s g h).trans (within_settle _), SparesBut.settle ?_⟩
  · have hcore := heldBy_core s g h hd
    exact (settle_core (congrArg (fun c => c.1.motion.atCall) hcore)).trans hcore
  · exact (touches_heldBy s g h).sparesBut (fun d hd => dish_mem_places.1 hd)
      (fun k hk => by simpa using group_mem_places.1 hk) (stow_notMem_places _ _) (sheds_notMem_places _ _)

end

/-- Settles O36: a held group's members are stopped, and the group, in no state that a round takes up, stays as the hold left it. -/
theorem holdGroupStops : Obligations.HoldGroupStops := by
  unfold Obligations.HoldGroupStops
  intro g s hh
  have hexec := (exec_holdGroup hh g.val).trans (by rw [onSlot_slot])
  refine ⟨fun h hfrom => ?_, fun hx => ?_, fun hx => ?_, fun n hn => ?_⟩
  · have heq : exec (.holdGroup .scheduler (.fields ⟨g.val⟩)) s
        = .next ((s.heldBy g h).settle.answer .scheduler .holdGroup .ok []) := by
      rcases hfrom with ⟨rfl, hx⟩ | ⟨rfl, hx⟩
      · have hid : s.heldBy g .slewing = s.hold g .slewing := setStream_id _ g
        rw [hid]
        rcases hx with hx | hx <;> rw [hx] at hexec <;> exact hexec
      · rcases hx with hx | hx <;> rw [hx] at hexec <;> exact hexec
    obtain ⟨hgroup, hstream, hcore, hwithin, hspares⟩ := heldBy_settled s g h
    generalize (s.heldBy g h).settle = u at heq hgroup hstream hcore hwithin hspares
    refine ⟨_, heq, rfl, hgroup, hstream.trans ?_, fun d hd => core_eq (hcore d hd), hwithin.putHolder _ _,
      hspares.answer _ _ _ _⟩
    cases h <;> rfl
  · rw [hx] at hexec
    refine ⟨_, hexec, setGroup_group_self _ _ _, fun k hk => ?_, rfl⟩
    exact ((touches_setGroup s g _).group k (by simpa using hk)).1
  · rcases hx with hx | hx | hx | hx <;> rw [hx] at hexec <;> exact hexec
  · exact (exec_holdGroup hh n).trans (by rw [onSlot_refused _ _ _ hn]; rfl)

/-! ## Groups ended (R57 to R60) -/

/-- A slot with its group and stream as they were, while no order waits. -/
def KeptSlot (g : SlotId) (x : Group) (y : Stream) (s : State) : Prop := s.orders = [] ∧ s.group g = x ∧ s.stream g = y

theorem KeptSlot.touch {g : SlotId} {x : Group} {y : Stream} {s t : State} {ps : List Place} (h : KeptSlot g x y s)
    (ht : Touches ps s t) (hg : .group g ∉ ps) : KeptSlot g x y t :=
  ⟨ht.orders.trans h.1, (ht.group g hg).1.trans h.2.1, (ht.group g hg).2.trans h.2.2⟩

/-- With no order waiting, rounds leave alone a slot whose group does not wait to resume. -/
theorem roundKeeps_keptSlot {g : SlotId} {x : Group} {y : Stream} (hx : x.state ≠ .resumeWait) :
    RoundKeeps (KeptSlot g x y) :=
  .of_touches (fun _ _ h ht _ => h.touch ht (by simp)) (fun _ _ _ _ _ _ h _ ht _ => h.touch ht (by simp))
    (fun _ h _ _ => h.touch (touches_checkStowedHold _) (by simp))
    (fun s _ k h hr ht _ => by
      have hk : g ≠ k := by
        rintro rfl
        exact hx (h.2.1 ▸ (resumable_spec hr).1)
      exact h.touch ht (by simp [group_mem_places, hk]))
    (fun s₀ _ _ o _ h₀ ho _ _ _ _ _ => by rw [h₀.1] at ho; cases ho)
    (fun s h => ⟨by change s.orders.tail = []; rw [h.1]; rfl, h.2⟩)
    (fun _ _ _ _ _ _ h => h.touch (touches_unlist _ _ _) (by simp))
    (fun _ _ _ _ _ _ h _ _ => h.touch (touches_admitShed _ _ _) (by simp))

/-- A group record as its end leaves it (R45). -/
def Group.ended (x : Group) (r : GroupResult) : Group := { x with state := .free, lastResult := r }

section
variable (s : State) (g : SlotId) (r : GroupResult)

theorem endGroup_eq : s.endGroup g r = (s.onDishes (s.group g).activeDishes State.depart).freeSlot g r := rfl

theorem touches_endGroup : Touches ((s.group g).places g) s (s.endGroup g r) :=
  (touches_members (touches_onDishes _ touches_depart _ s) g).trans (touches_slot g (touches_freeSlot _ g r) _)

theorem endGroup_slot : (s.endGroup g r).group g = (s.group g).ended r ∧ (s.endGroup g r).stream g = Stream.reset := by
  obtain ⟨h1, h2⟩ := freeSlot_self (s.onDishes (s.group g).activeDishes State.depart) g r
  rw [endGroup_eq]
  exact ⟨by rw [h1, onDishes_group _ touches_depart]; rfl, h2⟩

theorem endGroup_core {d : DishId} (hd : d ∈ (s.group g).activeDishes) : (s.endGroup g r).core d = departed (s.core d) :=
  ((touches_freeSlot _ g r).core_eq (by simp)).trans (departAll_core _ s hd)

theorem endGroup_sparesBut : SparesBut (s.group g).activeDishes [g] s (s.endGroup g r) :=
  (touches_endGroup s g r).sparesBut (fun d hd => dish_mem_places.1 hd)
    (fun k hk => by simpa using group_mem_places.1 hk) (stow_notMem_places _ _) (sheds_notMem_places _ _)

end

/-- A FAULT or OFFLINE dish that leaves its group holds all else that it held. -/
theorem departed_lost {c : Dish × Command × Option Reservation} (h : c.1.motion = .fault ∨ c.1.motion = .offline) :
    departed c = ({ c.1 with group := none }, c.2) := if_pos h

theorem departed_stopped {c : Dish × Command × Option Reservation} (hf : c.1.motion ≠ .fault) (ho : c.1.motion ≠ .offline) :
    departed c = ({ c.1 with motion := .stopping, group := none }, .stop, none) := if_neg (not_or.2 ⟨hf, ho⟩)

/-- A group ended, settled: what its members hold and, while no order waits, the slot. -/
theorem endGroup_settled (s : State) (g : SlotId) (r : GroupResult) : let t := (s.endGroup g r).settle
    (∀ d ∈ (s.group g).activeDishes, t.core d = departed (s.core d)
      ∧ ((s.dish d).motion = .fault ∨ (s.dish d).motion = .offline →
          t.holdOf d = { s.holdOf d with record := { s.dish d with group := none } }))
    ∧ (s.orders = [] → t.group g = (s.group g).ended r ∧ t.stream g = Stream.reset)
    ∧ Within s t ∧ SparesBut (s.group g).activeDishes [g] s t := by
  intro t
  have hplaces := touches_endGroup s g r
  refine ⟨fun d hd => ?_, fun ho => ?_, (within_endGroup s g r).trans (within_settle _), (endGroup_sparesBut s g r).settle⟩
  · have hcore := endGroup_core s g r hd
    have hcall : ((s.endGroup g r).dish d).motion.atCall = false :=
      (congrArg (fun c => c.1.motion.atCall) hcore).trans (departed_spec _).2.1
    refine ⟨(settle_core hcall).trans hcore, fun hlost => ((spares_settle _).dish d hcall).trans ?_⟩
    obtain ⟨h1, h2, h3⟩ := core_eq (hcore.trans (departed_lost hlost))
    unfold State.holdOf
    rw [h1, h2, h3, hplaces.stow (stow_notMem_places _ _), (hplaces.sheds (sheds_notMem_places _ _)).1]
    rfl
  · obtain ⟨hgroup, hstream⟩ := endGroup_slot s g r
    exact ((roundKeeps_keptSlot (x := (s.group g).ended r) (y := Stream.reset) (by nofun)).settle
      ⟨hplaces.orders.trans ho, hgroup, hstream⟩).2

/-- Settles O38: both requests end the group in one way; the members, once stopped, and the slot, with no order waiting, are spared
by the rounds. -/
theorem endedGroupsAreStopped : Obligations.EndedGroupsAreStopped := by
  unfold Obligations.EndedGroupsAreStopped
  intro g s hh
  have hrel := (exec_releaseGroup hh g.val).trans (by rw [onSlot_slot])
  have habort := (exec_abortGroup hh g.val).trans (by rw [onSlot_slot])
  refine ⟨fun i code result hcase => ?_, fun hx => ?_, fun hx => ?_⟩
  · obtain ⟨req, hcode, hexec⟩ : ∃ req : Request, req.code = code ∧
        exec i s = .next ((s.endGroup g result).settle.answer .scheduler req .ok []) := by
      rcases hcase with ⟨rfl, rfl, rfl, hx⟩ | ⟨rfl, rfl, rfl, hx⟩
      · exact ⟨.releaseGroup, rfl, by rcases hx with hx | hx <;> rw [hx] at hrel <;> exact hrel⟩
      · rw [if_neg hx] at habort; exact ⟨.abortGroup, rfl, habort⟩
    obtain ⟨hmembers, hslot, hwithin, hspares⟩ := endGroup_settled s g result
    generalize (s.endGroup g result).settle = u at hexec hmembers hslot hwithin hspares
    subst hcode
    refine ⟨_, hexec, rfl, fun d hd => ?_, hslot, hwithin.putHolder _ _, hspares.answer _ _ _ _⟩
    obtain ⟨hcore, hlost⟩ := hmembers d hd
    exact ⟨hlost, fun hf ho => core_eq (hcore.trans (departed_stopped hf ho))⟩
  · rcases hx with hx | hx | hx | hx | hx <;> rw [hx] at hrel <;> exact hrel
  · rw [if_pos hx] at habort; exact habort

end Sys2Proof.Machine
end

section
/-! All groups dissolved, shed moves ended and the Stow Queue built afresh: what DRIVE RESET and the entry to ACTIVE have in common
(R59, R60, R100, R101, R113, R142). -/

namespace Sys2Proof.Machine

/-! ## One operation on each dish, seen through a view of the dish -/

section
variable {α : Type} {f : State → DishId → State} (V : State → DishId → α) (hV : ∀ s d e, e ≠ d → V (f s d) e = V s e)
include hV

theorem onDishes_ne (ds : List DishId) (s : State) {e : DishId} (he : e ∉ ds) : V (s.onDishes ds f) e = V s e := by
  induction ds generalizing s with
  | nil => rfl
  | cons d ds ih =>
    exact (ih (f s d) fun h => he (List.mem_cons_of_mem _ h)).trans (hV s d e fun h => he (h ▸ List.mem_cons_self))

/-- Where no dish is listed twice, a dish comes to its turn as it was. -/
theorem onDishes_at (hf : ∀ s d, Within s (f s d)) {ds : List DishId} (hn : ds.Nodup) (s : State) {e : DishId} (he : e ∈ ds) :
    ∃ u, Within s u ∧ V u e = V s e ∧ V (s.onDishes ds f) e = V (f u e) e := by
  induction ds generalizing s with
  | nil => cases he
  | cons d ds ih =>
    obtain ⟨hd, hn⟩ := List.nodup_cons.1 hn
    by_cases hed : e = d
    · subst hed; exact ⟨s, .refl s, rfl, onDishes_ne V hV ds _ hd⟩
    · obtain ⟨u, hw, hu, hr⟩ := ih hn (f s d) ((List.mem_cons.1 he).resolve_left hed)
      exact ⟨u, (hf s d).trans hw, hu.trans (hV s d e hed), hr⟩

end

theorem nodup_allDishes : allDishes.Nodup := List.nodup_finRange 48

theorem mem_allDishes (d : DishId) : d ∈ allDishes := List.mem_finRange d

theorem mem_allSlots (g : SlotId) : g ∈ allSlots := List.mem_finRange g

/-! ## Groups dissolved (R59, R60) -/

/-- The places of groups and their members. -/
abbrev memberPlaces : List Place := allSlots.map .group ++ allDishes.map .dish

theorem places_subset (x : Group) (g : SlotId) : x.places g ⊆ memberPlaces := by
  intro p hp
  rcases List.mem_cons.1 hp with rfl | hp
  · exact List.mem_append_left _ (List.mem_map_of_mem (mem_allSlots g))
  · obtain ⟨d, -, rfl⟩ := List.mem_map.1 hp
    exact List.mem_append_right _ (List.mem_map_of_mem (mem_allDishes d))

/-- A group record as a dissolution leaves it; a FREE slot is left (R59, R60). -/
def Group.dissolved (x : Group) (r : GroupResult) : Group := if x.state = .free then x else x.ended r

theorem dissolved_state (x : Group) (r : GroupResult) : (x.dissolved r).state = .free := by
  unfold Group.dissolved; split
  · assumption
  · rfl

/-- A dish is an active member of a group of some slot. -/
def State.bound (s : State) (d : DishId) : Prop := ∃ g, (s.group g).state ≠ .free ∧ d ∈ (s.group g).activeDishes

section
variable (r : GroupResult) (s : State) (g : SlotId)

theorem dissolve_free {s : State} {g : SlotId} (h : (s.group g).state = .free) : State.dissolve r s g = s := if_pos h

theorem dissolve_group_state {s : State} {g : SlotId} (h : (s.group g).state ≠ .free) :
    State.dissolve r s g = (s.endGroup g r).raise .groupAbort (.groupAbort g (s.group g).tag r) := if_neg h

theorem touches_dissolve : Touches ((s.group g).places g) s (State.dissolve r s g) :=
  touches_ite (.refl _ s) ((touches_endGroup s g r).raise _ _)

theorem dissolve_self : (State.dissolve r s g).group g = (s.group g).dissolved r
    ∧ ((s.group g).state ≠ .free → (State.dissolve r s g).stream g = Stream.reset) := by
  by_cases h : (s.group g).state = .free
  · rw [dissolve_free r h, Group.dissolved, if_pos h]; exact ⟨rfl, fun hn => absurd h hn⟩
  · obtain ⟨h1, h2⟩ := endGroup_slot s g r
    rw [dissolve_group_state r h, Group.dissolved, if_neg h]; exact ⟨h1, fun _ => h2⟩

theorem dissolve_ne {k : SlotId} (h : k ≠ g) :
    (State.dissolve r s g).group k = s.group k ∧ (State.dissolve r s g).stream k = s.stream k :=
  (touches_dissolve r s g).group k (by rwa [group_mem_places])

theorem dissolves_group (gs : List SlotId) (k : SlotId) :
    (gs.foldl (State.dissolve r) s).group k = if k ∈ gs then (s.group k).dissolved r else s.group k := by
  have htwice : ((s.group k).dissolved r).dissolved r = (s.group k).dissolved r := if_pos (dissolved_state _ _)
  induction gs generalizing s with
  | nil => rfl
  | cons g gs ih =>
    by_cases hk : k = g
    · subst hk
      have hself := (dissolve_self r s k).1
      rw [List.foldl_cons, ih, hself, if_pos List.mem_cons_self, htwice]
      · exact ite_self _
      · rw [hself, htwice, htwice]
    · have hne := (dissolve_ne r s g hk).1
      rw [List.foldl_cons, ih _ (by rw [hne]; exact htwice), hne]
      simp [hk]

theorem dissolves_stream (gs : List SlotId) (k : SlotId) :
    (gs.foldl (State.dissolve r) s).stream k
      = if k ∈ gs ∧ (s.group k).state ≠ .free then Stream.reset else s.stream k := by
  induction gs generalizing s with
  | nil => simp
  | cons g gs ih =>
    rw [List.foldl_cons, ih]
    by_cases hk : k = g
    · subst hk
      obtain ⟨h1, h2⟩ := dissolve_self r s k
      rw [h1, dissolved_state]
      by_cases hf : (s.group k).state = .free
      · rw [dissolve_free r hf]; simp [hf]
      · rw [h2 hf]; simp [hf]
    · obtain ⟨h1, h2⟩ := dissolve_ne r s g hk
      rw [h1, h2]; simp [hk]

theorem dissolve_core {d : DishId} (hf : (s.group g).state ≠ .free) (hd : d ∈ (s.group g).activeDishes) :
    (State.dissolve r s g).core d = departed (s.core d) := by
  rw [dissolve_group_state r hf]; exact endGroup_core s g r hd

theorem dissolve_core_ne {d : DishId} (h : (s.group g).state ≠ .free → d ∉ (s.group g).activeDishes) :
    (State.dissolve r s g).core d = s.core d := by
  by_cases hf : (s.group g).state = .free
  · rw [dissolve_free r hf]
  · exact (touches_dissolve r s g).core_eq (by rw [dish_mem_places]; exact h hf)

/-- Whom the dissolutions do not find, they leave as it was. -/
theorem dissolves_core_unbound (gs : List SlotId) {d : DishId}
    (h : ∀ g ∈ gs, (s.group g).state ≠ .free → d ∉ (s.group g).activeDishes) :
    (gs.foldl (State.dissolve r) s).core d = s.core d := by
  induction gs generalizing s with
  | nil => rfl
  | cons g gs ih =>
    rw [List.foldl_cons, ih, dissolve_core_ne r s g (h g List.mem_cons_self)]
    intro k hk hf
    by_cases hkg : k = g
    · subst hkg; rw [(dissolve_self r s k).1] at hf; exact absurd (dissolved_state _ _) hf
    · rw [(dissolve_ne r s g hkg).1] at hf ⊢; exact h k (List.mem_cons_of_mem _ hk) hf

theorem dissolves_core_bound (gs : List SlotId) {d : DishId}
    (h : ∃ g ∈ gs, (s.group g).state ≠ .free ∧ d ∈ (s.group g).activeDishes) :
    (gs.foldl (State.dissolve r) s).core d = departed (s.core d) := by
  induction gs generalizing s with
  | nil => obtain ⟨g, hg, -⟩ := h; cases hg
  | cons g gs ih =>
    have hthere : ∀ k, (State.dissolve r s g |>.group k).state ≠ .free → (State.dissolve r s g).group k = s.group k ∧ k ≠ g :=
      fun k hf => by
        have hkg : k ≠ g := by rintro rfl; rw [(dissolve_self r s k).1] at hf; exact hf (dissolved_state _ _)
        exact ⟨(dissolve_ne r s g hkg).1, hkg⟩
    have hfirst : (State.dissolve r s g).core d = departed (s.core d) ∨ (State.dissolve r s g).core d = s.core d := by
      by_cases hg : (s.group g).state ≠ .free ∧ d ∈ (s.group g).activeDishes
      · exact .inl (dissolve_core r s g hg.1 hg.2)
      · exact .inr (dissolve_core_ne r s g fun hf hd => hg ⟨hf, hd⟩)
    rw [List.foldl_cons]
    by_cases hlater : ∃ k ∈ gs, (State.dissolve r s g |>.group k).state ≠ .free ∧ d ∈ (State.dissolve r s g |>.group k).activeDishes
    · rw [ih _ hlater]
      rcases hfirst with hc | hc <;> rw [hc]
      exact departed_departed _
    · rw [dissolves_core_unbound r _ gs fun k hk hf hd => hlater ⟨k, hk, hf, hd⟩]
      obtain ⟨k, hk, hf, hd⟩ := h
      obtain rfl : k = g := by
        by_contra hkg
        have hne := (dissolve_ne r s g hkg).1
        exact hlater ⟨k, (List.mem_cons.1 hk).resolve_left hkg, by rw [hne]; exact hf, by rw [hne]; exact hd⟩
      exact dissolve_core r s k hf hd

theorem dissolves_pending (gs : List SlotId) (h : ∃ g ∈ gs, (s.group g).state ≠ .free) :
    ((gs.foldl (State.dissolve r) s).source .groupAbort).pending = true := by
  induction gs generalizing s with
  | nil => obtain ⟨g, hg, -⟩ := h; cases hg
  | cons g gs ih =>
    rw [List.foldl_cons]
    by_cases hf : (s.group g).state = .free
    · obtain ⟨k, hk, hfk⟩ := h
      have hkg : k ≠ g := by rintro rfl; exact hfk hf
      rw [dissolve_free r hf]
      exact ih s ⟨k, (List.mem_cons.1 hk).resolve_left hkg, hfk⟩
    · refine (within_foldl _ (within_dissolve r) gs _).pending _ ?_
      rw [dissolve_group_state r hf, raise_source_self]; exact (raised_pending _ _).1

theorem touches_dissolveAll : Touches memberPlaces s (s.dissolveAll r) :=
  touches_foldl _ _ (fun g _ w => (touches_dissolve r w g).mono (places_subset _ g)) s

end

/-! ## Shed moves ended (R141, R142) -/

/-- What a dish bears once SHEDDING has been stopped. -/
def unshed (c : Dish × Command × Option Reservation) : Dish × Command × Option Reservation :=
  if c.1.motion = .shedding then stopped c else c

section
variable (s : State) (d : DishId) (r : ShedResult)

theorem stopShed_core : (s.stopShed d r).core d = unshed (s.core d) := by
  unfold State.stopShed unshed
  by_cases h : (s.dish d).motion = .shedding
  · have hc : (s.core d).1.motion = .shedding := h
    rw [if_pos h, if_pos hc, (touches_endShed _ d r).core_eq (by simp)]; exact stopDish_core s d
  · rw [if_neg h]; exact (if_neg h).symm

theorem stopShed_core_ne {e : DishId} (h : e ≠ d) : (s.stopShed d r).core e = s.core e :=
  (touches_stopShed s d r).core_eq (by simpa using h)

/-- A dish's shed move record and last shed result. -/
def State.shedOf (s : State) (d : DishId) : Option ShedMove × ShedResult := (s.melt.shedMoves[d], s.melt.shedResult[d])

theorem touches_shedOf {s t : State} {ps : List Place} (h : Touches ps s t) (hs : .sheds ∉ ps) (d : DishId) :
    t.shedOf d = s.shedOf d := by
  obtain ⟨h1, h2, -⟩ := h.sheds hs
  unfold State.shedOf; rw [h1, h2]

theorem endShed_shedOf (e : DishId) : (s.endShed d r).shedOf e = if e = d then (none, r) else s.shedOf e := by
  by_cases h : e = d
  · subst h
    obtain ⟨h1, h2⟩ := endShed_self s e r
    unfold State.shedOf; rw [h1, h2, if_pos rfl]
  · have h1 : (s.endShed d r).melt.shedMoves[e] = s.melt.shedMoves[e] := by
      simp [State.endShed, State.setShedMove, State.setShedResult, set_get, h]
    have h2 : (s.endShed d r).melt.shedResult[e] = s.melt.shedResult[e] := by
      simp [State.endShed, State.setShedMove, State.setShedResult, set_get, h]
    unfold State.shedOf; rw [h1, h2, if_neg h]

theorem stopShed_shedOf (e : DishId) : (s.stopShed d r).shedOf e =
    if e = d ∧ (s.dish d).motion = .shedding then (none, r) else s.shedOf e := by
  unfold State.stopShed
  by_cases h : (s.dish d).motion = .shedding
  · rw [if_pos h, endShed_shedOf, touches_shedOf (touches_stopDish s d) (by simp)]; simp [h]
  · rw [if_neg h]; simp [h]

theorem skipShed_shedOf {e : DishId} (h : e ≠ d) : (s.skipShed d).shedOf e = s.shedOf e := by
  unfold State.skipShed; split
  · have h2 : ((s.unlistShed d).setShedResult d .skipped).melt.shedResult[e] = s.melt.shedResult[e] := by
      simp [State.unlistShed, State.setShedResult, State.askRound, set_get, h]
    unfold State.shedOf; rw [h2]; rfl
  · rfl

theorem skipShed_shedList : (s.skipShed d).melt.shedList = s.melt.shedList.filter fun e => decide (e.dish ≠ d) := by
  unfold State.skipShed; split
  · rfl
  · next h =>
    refine (List.filter_eq_self.2 fun e he => ?_).symm
    exact decide_eq_true (shedListed_false.1 (by simpa using h) e he)

theorem skipAll_shedList (ds : List DishId) :
    (s.onDishes ds State.skipShed).melt.shedList = s.melt.shedList.filter fun e => decide (e.dish ∉ ds) := by
  induction ds generalizing s with
  | nil => simp [State.onDishes]
  | cons d ds ih =>
    change ((s.skipShed d).onDishes ds State.skipShed).melt.shedList = _
    rw [ih, skipShed_shedList, List.filter_filter]
    refine List.filter_congr fun e _ => ?_
    by_cases h1 : e.dish = d <;> by_cases h2 : e.dish ∈ ds <;> simp [h1, h2]

theorem touches_clearSheds : Touches (.sheds :: memberPlaces) s (s.clearSheds r) := by
  have h1 : Touches (.sheds :: memberPlaces) s (s.onDishes allDishes fun s d => s.stopShed d r) :=
    touches_onAll _ (fun w d => (touches_stopShed w d r).mono (by simp [mem_allDishes])) _ s
  refine h1.trans (touches_onAll _ (fun w d => (touches_skipShed w d).mono (by simp)) _ _)

theorem clearSheds_core : (s.clearSheds r).core d = unshed (s.core d) := by
  have hskip : ∀ (w : State) e, w.core e = w.core e := fun _ _ => rfl
  unfold State.clearSheds; dsimp only
  generalize hu : (s.onDishes allDishes fun s d => s.stopShed d r) = u
  have hstop : u.core d = unshed (s.core d) := by
    obtain ⟨w, -, h1, h2⟩ := onDishes_at (f := fun s d => s.stopShed d r) State.core
      (fun w d e h => stopShed_core_ne w d r h) (fun w d => within_stopShed w d r) nodup_allDishes s (mem_allDishes d)
    rw [← hu, h2, stopShed_core, h1]
  rw [← hstop]
  exact (touches_onAll State.skipShed touches_skipShed _ u).core_eq (by simp)

theorem clearSheds_shedList : (s.clearSheds r).melt.shedList = [] := by
  unfold State.clearSheds; dsimp only
  rw [skipAll_shedList, List.filter_eq_nil_iff]
  intro e he
  simpa using ⟨e, he, rfl⟩

/-- A SHEDDING dish that is not listed ends its move with the result given. -/
theorem clearSheds_shedOf {s : State} {d : DishId} (hm : (s.dish d).motion = .shedding) (hl : s.shedListed d = false) :
    (s.clearSheds r).shedOf d = (none, r) := by
  unfold State.clearSheds; dsimp only
  generalize hu : (s.onDishes allDishes fun s d => s.stopShed d r) = u
  have hstop : u.shedOf d = (none, r) := by
    obtain ⟨w, -, h1, h2⟩ := onDishes_at (f := fun s d => s.stopShed d r) (fun s d => (s.core d, s.shedOf d))
      (fun w d e h => by rw [stopShed_core_ne w d r h, stopShed_shedOf, if_neg fun k => h k.1])
      (fun w d => within_stopShed w d r) nodup_allDishes s (mem_allDishes d)
    have hmw : (w.dish d).motion = .shedding := by rw [(core_eq (Prod.ext_iff.1 h1).1).1]; exact hm
    rw [← hu]
    exact (Prod.ext_iff.1 h2).2.trans ((stopShed_shedOf w d r d).trans (if_pos ⟨rfl, hmw⟩))
  have hlisted : ∀ e ∈ u.melt.shedList, e.dish ≠ d := by
    have ht : Touches (.sheds :: memberPlaces) s u := by
      rw [← hu]; exact touches_onAll _ (fun w d => (touches_stopShed w d r).mono (by simp [mem_allDishes])) _ s
    exact fun e he => shedListed_false.1 hl e (ht.listed he)
  rw [onDishes_ne State.shedOf (fun w e d h => skipShed_shedOf w e h) _ _ fun h => ?_, hstop]
  obtain ⟨e, he, hed⟩ := List.mem_map.1 h
  exact hlisted e he hed

end

/-! ## Groups dissolved and shed moves ended, in one -/

/-- Every group dissolved and every shed move ended (R59, R60, R142). -/
def State.halted (s : State) (r : GroupResult) (q : ShedResult) : State := (s.dissolveAll r).clearSheds q

section
variable (s : State) (r : GroupResult) (q : ShedResult) (d : DishId) (g : SlotId)

theorem touches_halted : Touches (.sheds :: memberPlaces) s (s.halted r q) :=
  ((touches_dissolveAll r s).mono (List.subset_cons_self _ _)).trans (touches_clearSheds _ q)

theorem within_halted : Within s (s.halted r q) := (within_dissolveAll s r).trans (within_clearSheds _ q)

theorem halted_slot : (s.halted r q).group g = (s.group g).dissolved r
    ∧ (s.halted r q).stream g = if (s.group g).state ≠ .free then Stream.reset else s.stream g := by
  have hshed : Touches (.sheds :: allDishes.map .dish) (s.dissolveAll r) (s.halted r q) :=
    (touches_onAll _ (fun w d => (touches_stopShed w d q).mono (by simp [mem_allDishes])) _ _).trans
      (touches_onAll _ (fun w d => (touches_skipShed w d).mono (by simp)) _ _)
  obtain ⟨h1, h2⟩ := hshed.group g (by simp)
  have hg := mem_allSlots g
  refine ⟨h1.trans ((dissolves_group r s allSlots g).trans (if_pos hg)), h2.trans ((dissolves_stream r s allSlots g).trans ?_)⟩
  simp only [hg, true_and]

theorem halted_core_bound {s : State} {d : DishId} (h : s.bound d) : (s.halted r q).core d = departed (s.core d) := by
  obtain ⟨g, hf, hd⟩ := h
  have hcore : (s.dissolveAll r).core d = departed (s.core d) := dissolves_core_bound r s allSlots ⟨g, mem_allSlots g, hf, hd⟩
  unfold State.halted
  rw [clearSheds_core, hcore]
  refine if_neg fun h => ?_
  by_cases hl : (s.core d).1.motion = .fault ∨ (s.core d).1.motion = .offline
  · rw [departed_lost hl] at h
    rcases hl with hl | hl <;> rw [hl] at h <;> cases h
  · obtain ⟨hnf, hno⟩ := not_or.1 hl
    rw [departed_stopped hnf hno] at h; cases h

theorem halted_core_unbound {s : State} {d : DishId} (h : ¬ s.bound d) : (s.halted r q).core d = unshed (s.core d) := by
  have hcore : (s.dissolveAll r).core d = s.core d :=
    dissolves_core_unbound r s allSlots fun g _ hf hd => h ⟨g, hf, hd⟩
  unfold State.halted
  rw [clearSheds_core, hcore]

theorem halted_pending {s : State} (h : ∃ g, (s.group g).state ≠ .free) :
    ((s.halted r q).source .groupAbort).pending = true := by
  obtain ⟨g, hg⟩ := h
  exact (within_clearSheds _ q).pending _ (dissolves_pending r s allSlots ⟨g, mem_allSlots g, hg⟩)

/-- Whatever group held a SHEDDING dish, it is stopped. -/
theorem halted_shedding {s : State} {d : DishId} (h : (s.dish d).motion = .shedding) :
    ((s.halted r q).core d).1.motion = .stopping ∧ ((s.halted r q).core d).2 = (.stop, none) := by
  by_cases hb : s.bound d
  · have hstop := departed_stopped (c := s.core d) (by rw [show (s.core d).1.motion = .shedding from h]; nofun)
      (by rw [show (s.core d).1.motion = .shedding from h]; nofun)
    rw [halted_core_bound r q hb, hstop]; exact ⟨rfl, rfl⟩
  · rw [halted_core_unbound r q hb, unshed, if_pos (show (s.core d).1.motion = .shedding from h)]; exact ⟨rfl, rfl⟩

end

/-! ## The Stow Queue built (R101) -/

section
variable (s : State) (d : DishId)

/-- What the building of the queue does with one dish. -/
theorem buildDish_cases : s.buildDish d = s
    ∨ (s.dish d).motion = .idle ∧ s.buildDish d = s.stowInPlace d
    ∨ (∃ m w, s.buildDish d = (s.setMark d m).raise .stowProblem w)
    ∨ s.buildDish d = s.joinQueue d := by
  unfold State.buildDish; dsimp only
  split
  · exact .inl rfl
  · split
    · next h => exact .inr (.inl ⟨h.1, rfl⟩)
    · split
      · exact .inr (.inr (.inl ⟨_, _, rfl⟩))
      · split
        · exact .inr (.inr (.inl ⟨_, _, rfl⟩))
        · split
          · exact .inr (.inr (.inr rfl))
          · exact .inl rfl

theorem touches_buildDish : Touches [.dish d, .stow] s (s.buildDish d) := by
  rcases buildDish_cases s d with h | ⟨-, h⟩ | ⟨m, w, h⟩ | h <;> rw [h]
  · exact .refl _ s
  · exact (touches_stowInPlace s d).mono (by simp)
  · exact ((touches_setMark s d m).raise _ _).mono (by simp)
  · exact (touches_joinQueue s d).mono (by simp)

theorem setMark_mark (m : StowMark) (e : DishId) : (s.setMark d m).mark e = if e = d then m else s.mark e := set_get _ _ _ _

theorem joinQueue_mark (e : DishId) : (s.joinQueue d).mark e = s.mark e := by
  unfold State.mark; rw [joinQueue_stow]

theorem buildDish_view_ne {e : DishId} (h : e ≠ d) :
    ((s.buildDish d).core e, (s.buildDish d).mark e) = (s.core e, s.mark e) := by
  have hmark : (s.buildDish d).mark e = s.mark e := by
    rcases buildDish_cases s d with h' | ⟨-, h'⟩ | ⟨m, w, h'⟩ | h' <;> rw [h']
    · rfl
    · exact (setMark_mark s d m e).trans (if_neg h)
    · exact joinQueue_mark s d e
  rw [hmark, (touches_buildDish s d).core_eq (by simpa using h)]

/-- The queue's building moves no dish but one in IDLE. -/
theorem buildDish_core {s : State} {d : DishId} (h : (s.dish d).motion ≠ .idle) : (s.buildDish d).core d = s.core d := by
  rcases buildDish_cases s d with h' | ⟨hi, -⟩ | ⟨m, w, h'⟩ | h'
  · rw [h']
  · exact absurd hi h
  · rw [h']; rfl
  · rw [h']; exact (touches_joinQueue s d).core_eq (by simp)

theorem buildDish_stowed {s : State} {d : DishId} (hp : (s.cfg d).present = true) (hi : (s.dish d).motion = .idle)
    (ha : (s.dish d).alreadyStowed = true) : s.buildDish d = s.stowInPlace d := by
  unfold State.buildDish; dsimp only
  rw [if_neg (by rw [hp, hi]; decide), if_pos ⟨hi, ha⟩]; rfl

theorem buildDish_lost {s : State} {d : DishId} (hp : (s.cfg d).present = true)
    (hl : (s.dish d).motion = .fault ∨ (s.dish d).motion = .offline) :
    (s.buildDish d).mark d = if s.moveLocked d then .blocked else .unreachable := by
  have hns : ¬ (!(s.cfg d).present || decide ((s.dish d).motion = .stowed)) = true := by
    rcases hl with hl | hl <;> rw [hp, hl] <;> decide
  have hni : ¬ ((s.dish d).motion = .idle ∧ (s.dish d).alreadyStowed = true) := by
    rintro ⟨hi, -⟩
    rcases hl with hl | hl <;> rw [hl] at hi <;> cases hi
  unfold State.buildDish; dsimp only
  rw [if_neg hns, if_neg hni]
  cases s.moveLocked d with
  | true => exact (setMark_mark s d .blocked d).trans (if_pos rfl)
  | false =>
    rw [if_neg (by decide), if_pos (by tauto)]
    exact (setMark_mark s d .unreachable d).trans (if_pos rfl)

/-- What the queue's building keeps of the Stow Controller. -/
theorem buildDish_stow : (s.buildDish d).stow.state = s.stow.state ∧ (s.buildDish d).stow.moves = s.stow.moves
    ∧ (s.buildDish d).stow.tripOrder = s.stow.tripOrder := by
  rcases buildDish_cases s d with h | ⟨-, h⟩ | ⟨m, w, h⟩ | h <;> rw [h]
  · exact ⟨rfl, rfl, rfl⟩
  · exact ⟨rfl, rfl, rfl⟩
  · exact ⟨rfl, rfl, rfl⟩
  · rw [joinQueue_stow]; exact ⟨rfl, rfl, rfl⟩

theorem buildAll_stow (ds : List DishId) : (s.onDishes ds State.buildDish).stow.state = s.stow.state
    ∧ (s.onDishes ds State.buildDish).stow.moves = s.stow.moves
    ∧ (s.onDishes ds State.buildDish).stow.tripOrder = s.stow.tripOrder := by
  induction ds generalizing s with
  | nil => exact ⟨rfl, rfl, rfl⟩
  | cons d ds ih =>
    obtain ⟨h1, h2, h3⟩ := ih (s.buildDish d)
    obtain ⟨k1, k2, k3⟩ := buildDish_stow s d
    exact ⟨h1.trans k1, h2.trans k2, h3.trans k3⟩

/-- The Stow Queue emptied and every mark NONE, before the queue is built. -/
def State.unmarked (s : State) : State :=
  { s with stow := { s.stow with queue := [], marks := Vector.replicate 48 .none } }

/-- The queue as it stands ranked, and a round asked for. -/
def State.ranked (s : State) : State := { s with stow := { s.stow with queue := s.rankQueue s.stow.queue } }.askRound

theorem buildQueue_eq : s.buildQueue = (s.unmarked.onDishes allDishes State.buildDish).ranked := by
  unfold State.buildQueue State.unmarked State.onDishes
  dsimp only
  generalize allDishes = ds
  rfl

theorem unmarked_mark : s.unmarked.mark d = .none := Vector.getElem_replicate _

theorem touches_buildQueue : Touches (.stow :: allDishes.map .dish) s s.buildQueue := by
  have h0 : Touches (.stow :: allDishes.map .dish) s s.unmarked := (touches_putStow s _).mono (by simp)
  have h1 := h0.trans (touches_onAll State.buildDish
    (fun w e => (touches_buildDish w e).mono (by simp [mem_allDishes])) allDishes _)
  rw [buildQueue_eq]
  exact (h1.trans ((touches_putStow _ _).mono (by simp))).askRound

theorem buildQueue_stow : s.buildQueue.stow.state = s.stow.state ∧ s.buildQueue.stow.moves = s.stow.moves
    ∧ s.buildQueue.stow.tripOrder = s.stow.tripOrder := by
  have h := buildAll_stow s.unmarked allDishes
  rw [buildQueue_eq]
  generalize s.unmarked.onDishes allDishes State.buildDish = u at h ⊢
  exact h

/-- A dish comes to its judgement as it was, with no mark. -/
theorem buildQueue_view : ∃ u, Within s u ∧ u.core d = s.core d ∧ u.mark d = .none
    ∧ s.buildQueue.core d = (u.buildDish d).core d ∧ s.buildQueue.mark d = (u.buildDish d).mark d := by
  obtain ⟨u, hw, h1, h2⟩ := onDishes_at (fun s d => (s.core d, s.mark d)) (fun w d e h => buildDish_view_ne w d h)
    within_buildDish nodup_allDishes s.unmarked (mem_allDishes d)
  obtain ⟨hc, hm⟩ := Prod.ext_iff.1 h1
  obtain ⟨hc', hm'⟩ := Prod.ext_iff.1 h2
  rw [buildQueue_eq]
  generalize s.unmarked.onDishes allDishes State.buildDish = v at hc' hm' ⊢
  exact ⟨u, (within_putStow _ _).trans hw, hc, hm.trans (unmarked_mark s d), hc', hm'⟩

theorem buildQueue_core {s : State} {d : DishId} (h : (s.dish d).motion ≠ .idle) : s.buildQueue.core d = s.core d := by
  obtain ⟨u, -, hc, -, hr, -⟩ := buildQueue_view s d
  rw [hr, buildDish_core (by rw [(core_eq hc).1]; exact h), hc]

end

end Sys2Proof.Machine
end

section
/-! DRIVE RESET and the entry to ACTIVE (R59, R60, R99 to R101, R113, R142, R175), and the rounds of a step while a stow is in force. -/

namespace Sys2Proof.Machine

/-! ## DRIVE RESET (R113, R175) -/

theorem exec_driveReset {s : State} (hh : s.hears .safety = true) :
    exec (.driveReset .safety (.fields {})) s = .next (s.driveReset.settle.answer .safety .driveReset .ok s.resetField) :=
  serve_taken hh rfl _ _

/-- The staging area and the Order Queue emptied (R35, R60, R175). -/
def State.ordersDropped (s : State) : State := { s with staging := none, resetCommit := s.afterReset, orders := [] }

/-- Groups and shed moves ended by DRIVE RESET, before the Stow Controller's part. -/
def State.resetHalted (s : State) : State := s.ordersDropped.halted .reset .reset

theorem resetHalted_eq (s : State) : s.resetHalted = (s.ordersDropped.dissolveAll .reset).clearSheds .reset := rfl

theorem touches_judgeAsked (s : State) : Touches [] s s.askJudge := (Touches.refl [] s).askJudge

theorem driveReset_eq (s : State) : s.driveReset = s.resetHalted.resetStow.askJudge := rfl

section
variable (s : State) (d : DishId)

/-- A dish with its stow move record. -/
def State.moveOf (s : State) (d : DishId) : (Dish × Command × Option Reservation) × Option StowMove := (s.core d, s.stow.moves[d])

theorem touches_resetStowing : Touches [.dish d, .stow] s (s.resetStowing d) :=
  touches_ite (((touches_stopDish s d).mono (by simp)).trans ((touches_setMove _ d none).mono (by simp))) (.refl _ s)

theorem within_resetStowing : Within s (s.resetStowing d) :=
  within_ite ((within_stopDish _ _).trans (within_setMove _ _ _)) (.refl s)

theorem resetStowing_moveOf : (s.resetStowing d).moveOf d =
    if (s.dish d).motion = .stowing then (stopped (s.core d), none) else s.moveOf d := by
  unfold State.resetStowing
  split
  · have hcore : ((s.stopDish d).setMove d none).core d = stopped (s.core d) := stopDish_core s d
    unfold State.moveOf
    rw [hcore]
    exact congrArg (Prod.mk _) ((set_get _ _ _ _).trans (if_pos rfl))
  · rfl

theorem resetStowing_moveOf_ne {e : DishId} (h : e ≠ d) : (s.resetStowing d).moveOf e = s.moveOf e := by
  have hcore := (touches_resetStowing s d).core_eq (d := e) (by simpa using h)
  have hmove : (s.resetStowing d).stow.moves[e] = s.stow.moves[e] := by
    unfold State.resetStowing; split
    · have hm : (s.stopDish d).stow = s.stow := (touches_stopDish s d).stow (by simp)
      rw [← hm]; exact (set_get _ _ _ _).trans (if_neg h)
    · rfl
  unfold State.moveOf; rw [hcore, hmove]

/-- The Stow Controller's part in ACTIVE: a STOWING dish is stopped and its record discarded; no other dish but one in IDLE is
moved. -/
theorem resetStow_moveOf {s : State} {d : DishId} (ha : s.stow.state = .active) (hi : (s.dish d).motion ≠ .idle) :
    s.resetStow.moveOf d = if (s.dish d).motion = .stowing then (stopped (s.core d), none) else s.moveOf d := by
  obtain ⟨u, -, h1, h2⟩ := onDishes_at State.moveOf (fun w d e h => resetStowing_moveOf_ne w d h) within_resetStowing
    nodup_allDishes s (mem_allDishes d)
  unfold State.resetStow
  rw [if_pos ha]
  generalize s.onDishes allDishes State.resetStowing = v at h2 ⊢
  have hcore : u.core d = s.core d := (Prod.ext_iff.1 h1).1
  have hmotion : (u.dish d).motion = (s.dish d).motion := by rw [(core_eq hcore).1]
  have hv : v.moveOf d = if (s.dish d).motion = .stowing then (stopped (s.core d), none) else s.moveOf d := by
    rw [h2, resetStowing_moveOf, hmotion, h1, hcore]
  have hvi : (v.dish d).motion ≠ .idle := by
    have hc : v.core d = if (s.dish d).motion = .stowing then stopped (s.core d) else s.core d := by
      refine (congrArg Prod.fst hv).trans ?_; split <;> rfl
    split at hc
    · rw [(core_eq hc).1]; nofun
    · rw [(core_eq hc).1]; exact hi
  unfold State.moveOf at hv ⊢
  rw [buildQueue_core hvi, (buildQueue_stow v).2.1]; exact hv

theorem resetStow_other {s : State} (ha : s.stow.state ≠ .active) : s.resetStow = s := if_neg ha

theorem touches_resetStow : Touches (.stow :: allDishes.map .dish) s s.resetStow :=
  touches_ite ((touches_onAll _ (fun w e => (touches_resetStowing w e).mono (by simp [mem_allDishes])) _ s).trans
    (touches_buildQueue _)) (.refl _ s)

/-- A dish at rest in no call of a round comes through the Stow Controller's part and the rounds. -/
theorem resetStow_core {s : State} {d : DishId} (hi : (s.dish d).motion ≠ .idle) (hs : (s.dish d).motion ≠ .stowing) :
    s.resetStow.core d = s.core d := by
  by_cases ha : s.stow.state = .active
  · have h := congrArg Prod.fst (resetStow_moveOf ha hi)
    rw [if_neg hs] at h; exact h
  · rw [resetStow_other ha]

end

/-- No round lists a dish for a shed move. -/
theorem roundKeeps_shedList (es : List ShedEntry) : RoundKeeps fun s => s.melt.shedList ⊆ es :=
  .of_touches (fun _ _ h ht _ => List.Subset.trans ht.listed h) (fun _ _ _ _ _ _ h _ ht _ => List.Subset.trans ht.listed h)
    (fun s h _ _ => List.Subset.trans (touches_checkStowedHold s).listed h) (fun _ _ _ h _ ht _ => List.Subset.trans ht.listed h)
    (fun _ _ _ _ _ _ _ h _ _ ht _ => List.Subset.trans ht.listed h) (fun _ h => h)
    (fun _ s e r _ _ h => List.Subset.trans (touches_unlist s e.dish r).listed h)
    (fun _ s e p _ _ h _ _ => List.Subset.trans (touches_admitShed s e.dish p).listed h)

theorem settle_shedList {s : State} (h : s.melt.shedList = []) : s.settle.melt.shedList = [] :=
  List.subset_nil.1 ((roundKeeps_shedList []).settle (by rw [h]; exact List.Subset.refl _))

section
variable (s : State)

theorem within_driveReset : Within s.ordersDropped s.driveReset :=
  (within_halted _ _ _).trans <| (within_resetStow _).trans (within_askJudge _)

theorem touches_driveReset : Touches (.sheds :: .stow :: memberPlaces) s.ordersDropped s.driveReset := by
  have h1 : Touches (.sheds :: .stow :: memberPlaces) s.ordersDropped s.resetHalted :=
    (touches_halted s.ordersDropped .reset .reset).mono
      (List.cons_subset_cons _ (List.subset_cons_self _ _))
  have h2 : Touches (.sheds :: .stow :: memberPlaces) s.resetHalted s.resetHalted.resetStow :=
    (touches_resetStow s.resetHalted).mono
      (List.subset_cons_of_subset _ (List.cons_subset_cons _ (List.subset_append_right _ _)))
  exact (h1.trans h2).askJudge

theorem resetHalted_stow : s.resetHalted.stow = s.stow := (touches_halted s.ordersDropped .reset .reset).stow (by simp)

/-- A dish that the halt leaves STOPPING, FAULT or OFFLINE bears the same before the rounds. -/
theorem driveReset_core_before {s : State} {d : DishId} (hm : (s.resetHalted.dish d).motion = .stopping
    ∨ (s.resetHalted.dish d).motion = .fault ∨ (s.resetHalted.dish d).motion = .offline) :
    s.driveReset.core d = s.resetHalted.core d := by
  have hstow : s.resetHalted.resetStow.core d = s.resetHalted.core d :=
    resetStow_core (by rcases hm with h | h | h <;> rw [h] <;> nofun) (by rcases hm with h | h | h <;> rw [h] <;> nofun)
  rw [driveReset_eq]
  exact ((touches_judgeAsked _).core_eq List.not_mem_nil).trans hstow

theorem driveReset_core {s : State} {d : DishId} (hm : (s.resetHalted.dish d).motion = .stopping
    ∨ (s.resetHalted.dish d).motion = .fault ∨ (s.resetHalted.dish d).motion = .offline) :
    s.driveReset.settle.core d = s.resetHalted.core d := by
  have hcore := driveReset_core_before hm
  rw [settle_core, hcore]
  rw [(core_eq hcore).1]
  rcases hm with h | h | h <;> exact congrArg Motion.atCall h

/-- The motion of a dish that has left its group. -/
theorem departed_motion (c : Dish × Command × Option Reservation) : (departed c).1.motion = .stopping
    ∨ (departed c).1.motion = .fault ∨ (departed c).1.motion = .offline := by
  by_cases h : c.1.motion = .fault ∨ c.1.motion = .offline
  · rw [departed_lost h]; exact .inr h
  · obtain ⟨hf, ho⟩ := not_or.1 h
    rw [departed_stopped hf ho]; exact .inl rfl

/-- An active member after DRIVE RESET. -/
theorem driveReset_bound {s : State} {d : DishId} (h : s.bound d) : s.driveReset.settle.core d = departed (s.core d) := by
  have hcore : s.resetHalted.core d = departed (s.core d) := halted_core_bound (s := s.ordersDropped) .reset .reset h
  rw [driveReset_core, hcore]
  have hmotion := departed_motion (s.core d)
  rw [← hcore] at hmotion; exact hmotion

/-- A slot after DRIVE RESET. -/
theorem driveReset_slot (g : SlotId) : s.driveReset.settle.group g = (s.group g).dissolved .reset
    ∧ s.driveReset.settle.stream g = if (s.group g).state ≠ .free then Stream.reset else s.stream g := by
  have hhalted := halted_slot s.ordersDropped .reset .reset g
  have hstow := ((touches_resetStow s.resetHalted).askJudge).group g (by simp)
  rw [← driveReset_eq] at hstow
  have hkept : KeptSlot g ((s.group g).dissolved .reset) (if (s.group g).state ≠ .free then Stream.reset else s.stream g)
      s.driveReset := ⟨(touches_driveReset s).orders, hstow.1.trans hhalted.1, hstow.2.trans hhalted.2⟩
  exact ((roundKeeps_keptSlot (by rw [dissolved_state]; nofun)).settle hkept).2

theorem driveReset_pending {s : State} (h : ∃ g, (s.group g).state ≠ .free) :
    (s.driveReset.settle.source .groupAbort).pending = true := by
  have hhalted : (s.resetHalted.source .groupAbort).pending = true := halted_pending (s := s.ordersDropped) .reset .reset h
  rw [driveReset_eq]
  exact ((within_resetStow _).trans <| (within_askJudge _).trans (within_settle _)).pending _ hhalted

/-- STOPPING with STOP in its slot and no reservation. -/
def State.AtStop (s : State) (d : DishId) : Prop :=
  (s.dish d).motion = .stopping ∧ s.slot d = .stop ∧ s.feeder.reservations[d] = none

theorem atStop_of_core {s : State} {d : DishId} {c : Dish × Command × Option Reservation} (h : s.core d = c)
    (hm : c.1.motion = .stopping) (hc : c.2 = (.stop, none)) : s.AtStop d := by
  obtain ⟨h1, h2, h3⟩ := core_eq h
  exact ⟨by rw [h1]; exact hm, h2.trans (congrArg Prod.fst hc), h3.trans (congrArg Prod.snd hc)⟩

/-- A member that departs is stopped, unless it is FAULT or OFFLINE. -/
theorem atStop_of_departed {s t : State} {d : DishId} (h : t.core d = departed (s.core d)) (hf : (s.dish d).motion ≠ .fault)
    (ho : (s.dish d).motion ≠ .offline) : t.AtStop d :=
  atStop_of_core (h.trans (departed_stopped hf ho)) rfl rfl

theorem driveReset_shedding {s : State} {d : DishId} (h : (s.dish d).motion = .shedding) : s.driveReset.settle.AtStop d := by
  obtain ⟨h1, h2⟩ := halted_shedding (s := s.ordersDropped) .reset .reset h
  exact atStop_of_core (driveReset_core (s := s) (d := d) (.inl h1)) h1 h2

/-- The shed records of a SHEDDING dish that stands neither in a group nor in the Shed List. -/
theorem driveReset_shedOf {s : State} {d : DishId} (hm : (s.dish d).motion = .shedding) (hb : ¬ s.bound d)
    (hl : s.shedListed d = false) : s.driveReset.settle.shedOf d = (none, .reset) := by
  have hdissolved : ((s.ordersDropped.dissolveAll .reset).dish d).motion = .shedding := by
    have hcore : (s.ordersDropped.dissolveAll .reset).core d = s.core d :=
      dissolves_core_unbound .reset s.ordersDropped allSlots fun g _ hf hd => hb ⟨g, hf, hd⟩
    rw [(core_eq hcore).1]; exact hm
  have hhalted : s.resetHalted.shedOf d = (none, .reset) := by
    rw [resetHalted_eq]
    exact clearSheds_shedOf .reset hdissolved
      (shedListed_of_subset (s := s) hl (touches_dissolveAll .reset s.ordersDropped).listed)
  have hreset : s.driveReset.shedOf d = (none, .reset) := by
    rw [driveReset_eq]
    exact (touches_shedOf (touches_resetStow s.resetHalted).askJudge (by simp) d).trans hhalted
  obtain ⟨hmove, hresult⟩ := Prod.ext_iff.1 hreset
  have hended : ShedEnded d .reset s.driveReset :=
    ⟨shedListed_of_subset (s := s) hl (touches_driveReset s).listed, hresult⟩
  have hstop : s.driveReset.AtStop d := by
    obtain ⟨h1, h2⟩ := halted_shedding (s := s.ordersDropped) .reset .reset hm
    exact atStop_of_core (driveReset_core_before (.inl h1)) h1 h2
  have hspared := (spares_settle s.driveReset).dish d (by rw [hstop.1]; rfl)
  exact Prod.ext ((congrArg Hold.shedMove hspared).trans hmove) (((roundKeeps_shedEnded .reset).settle hended).2)

/-- In ACTIVE a STOWING dish is stopped; its move record is discarded where no group held it. -/
theorem driveReset_stowing {s : State} {d : DishId} (ha : s.stow.state = .active) (hm : (s.dish d).motion = .stowing) :
    s.driveReset.settle.AtStop d ∧ (¬ s.bound d → s.driveReset.settle.stow.moves[d] = none) := by
  by_cases hb : s.bound d
  · exact ⟨atStop_of_departed (driveReset_bound hb) (by rw [hm]; nofun) (by rw [hm]; nofun), fun h => absurd hb h⟩
  · have hhalted : s.resetHalted.core d = s.core d := by
      have hcore : s.resetHalted.core d = unshed (s.core d) := halted_core_unbound (s := s.ordersDropped) .reset .reset hb
      rw [hcore]; exact if_neg (by rw [show (s.core d).1.motion = .stowing from hm]; nofun)
    have hmotion : (s.resetHalted.dish d).motion = .stowing := by rw [(core_eq hhalted).1]; exact hm
    have hmove := resetStow_moveOf (s := s.resetHalted) (d := d) (by rw [resetHalted_stow]; exact ha) (by rw [hmotion]; nofun)
    rw [if_pos hmotion] at hmove
    obtain ⟨hcore, hrecord⟩ := Prod.ext_iff.1 hmove
    have hcore : s.driveReset.core d = stopped (s.resetHalted.core d) := by
      rw [driveReset_eq]; exact ((touches_judgeAsked _).core_eq List.not_mem_nil).trans hcore
    have hrecord : s.driveReset.stow.moves[d] = none := by
      rw [driveReset_eq, askJudge_stow]; exact hrecord
    have hcall : (s.driveReset.dish d).motion.atCall = false := by rw [(core_eq hcore).1]; rfl
    exact ⟨atStop_of_core ((settle_core hcall).trans hcore) rfl rfl,
      fun _ => (congrArg Hold.move ((spares_settle s.driveReset).dish d hcall)).trans hrecord⟩

/-- Outside ACTIVE DRIVE RESET leaves the Stow Controller alone (R113). -/
theorem driveReset_stow {s : State} (ha : s.stow.state ≠ .active) : s.driveReset.settle.stow = s.stow := by
  have hstow : s.driveReset.stow = s.stow := by
    have h := resetStow_other (s := s.resetHalted) (by rw [resetHalted_stow]; exact ha)
    rw [driveReset_eq, askJudge_stow, h]; exact resetHalted_stow s
  rw [(spares_settle s.driveReset).stow (by rw [hstow]; exact ha), hstow]

end

/-- Settles O50: groups and shed moves are ended by the halt that the entry to ACTIVE has too, and what is stopped by it, or by the Stow
Controller's part, no round takes up again. -/
theorem driveResetEmpties : Obligations.DriveResetEmpties := by
  unfold Obligations.DriveResetEmpties
  intro s hh stopped
  have hexec := exec_driveReset hh
  have hwithin : Within s.ordersDropped s.driveReset.settle := (within_driveReset s).trans (within_settle _)
  have horders : s.driveReset.settle.orders = [] := List.suffix_nil.1 hwithin.orders
  have hlist : s.driveReset.melt.shedList = [] := by
    have hsub := (touches_resetStow s.resetHalted).askJudge.listed
    rw [← driveReset_eq, resetHalted_eq, clearSheds_shedList] at hsub
    exact List.subset_nil.1 hsub
  have hslots := driveReset_slot s
  have hpending := fun g hg => driveReset_pending (s := s) ⟨g, hg⟩
  have hbound := fun d => driveReset_bound (s := s) (d := d)
  have hshedding := fun d => driveReset_shedding (s := s) (d := d)
  have hshedOf := fun d => driveReset_shedOf (s := s) (d := d)
  have hstowing := fun ha d => driveReset_stowing (s := s) (d := d) ha
  have hstow := driveReset_stow (s := s)
  have hlist : s.driveReset.settle.melt.shedList = [] := settle_shedList hlist
  generalize s.driveReset.settle = u at hexec hwithin horders hslots hpending hbound hshedding hshedOf hstowing hstow hlist
  have hcommit : u.resetCommit = s.afterReset := hwithin.resetCommit_eq
  have hunbound : ∀ d, (∀ g, (s.group g).state ≠ .free → d ∉ (s.group g).activeDishes) → ¬ s.bound d :=
    fun d h ⟨g, hf, hd⟩ => h g hf hd
  refine ⟨_, _, hexec, rfl, hwithin.staging_eq, horders, hlist, fun g => ⟨fun hf => ?_, fun hf => ?_⟩, hshedding,
    fun d hm hn hl => ?_, fun ha d hm => ?_, hstow, ?_, fun g => ?_, ?_⟩
  · obtain ⟨h1, h2⟩ := hslots g
    exact ⟨h1.trans (if_pos hf), h2.trans (if_neg (not_not.2 hf))⟩
  · obtain ⟨h1, h2⟩ := hslots g
    refine ⟨h1.trans (if_neg hf), h2.trans (if_pos hf), hpending g hf, fun d hd => ?_⟩
    have hcore := hbound d ⟨g, hf, hd⟩
    exact ⟨(congrArg Dish.group (core_eq hcore).1).trans (departed_spec _).1, fun h1 h2 => atStop_of_departed hcore h1 h2⟩
  · obtain ⟨h1, h2⟩ := Prod.ext_iff.1 (hshedOf d hm (hunbound d hn) hl)
    exact ⟨h2, h1⟩
  · obtain ⟨h1, h2⟩ := hstowing ha d hm
    exact ⟨h1, fun hn => h2 (hunbound d hn)⟩
  · have hf := (hwithin.putHolder .safety (some ⟨0x2D, .ok, s.resetField⟩)).fixed
    refine hf.trans ?_
    have hu : (u.answer .safety .driveReset .ok s.resetField).resetCommit = s.afterReset := hcommit
    rw [hu]; rfl
  · change u.resetCommit = _ ↔ _
    rw [hcommit]; exact afterReset_eq_holds
  · change u.resetCommit ≠ _
    rw [hcommit]
    unfold State.afterReset; split <;> nofun

end Sys2Proof.Machine
end

section
/-! The rounds of a step while a stow is in force, and STOW ARRAY (R59, R99 to R101, R111, R119, R132). -/

namespace Sys2Proof.Machine

/-! ## Rounds while a stow is in force (R41, R56, R119, R139) -/

/-- The places that the Stow Queue's turn touches. -/
abbrev forcePlaces : List Place := .stow :: .heat :: .block :: allDishes.map .dish

/-- From the first state to the second the stow has stayed in force: groups, streams, orders and shed records are untouched, and while
the state is ACTIVE still, a zone that was shut has stayed so. -/
structure ForceStep (s t : State) : Prop where
  inForce : t.stowInForce = true
  touches : Touches forcePlaces s t
  active : t.stow.state = .active → s.stow.state = .active ∧ ∀ z, s.Shut z → t.Shut z

section
variable {s t u : State}

theorem ForceStep.refl (h : s.stowInForce = true) : ForceStep s s := ⟨h, .refl _ s, fun ha => ⟨ha, fun _ => id⟩⟩

theorem ForceStep.trans (h : ForceStep s t) (k : ForceStep t u) : ForceStep s u where
  inForce := k.inForce
  touches := h.touches.trans k.touches
  active ha := by
    obtain ⟨ha, hk⟩ := k.active ha
    obtain ⟨ha, hh⟩ := h.active ha
    exact ⟨ha, fun z hz => hk z (hh z hz)⟩

/-- A change that blocks no zone and leaves the state of the stow. -/
theorem ForceStep.of_touches {ps : List Place} (h : s.stowInForce = true) (ht : Touches ps s t) (hp : ps ⊆ forcePlaces)
    (hb : .block ∉ ps) (hs : t.stow.state = s.stow.state) : ForceStep s t where
  inForce := by unfold State.stowInForce; rw [hs]; exact h
  touches := ht.mono hp
  active ha := ⟨hs ▸ ha, fun z hz => (ht.block hb z).2.1 hz⟩

theorem forceStep_heat (h : s.stowInForce = true) (ht : Touches [.heat] s t) : ForceStep s t :=
  .of_touches h ht (by simp) (by simp) (by rw [ht.stow (by simp)])

theorem forceStep_stowWalk (ds : List DishId) (h : s.stowInForce = true) : ForceStep s (stowWalk ds s).state := by
  have hplaces : ∀ d : DishId, [Place.dish d, .stow, .heat] ⊆ forcePlaces := fun d => by
    simp [mem_allDishes]
  have hadmit : ∀ {w : State} (d : DishId) (p : MovePlan), w.stowInForce = true → ForceStep w (w.admitStow d p) :=
    fun d p hw => .of_touches hw (touches_admitStow _ d p) (hplaces d) (by simp) (admitStow_stow _ d p).2
  have hinPlace : ∀ {w : State} (d : DishId), w.stowInForce = true → ForceStep w ((w.unqueue d).stowInPlace d) := fun {w} d hw => by
    have ht : Touches [.dish d, .stow, .heat] w ((w.unqueue d).stowInPlace d) :=
      ((touches_unqueue w d).mono (by simp)).trans ((touches_stowInPlace _ d).mono (by simp))
    exact .of_touches hw ht (hplaces d) (by simp) (unqueue_state w d)
  induction ds generalizing s with
  | nil => exact .refl h
  | cons d ds ih =>
    unfold stowWalk; dsimp only
    split
    · exact ih h
    · split
      · exact (hinPlace d h).trans (ih (hinPlace d h).inForce)
      · split
        · exact (hadmit d _ h).trans (ih (hadmit d _ h).inForce)
        · split
          · exact .refl h
          · have h1 := hadmit d ((s.planInput d).move 90000) h
            have ht := touches_noteFloor (s.admitStow d ((s.planInput d).move 90000)) d [] ((s.planInput d).move 90000)
            exact h1.trans (.of_touches h1.inForce ht (List.nil_subset _) (by simp) (by rw [ht.stow (by simp)]))

theorem forceStep_checkStowedHold (h : s.stowInForce = true) : ForceStep s s.checkStowedHold := by
  by_cases hc : s.stow.state = .active ∧ s.stow.queue = [] ∧ s.someStowing = false
  · obtain ⟨ha, hq, hn⟩ := hc
    have hstate := checkStowedHold_state ha hq hn
    refine ⟨?_, (touches_checkStowedHold s).mono (by simp), fun h' => ?_⟩
    · unfold State.stowInForce; rw [hstate]; split <;> rfl
    · rw [hstate] at h'; split at h' <;> cases h'
  · have heq : s.checkStowedHold = s := if_neg hc
    rw [heq]; exact .refl h

theorem forceStep_stowTurn (h : s.stowInForce = true) : ForceStep s s.stowTurn.state := by
  unfold State.stowTurn; split
  · have h1 := forceStep_stowWalk s.stow.queue h
    exact h1.trans (forceStep_checkStowedHold h1.inForce)
  · exact .refl h

/-- While a stow is in force a round is the Stow Queue's turn alone (R41, R56, R139). -/
theorem admissionRound_inForce (h : s.stowInForce = true) : s.admissionRound = s.stowTurn.state := by
  have hf := (forceStep_stowTurn h).inForce
  unfold State.admissionRound; dsimp only
  generalize s.stowTurn = r at hf ⊢
  obtain ⟨u, failed⟩ := r
  change u.stowInForce = true at hf
  have hwalk : ∀ gs : List SlotId, resumeWalk gs u = ⟨u, false⟩ := fun gs => by
    induction gs with
    | nil => rfl
    | cons g gs ih =>
      have hturn : u.resumeTurn g = ⟨u, false⟩ := if_neg (by simp [State.resumable, hf])
      unfold resumeWalk; rw [hturn]; exact ih
  have horders : ∀ os, orderWalk os u = ⟨u, false⟩ := fun os => by
    cases os with
    | nil => rfl
    | cons o os => unfold orderWalk; split <;> simp [hf]
  have hsheds : ∀ es, shedListWalk es u = ⟨u, false⟩ := fun es => by
    cases es with
    | nil => rfl
    | cons e es => simp [shedListWalk, hf]
  cases failed
  · rw [if_neg Bool.false_ne_true, hwalk]; dsimp only
    rw [if_neg Bool.false_ne_true, horders]; dsimp only
    rw [if_neg Bool.false_ne_true, hsheds]
  · exact if_pos rfl

theorem forceStep_settleFuel (n : Nat) (h : s.stowInForce = true) : ForceStep s (settleFuel n s) := by
  induction n generalizing s with
  | zero => exact forceStep_heat h (touches_asks _ s false false false)
  | succ n ih =>
    have go : ∀ {w : State}, ForceStep s w → ForceStep s (settleFuel n w) := fun k => k.trans (ih k.inForce)
    unfold settleFuel; split
    · exact go (forceStep_heat h ((touches_asks _ s false s.roundDue s.scanDue).trans (touches_judgeRestored _ _)))
    · split
      · have h1 : ForceStep s { s with roundDue := false } := forceStep_heat h (touches_asks _ s s.judgeDue false s.scanDue)
        rw [admissionRound_inForce h1.inForce]
        exact go (h1.trans (forceStep_stowTurn h1.inForce))
      · split
        · exact go (forceStep_heat h ((touches_asks _ s s.judgeDue s.roundDue false).trans (touches_scanWalk _ _)))
        · exact .refl h

/-- The rounds and scans of a step while a stow is in force. -/
theorem forceStep_settle (h : s.stowInForce = true) : ForceStep s s.settle := forceStep_settleFuel _ h

end

/-! ## Zones blocked by the stow (R132) -/

theorem blocks_of_active {s : State} (h : s.stow.state = .active) (d : DishId) : s.blocks d = true := by
  simp [State.blocks, h]

/-- In ACTIVE every zone judged is shut. -/
theorem reblockAll_shuts {s : State} (h : s.OrderPowered) (ha : s.stow.state = .active) (z : ZoneId) : s.reblockAll.Shut z := by
  have hfold : ∀ (ws : List ZoneId) (w : State), w.OrderPowered → w.stow.state = .active → z ∈ ws ∨ w.Shut z →
      (ws.foldl State.reblockZone w).Shut z := by
    intro ws
    induction ws with
    | nil => exact fun w _ _ hz => hz.resolve_left (by simp)
    | cons x ws ih =>
      intro w hw hact hz
      have hb := blocks_of_active hact x.dish
      refine ih _ (hw.reblockZone x) (by rw [(heatOnly_reblockZone w x).stow]; exact hact) ?_
      rcases hz with hz | hz
      · rcases List.mem_cons.1 hz with rfl | hz
        · exact .inr (reblockZone_shuts hw hb)
        · exact .inl hz
      · exact .inr (reblockZone_shut hz hb)
  have hmem : z ∈ allZones := List.mem_flatMap.2 ⟨z.dish, mem_allDishes _, mem_zonesOf.2 rfl⟩
  have h1 := hfold allZones s h ha (.inl hmem)
  unfold State.reblockAll
  generalize allZones.foldl State.reblockZone s = u at h1 ⊢
  exact h1

/-! ## The entry to ACTIVE (R100) -/

section
variable (s : State)

/-- The state ACTIVE entered, the hold-off timer stopped, and the heaters blocked by it. -/
def State.blocked (s : State) : State :=
  ({ s with stow := { s.stow with holdOff := none } }.setStowState .active).reblockAll

theorem enterActive_eq : s.enterActive = ((s.halted .stowAbort .aborted).blocked).buildQueue := by
  unfold State.enterActive State.halted State.blocked
  rfl

theorem touches_activated :
    Touches [.stow] s ({ s with stow := { s.stow with holdOff := none } }.setStowState .active) :=
  (touches_putStow s _).trans (touches_setStowState _ _)

theorem touches_blocked : Touches (.stow :: heatBlock) s s.blocked :=
  ((touches_activated s).mono (by simp)).trans ((touches_reblockAll _).mono (by simp))

theorem within_blocked : Within s s.blocked :=
  (within_putStow s _).trans <| (within_setStowState _ _).trans (within_reblockAll _)

theorem blocked_stow : s.blocked.stow.state = .active ∧ s.blocked.stow.tripOrder = s.stow.tripOrder := by
  have hs : s.blocked.stow = ({ s with stow := { s.stow with holdOff := none } }.setStowState .active).stow :=
    reblockAll_stow _
  rw [hs]
  refine ⟨setStowState_state _ _, ?_⟩
  unfold State.setStowState; split <;> rfl

theorem blocked_shuts {s : State} (h : s.OrderPowered) (z : ZoneId) : s.blocked.Shut z :=
  reblockAll_shuts (h.touch (touches_activated s) (by simp)) (setStowState_state _ _) z

theorem enterActive_inForce : s.enterActive.stowInForce = true := by
  rw [enterActive_eq]
  unfold State.stowInForce
  rw [(buildQueue_stow _).1, (blocked_stow _).1]; rfl

theorem touches_enterActive : Touches (.sheds :: .stow :: .heat :: .block :: memberPlaces) s s.enterActive := by
  rw [enterActive_eq]
  refine ((touches_halted s .stowAbort .aborted).mono ?_).trans <| ((touches_blocked _).mono ?_).trans
    ((touches_buildQueue _).mono ?_)
  · exact List.cons_subset_cons _ (by intro p hp; simp only [List.mem_cons]; tauto)
  · simp
  · exact List.subset_cons_of_subset _ (List.cons_subset_cons _ (List.subset_cons_of_subset _ (List.subset_cons_of_subset _
      (List.subset_append_right _ _))))

/-- What the halt has left neither in IDLE nor ENGAGED stays as it is through the entry to ACTIVE and the rounds. -/
theorem enterActive_core {s : State} {d : DishId} (h : ((s.halted .stowAbort .aborted).dish d).motion.atCall = false) :
    s.enterActive.settle.core d = (s.halted .stowAbort .aborted).core d := by
  have hblocked := (touches_blocked (s.halted .stowAbort .aborted)).core_eq (d := d) (by simp)
  have hdish := (core_eq hblocked).1
  have hqueue : s.enterActive.core d = (s.halted .stowAbort .aborted).core d := by
    rw [enterActive_eq, buildQueue_core, hblocked]
    intro hi
    have hmotion : ((s.halted .stowAbort .aborted).dish d).motion = .idle := (congrArg Dish.motion hdish).symm.trans hi
    rw [hmotion] at h; cases h
  rw [settle_core, hqueue]
  rw [(core_eq hqueue).1]; exact h

theorem enterActive_bound {s : State} {d : DishId} (h : s.bound d) :
    s.enterActive.settle.core d = departed (s.core d) := by
  have hcore := halted_core_bound .stowAbort .aborted h
  rw [enterActive_core, hcore]
  exact (congrArg (fun c => c.1.motion.atCall) hcore).trans (departed_spec _).2.1

theorem enterActive_shedding {s : State} {d : DishId} (h : (s.dish d).motion = .shedding) :
    s.enterActive.settle.AtStop d := by
  obtain ⟨h1, h2⟩ := halted_shedding .stowAbort .aborted h
  exact atStop_of_core (enterActive_core (congrArg Motion.atCall h1)) h1 h2

theorem enterActive_slot (g : SlotId) : s.enterActive.settle.group g = (s.group g).dissolved .stowAbort
    ∧ s.enterActive.settle.stream g = if (s.group g).state ≠ .free then Stream.reset else s.stream g := by
  obtain ⟨h1, h2⟩ := halted_slot s .stowAbort .aborted g
  obtain ⟨k1, k2⟩ := (touches_blocked (s.halted .stowAbort .aborted)).group g (by simp)
  obtain ⟨l1, l2⟩ := (touches_buildQueue (s.halted .stowAbort .aborted).blocked).group g (by simp)
  rw [← enterActive_eq] at l1 l2
  obtain ⟨m1, m2⟩ := (forceStep_settle (enterActive_inForce s)).touches.group g (by simp)
  exact ⟨m1.trans (l1.trans (k1.trans h1)), m2.trans (l2.trans (k2.trans h2))⟩

theorem enterActive_pending {s : State} (h : ∃ g, (s.group g).state ≠ .free) :
    (s.enterActive.settle.source .groupAbort).pending = true := by
  have hhalted := halted_pending .stowAbort .aborted h
  rw [enterActive_eq]
  exact ((within_blocked _).trans <| (within_buildQueue _).trans (within_settle _)).pending _ hhalted

theorem enterActive_shedList : s.enterActive.settle.melt.shedList = [] := by
  refine settle_shedList (List.subset_nil.1 ?_)
  have h1 := (touches_blocked (s.halted .stowAbort .aborted)).listed
  have h2 := (touches_buildQueue (s.halted .stowAbort .aborted).blocked).listed
  have h3 : (s.halted .stowAbort .aborted).melt.shedList = [] := by
    unfold State.halted; exact clearSheds_shedList _ _
  rw [h3] at h1
  rw [enterActive_eq]
  exact List.Subset.trans h2 h1

/-- A dish comes to its judgement at the queue's building as the halt has left it. -/
theorem enterActive_view (d : DishId) : ∃ u, Within s u ∧ u.core d = (s.halted .stowAbort .aborted).core d ∧ u.mark d = .none
    ∧ s.enterActive.core d = (u.buildDish d).core d ∧ s.enterActive.mark d = (u.buildDish d).mark d := by
  obtain ⟨u, hw, hc, hm, hr⟩ := buildQueue_view (s.halted .stowAbort .aborted).blocked d
  rw [← enterActive_eq] at hr
  refine ⟨u, (within_halted s _ _).trans ((within_blocked _).trans hw), hc.trans ?_, hm, hr⟩
  exact (touches_blocked _).core_eq (by simp)

/-- A dish that is FAULT or OFFLINE is marked (R101). -/
theorem enterActive_lost {s : State} {d : DishId} (hp : (s.cfg d).present = true)
    (hl : (s.dish d).motion = .fault ∨ (s.dish d).motion = .offline) :
    s.enterActive.settle.mark d = if s.moveLocked d then .blocked else .unreachable := by
  have hmotion : ((s.halted .stowAbort .aborted).dish d).motion = (s.dish d).motion := by
    by_cases hb : s.bound d
    · have hcore := (halted_core_bound .stowAbort .aborted hb).trans (departed_lost (c := s.core d) hl)
      rw [(core_eq hcore).1]; rfl
    · have hcore := halted_core_unbound .stowAbort .aborted hb
      have hsame : unshed (s.core d) = s.core d := if_neg (fun h => by
        rcases hl with hl | hl <;> rw [show (s.dish d).motion = .shedding from h] at hl <;> cases hl)
      rw [(core_eq (hcore.trans hsame)).1]
  obtain ⟨u, hw, hc, -, -, hmark⟩ := enterActive_view s d
  have hu : (u.dish d).motion = (s.dish d).motion := (congrArg Dish.motion (core_eq hc).1).trans hmotion
  have hcfg : (u.cfg d).present = true := by unfold State.cfg; rw [hw.settings_eq]; exact hp
  have hsettle : s.enterActive.settle.mark d = s.enterActive.mark d := by
    unfold State.mark; rw [(spares_settle _).marks]
  rw [hsettle, hmark, buildDish_lost hcfg (by rw [hu]; exact hl), hw.moveLocked_eq]

/-- A braked dish of no group that stands already stowed is STOWED in its place (R101). -/
theorem enterActive_stowed {s : State} {d : DishId} (hp : (s.cfg d).present = true) (hi : (s.dish d).motion = .idle)
    (ha : (s.dish d).alreadyStowed = true) (hb : ¬ s.bound d) :
    (s.enterActive.settle.dish d).motion = .stowed ∧ s.enterActive.settle.slot d = .holdBrake
      ∧ s.enterActive.settle.mark d = .none := by
  have hcore : (s.halted .stowAbort .aborted).core d = s.core d := by
    rw [halted_core_unbound .stowAbort .aborted hb]
    exact if_neg fun h => by rw [show (s.dish d).motion = .shedding from h] at hi; cases hi
  obtain ⟨u, hw, hc, hm, hcore', hmark⟩ := enterActive_view s d
  have hdish : u.dish d = s.dish d := (core_eq (hc.trans hcore)).1
  have hcfg : (u.cfg d).present = true := by unfold State.cfg; rw [hw.settings_eq]; exact hp
  rw [buildDish_stowed hcfg (by rw [hdish]; exact hi) (by rw [hdish]; exact ha)] at hcore' hmark
  have hin : (u.stowInPlace d).core d = ({ u.dish d with motion := .stowed }, .holdBrake, u.feeder.reservations[d]) :=
    (writeHoldBrake_core _ d).trans (by rw [(core_eq (setMotion_core u d .stowed)).1]; rfl)
  have hbefore := hcore'.trans hin
  have hsettled := (settle_core (by rw [(core_eq hbefore).1]; rfl)).trans hbefore
  obtain ⟨h1, h2, -⟩ := core_eq hsettled
  refine ⟨by rw [h1], h2, ?_⟩
  have hsettle : s.enterActive.settle.mark d = s.enterActive.mark d := by
    unfold State.mark; rw [(spares_settle _).marks]
  rw [hsettle, hmark]; exact hm

/-- While the state is ACTIVE still, every zone is shut (R132). -/
theorem enterActive_shut {s : State} (h : s.OrderPowered) (ha : s.enterActive.settle.stow.state = .active) (z : ZoneId) :
    s.enterActive.settle.Shut z := by
  have hpow := h.touch (touches_halted s .stowAbort .aborted) (by simp)
  have hshut := ((touches_buildQueue _).block (by simp) z).2.1 (blocked_shuts hpow z)
  rw [← enterActive_eq] at hshut
  exact ((forceStep_settle (enterActive_inForce s)).active ha).2 z hshut

theorem enterActive_trips : s.enterActive.settle.stow.tripOrder = s.stow.tripOrder := by
  rw [(spares_settle _).trips, enterActive_eq, (buildQueue_stow _).2.2, (blocked_stow _).2,
    (touches_halted s .stowAbort .aborted).stow (by simp)]

theorem enterActive_orders : s.enterActive.settle.orders = s.orders :=
  (forceStep_settle (enterActive_inForce s)).touches.orders.trans (touches_enterActive s).orders

end

/-! ## STOW ARRAY (R99, R111) -/

theorem exec_stowArray {s : State} (hh : s.hears .safety = true) :
    exec (.stowArray .safety (.fields {})) s = .next (s.plainTrigger.settle.answer .safety .stowArray .ok
      (u8 s.plainTrigger.settle.stow.state.place)) := serve_taken hh rfl _ _

theorem empty_of_shut {s : State} (h : ∀ z, s.Shut z) :
    s.feeder.powerOrder = [] ∧ ∀ z, (s.zone z).state ≠ .powered ∧ (s.zone z).state ≠ .waiting := by
  refine ⟨List.eq_nil_iff_forall_not_mem.2 fun x hx => (h x.zone).2 (List.mem_map_of_mem hx), fun z => ?_⟩
  rcases (h z).1 with e | e <;> rw [e] <;> exact ⟨nofun, nofun⟩

/-- Settles O43: the halt that DRIVE RESET has too, the heaters blocked, the queue built, and rounds that are the Stow Queue's turn
alone. -/
theorem stowArrayTriggers : Obligations.StowArrayTriggers := by
  unfold Obligations.StowArrayTriggers
  intro s hh
  have hexec := exec_stowArray hh
  refine ⟨fun ha hq => ?_, fun ha hf => ?_⟩
  · have htrigger : s.plainTrigger = s := if_pos ha
    rw [htrigger, settle_of_quiet s hq, ha] at hexec; exact hexec
  · have htrigger : s.plainTrigger = s.enterActive := if_neg ha
    rw [htrigger] at hexec
    have hpow : s.OrderPowered := fun z hz => (hf.2.2.1 z).2 hz
    have hforce := (forceStep_settle (enterActive_inForce s)).inForce
    have hslots := enterActive_slot s
    have hpending := fun h => enterActive_pending (s := s) h
    have hbound := fun d => enterActive_bound (s := s) (d := d)
    have hlist := enterActive_shedList s
    have hshedding := fun d => enterActive_shedding (s := s) (d := d)
    have hlost := fun d => enterActive_lost (s := s) (d := d)
    have hstowed := fun d => enterActive_stowed (s := s) (d := d)
    have hshut := enterActive_shut hpow
    have htrips := enterActive_trips s
    have horders := enterActive_orders s
    have hwithin : Within s s.enterActive.settle := (within_enterActive s).trans (within_settle _)
    generalize s.enterActive.settle = u at hexec hforce hslots hpending hbound hlist hshedding hlost hstowed hshut htrips horders hwithin
    refine ⟨_, hexec, hforce, rfl, fun g => ⟨?_, fun hg => ?_⟩, hlist, hshedding, hlost, fun d hp hi hb he hn => ?_,
      fun hact => empty_of_shut (hshut hact), htrips, horders, (hwithin.putHolder .safety _).fixed⟩
    · exact (congrArg Group.state (hslots g).1).trans (dissolved_state _ _)
    · obtain ⟨h1, h2⟩ := hslots g
      refine ⟨(congrArg Group.lastResult h1).trans ?_, h2.trans (if_pos hg), hpending ⟨g, hg⟩, fun d hd => ?_⟩
      · unfold Group.dissolved; rw [if_neg hg]; rfl
      · have hcore := hbound d ⟨g, hg, hd⟩
        exact ⟨(congrArg Dish.group (core_eq hcore).1).trans (departed_spec _).1, fun h1 h2 => atStop_of_departed hcore h1 h2⟩
    · have halready : (s.dish d).alreadyStowed = true := by simp [Dish.alreadyStowed, hb, he]
      exact hstowed d hp hi halready fun ⟨g, hg, hd⟩ => hn g hg hd

end Sys2Proof.Machine
end

section
/-! A group's resume asked for and admitted: the turns of the RESUME_WAIT groups, and RESUME GROUP (R55, R56, R119). -/

namespace Sys2Proof.Machine

/-! ## The turns of the groups waiting to resume -/

section
variable {s t : State} {g k : SlotId}

theorem resumeTurn_of_notWaiting (h : (s.group k).state ≠ .resumeWait) : s.resumeTurn k = ⟨s, false⟩ :=
  if_neg (by simp [State.resumable, h])

theorem resumeWalk_of_noneWaiting {gs : List SlotId} (h : ∀ k ∈ gs, (s.group k).state ≠ .resumeWait) :
    resumeWalk gs s = ⟨s, false⟩ := by
  induction gs with
  | nil => rfl
  | cons k gs ih =>
    obtain ⟨hk, hgs⟩ := List.forall_mem_cons.1 h
    unfold resumeWalk; rw [resumeTurn_of_notWaiting hk]; exact ih hgs

/-- Where one group waits and is admitted, and none waits then, the walk is its turn. -/
theorem resumeWalk_single (hothers : ∀ k, k ≠ g → (s.group k).state ≠ .resumeWait) (hturn : s.resumeTurn g = ⟨t, false⟩)
    (hafter : ∀ k, (t.group k).state ≠ .resumeWait) {gs : List SlotId} (hg : g ∈ gs) : resumeWalk gs s = ⟨t, false⟩ := by
  induction gs with
  | nil => cases hg
  | cons k gs ih =>
    unfold resumeWalk
    by_cases hk : k = g
    · rw [hk, hturn]; exact resumeWalk_of_noneWaiting fun j _ => hafter j
    · rw [resumeTurn_of_notWaiting (hothers k hk)]
      exact ih ((List.mem_cons.1 hg).resolve_left fun e => hk e.symm)

/-- After the groups' turns a round is the turns of the Order Queue and the Shed List, which spare what is at no call. -/
theorem spares_admissionRound_resumed (hs : s.stow.state ≠ .active) (hwalk : resumeWalk allSlots s = ⟨t, false⟩) :
    Spares t s.admissionRound := by
  have hstow : s.stowTurn = ⟨s, false⟩ := if_neg hs
  have horders := Spares.orderWalk t.orders (.refl t)
  unfold State.admissionRound; rw [hstow]; dsimp only
  rw [if_neg Bool.false_ne_true, hwalk]; dsimp only
  rw [if_neg Bool.false_ne_true]
  split
  · exact horders
  · exact horders.shedListWalk _

end

section
variable (s : State) (g : SlotId)

theorem resumeTrack_group (draws : List (DishId × Nat)) (k : SlotId) : (s.resumeTrack g draws).group k =
    if k = g then { s.group g with heldFrom := none, state := .tracking } else s.group k := by
  unfold State.resumeTrack
  rw [setGroup_group, shedHeaters_group, enterGroup_group]
  split
  · next h => rw [h]
  · rfl

theorem passOnArrival_state : ((s.passOnArrival g).group g).state = .positioned
    ∨ ((s.passOnArrival g).group g).state = .tracking := by
  unfold State.passOnArrival; split
  · exact .inl (congrArg Group.state (setGroup_group_self _ _ _))
  · exact .inr (congrArg Group.state (setGroup_group_self _ _ _))

theorem launch_state : ((s.launch g).group g).state = .loading ∨ ((s.launch g).group g).state = .positioned
    ∨ ((s.launch g).group g).state = .tracking := by
  unfold State.launch; split
  · exact .inr (passOnArrival_state s g)
  · exact .inl (congrArg Group.state (setGroup_group_self _ _ _))

end

/-! ## What rounds make of a group that waits to resume -/

/-- The states of a group whose resume has been asked for: waiting, or admitted (R43, R55, R56). -/
def GroupState.asked (x : GroupState) : Prop := x = .resumeWait ∨ x = .loading ∨ x = .tracking ∨ x = .positioned

theorem GroupState.asked_ne_free {x : GroupState} (h : x.asked) : x ≠ .free := by
  rintro rfl
  rcases h with h | h | h | h <;> cases h

theorem asked_of_touches {s t : State} {g : SlotId} {ps : List Place} (h : (s.group g).state.asked) (ht : Touches ps s t)
    (hg : .group g ∉ ps) : (t.group g).state.asked := by rw [(ht.group g hg).1]; exact h

/-- A resumed group's turn leaves the others, and itself admitted. -/
theorem asked_of_resumed {s t : State} {g k : SlotId} {ps : List Place} (h : (s.group g).state.asked) (ht : Touches ps s t)
    (hps : ∀ j, .group j ∈ ps → j = k) (hk : (t.group k).state.asked) : (t.group g).state.asked := by
  by_cases he : g = k
  · rw [he]; exact hk
  · exact asked_of_touches h ht fun hg => he (hps g hg)

/-- By rounds a group that waits to resume goes on waiting or is admitted. -/
theorem roundKeeps_asked (g : SlotId) : RoundKeeps fun s => (s.group g).state.asked where
  asks s j r c h := h
  restored s h := asked_of_touches h (touches_judgeRestored s []) (by simp)
  power s z n h hz := asked_of_touches h (touches_powerZone s z n hz) (by simp)
  inPlace _ s d _ _ h _ := asked_of_touches (asked_of_touches h (touches_unqueue s d) (by simp)) (touches_stowInPlace _ d) (by simp)
  stow _ s d p _ _ h _ := asked_of_touches h (touches_admitStow s d p) (by simp)
  floor s d p h := asked_of_touches h (touches_noteFloor s d [] p) (by simp)
  held s h _ _ := asked_of_touches h (touches_checkStowedHold s) (by simp)
  resumeSlew s k n draws h _ hd := asked_of_resumed (k := k) h (touches_resumeSlew s k n draws hd)
    (by simp [group_mem_places]) (by
      obtain h | h | h := launch_state
        ((s.enterGroup draws).shedHeaters.setGroup k fun x =>
          { x with heldFrom := none, t := n, members := (s.group k).members.map (s.replan n) }) k
      · exact .inr (.inl h)
      · exact .inr (.inr (.inr h))
      · exact .inr (.inr (.inl h)))
  resumeTrack s k draws h _ _ := asked_of_resumed (k := k) h (touches_resumeTrack s k draws) (by simp)
    (.inr (.inr (.inl (by rw [resumeTrack_group, if_pos rfl]))))
  order _ s o k n draws _ _ h hf _ hd hm := by
    refine asked_of_touches (s := { s with orders := s.orders.tail }) h (touches_admitOrder s k o n draws hd hm) ?_
    have hk : g ≠ k := by
      rintro rfl
      exact GroupState.asked_ne_free h hf
    simp [hk, group_notMem_idlePlaces]
  refused s w h := h
  unlisted _ s e r _ _ h := asked_of_touches h (touches_unlist s e.dish r) (by simp)
  shed _ s e p _ _ h _ _ := asked_of_touches h (touches_admitShed s e.dish p) (by simp)

/-! ## The first round of a step -/

/-- The state that a step's first round is run on, where it is asked for: the over-commit mark has been judged, if that was asked for
too (R123, log 38). -/
structure FirstRound (s u : State) : Prop where
  touches : Touches [] s u
  within : Within s u
  fits : u.feeder.groupFits = s.feeder.groupFits

theorem judgeRestored_kept (s : State) : s.judgeRestored.feeder.groupFits = s.feeder.groupFits
    ∧ s.judgeRestored.roundDue = s.roundDue ∧ s.judgeRestored.judgeDue = s.judgeDue := by
  unfold State.judgeRestored; split
  · exact ⟨rfl, rfl, rfl⟩
  · split <;> exact ⟨rfl, rfl, rfl⟩

theorem settle_of_roundDue {s : State} (h : s.roundDue = true) :
    ∃ n u, FirstRound s u ∧ s.settle = settleFuel n u.admissionRound := by
  have hround : ∀ (n : Nat) (v : State), FirstRound s v → v.judgeDue = false → v.roundDue = true →
      ∃ n' u, FirstRound s u ∧ settleFuel (n + 1) v = settleFuel n' u.admissionRound := fun n v hv hj hr =>
    ⟨n, { v with roundDue := false }, ⟨hv.touches.trans (touches_asks _ v v.judgeDue false v.scanDue),
      hv.within.trans (within_asks v v.judgeDue false v.scanDue), hv.fits⟩, by
      conv => lhs; unfold settleFuel
      rw [hj, if_neg Bool.false_ne_true, if_pos hr]⟩
  obtain ⟨n, hn⟩ : ∃ n, s.settleBound = n + 2 := ⟨_, rfl⟩
  unfold State.settle; rw [hn]
  cases hj : s.judgeDue
  · exact hround _ s ⟨.refl _ s, .refl s, rfl⟩ hj h
  · obtain ⟨hfits, hround', hjudge⟩ := judgeRestored_kept { s with judgeDue := false }
    obtain ⟨m, u, hu, heq⟩ := hround n { s with judgeDue := false }.judgeRestored
      ⟨(touches_asks _ s false s.roundDue s.scanDue).trans (touches_judgeRestored _ _),
        (within_asks s false s.roundDue s.scanDue).trans (within_judgeRestored _), hfits⟩ hjudge (hround'.trans h)
    refine ⟨m, u, hu, ?_⟩
    rw [← heq]
    conv => lhs; unfold settleFuel
    rw [if_pos hj]

/-! ## RESUME GROUP (R55) -/

theorem exec_resumeGroup {s : State} (hh : s.hears .scheduler = true) (n : Nat) :
    exec (.resumeGroup .scheduler (.fields ⟨n⟩)) s = .next (s.onSlot .scheduler .resumeGroup n fun g =>
      match (s.group g).state with
      | .held =>
        if s.stowInForce then s.refuse .scheduler .resumeGroup .conditionActive
        else (s.setGroupState g .resumeWait).askRound.settle.answer .scheduler .resumeGroup .ok []
      | .holding => s.refuse .scheduler .resumeGroup .busy
      | .free | .loading | .slewing | .tracking | .trackHalted | .positioned | .resumeWait =>
        s.refuse .scheduler .resumeGroup .wrongState) := serve_taken hh rfl _ _

section
variable (s : State) (g : SlotId)

/-- A group's resume asked for (R55). -/
def State.asksResume (s : State) (g : SlotId) : State := (s.setGroupState g .resumeWait).askRound

theorem asksResume_group (k : SlotId) :
    (s.asksResume g).group k = if k = g then { s.group g with state := .resumeWait } else s.group k := by
  unfold State.asksResume State.setGroupState
  refine (setGroup_group _ _ _ _).trans ?_
  split
  · next h => rw [h]
  · rfl

theorem touches_asksResume : Touches [.group g] s (s.asksResume g) := (touches_setGroup s g _).askRound

theorem within_asksResume : Within s (s.asksResume g) := (within_setGroup s g _).trans (within_askRound _)

variable {s g}

theorem asksResume_admissible (hf : s.stowInForce = false) : (s.asksResume g).stow.state ≠ .active := by
  rw [(touches_asksResume s g).stow (by simp)]
  exact stow_ne_active hf

/-- Held from TRACKING, with its members ready and a fit, the group tracks again in the same step (R56). -/
theorem asksResume_tracks (hf : s.stowInForce = false) (hc : s.censusDone = true)
    (hothers : ∀ k, k ≠ g → (s.group k).state ≠ .resumeWait) (hfrom : (s.group g).heldFrom = some .tracking)
    (hready : ∀ m ∈ (s.group g).active, (s.dish m.order.dish).motion = .engaged ∧ m.braked = true)
    (hfits : s.feeder.groupFits ((s.group g).activeDishes.map s.trackSum).sum = true) :
    (s.asksResume g).settle.group g = { s.group g with state := .tracking, heldFrom := none } := by
  obtain ⟨n, u, hu, hsettle⟩ := settle_of_roundDue (s := s.asksResume g) rfl
  have hgroup : ∀ k, u.group k = if k = g then { s.group g with state := .resumeWait } else s.group k := fun k =>
    (hu.touches.group k (by simp)).1.trans (asksResume_group s g k)
  have hself := (hgroup g).trans (if_pos rfl)
  have hdish : ∀ d, u.dish d = s.dish d := fun d =>
    (hu.touches.dish d (by simp)).1.trans ((touches_asksResume s g).dish d (by simp)).1
  have hstow : u.stow = s.stow := (hu.touches.stow (by simp)).trans ((touches_asksResume s g).stow (by simp))
  have hwithin := (within_asksResume s g).trans hu.within
  have hresumable : u.resumable g = true := by
    have hforce : u.stowInForce = false := by unfold State.stowInForce; rw [hstow]; exact hf
    have hcensus : u.censusDone = true := by unfold State.censusDone; rw [hwithin.locks_eq]; exact hc
    unfold State.resumable Group.active
    rw [hself, hforce, hcensus]
    simp only [hdish, Bool.not_false, Bool.and_true, decide_true, Bool.true_and, List.all_eq_true, Bool.and_eq_true,
      decide_eq_true_eq]
    exact hready
  have hturn : u.resumeTurn g = ⟨u.resumeTrack g ((s.group g).activeDishes.map fun d => (d, s.trackSum d)), false⟩ := by
    have hsum : u.trackSum = s.trackSum := funext fun d => by
      unfold State.trackSum State.cfg; rw [hwithin.settings_eq]
    have hdraws : (((s.group g).activeDishes.map fun d => (d, s.trackSum d)).map (·.2)).sum
        = ((s.group g).activeDishes.map s.trackSum).sum := by rw [List.map_map]; rfl
    unfold State.resumeTurn
    rw [if_pos hresumable, hself, hfrom, hsum]
    dsimp only
    rw [hu.fits]
    exact if_pos ((congrArg _ hdraws).trans hfits)
  generalize (s.group g).activeDishes.map (fun d => (d, s.trackSum d)) = draws at hturn
  have hafter := resumeTrack_group u g draws
  have hwalk : resumeWalk allSlots u = ⟨u.resumeTrack g draws, false⟩ := by
    refine resumeWalk_single (fun k hk => ?_) hturn (fun k => ?_) (mem_allSlots g)
    · rw [hgroup, if_neg hk]; exact hothers k hk
    · rw [hafter]; split
      · nofun
      · next hk => rw [hgroup, if_neg hk]; exact hothers k hk
  have hspares := (spares_admissionRound_resumed (by rw [hstow]; exact stow_ne_active hf) hwalk).trans (spares_settleFuel n _)
  have hresult := (hafter g).trans (if_pos rfl)
  rw [hsettle, (hspares.group g (by rw [hresult]; rfl)).1, hresult, hself]

end

/-- Settles O37: the round that is asked for waits or admits; with the census INCOMPLETE it admits nobody. -/
theorem resumeGroupAsks : Obligations.ResumeGroupAsks := by
  unfold Obligations.ResumeGroupAsks
  intro g s hh
  have hexec := (exec_resumeGroup hh g.val).trans (by rw [onSlot_slot])
  refine ⟨fun hx hf => ?_, fun hx hf => ?_, fun hx => ?_, fun h1 h2 => ?_, fun n hn => ?_⟩
  · rw [hx, hf] at hexec; dsimp only at hexec
    rw [if_neg Bool.false_ne_true] at hexec
    have hasked := (roundKeeps_asked g).settle (s := s.asksResume g) (by rw [asksResume_group, if_pos rfl]; exact .inl rfl)
    refine ⟨_, hexec, rfl, ((within_asksResume s g).trans (within_settle _)).putHolder _ _, hasked, fun hc => ?_,
      fun hc hothers hfrom hready hfits => asksResume_tracks hf hc hothers hfrom hready (decide_eq_true hfits)⟩
    have hnobody : NobodyAdmitted (s.asksResume g) := ⟨asksResume_admissible hf, .inr hc⟩
    exact ((touches_settle_of_nobody hnobody).group g (by simp)).1.trans ((asksResume_group s g g).trans (if_pos rfl))
  · rw [hx, hf] at hexec; exact hexec
  · rw [hx] at hexec; exact hexec
  · split at hexec
    · next h => exact absurd h h1
    · next h => exact absurd h h2
    all_goals exact hexec
  · exact (exec_resumeGroup hh n).trans (by rw [onSlot_refused _ _ _ hn]; rfl)

end Sys2Proof.Machine
end

section
/-! Lock entries removed: what the end of a dish's last move lock and of its last heat lock does, and RELEASE LOCK (R38, R132, R150,
R151). -/

namespace Sys2Proof.Machine

/-! ## Lock entries counted -/

section
variable {s : State} {p : Fin 96} {e : LockEntry}

/-- A removed entry counts no more. -/
theorem countLocks_putLock_none (he : s.locks.entries[p] = some e) (f : LockEntry → Bool) :
    (s.putLock p none).countLocks f = s.countLocks f - if f e then 1 else 0 := by
  have hget : s.locks.entries.toList[p.val]'(by simp) = some e := by simpa using he
  unfold State.countLocks State.putLock
  dsimp only
  rw [Vector.toList_set, List.countP_set (by simp), hget]
  simp

theorem appliedMove_putLock_none (he : s.locks.entries[p] = some e) (hs : e.scope ≠ .heat) (ha : e.state = .applied) :
    (s.putLock p none).appliedMove e.dish = s.appliedMove e.dish - 1 := by
  unfold State.appliedMove
  rw [countLocks_putLock_none he, if_pos (by simp [hs, ha])]

theorem appliedHeat_putLock_none (he : s.locks.entries[p] = some e) (hs : e.scope ≠ .move) :
    (s.putLock p none).appliedHeat e.dish = s.appliedHeat e.dish - 1 := by
  unfold State.appliedHeat
  rw [countLocks_putLock_none he, if_pos (by simp [hs])]

/-- The lowest position whose content meets a test. -/
theorem findPosition_eq_some {f : Option LockEntry → Bool} :
    s.findPosition f = some p ↔ f s.locks.entries[p] = true ∧ ∀ q : Fin 96, q < p → f s.locks.entries[q] = false :=
  find?_finRange_eq_some

theorem findPosition_eq_none {f : Option LockEntry → Bool} :
    s.findPosition f = none ↔ ∀ q : Fin 96, f s.locks.entries[q] = false := by
  unfold State.findPosition
  simp [lockPositions]

theorem any_named {d : DishId} {tag : Nat} {x : Option LockEntry} : x.any (LockEntry.named d tag) = true ↔
    ∃ e, x = some e ∧ e.dish = d ∧ e.tag = tag := by
  cases x <;> simp [LockEntry.named]

end

/-! ## What the removal of an entry ends (R151) -/

section
variable {s : State} {e : LockEntry} {d : DishId}

theorem moveEntryGone_of_left (h : e.state = .applied → 1 ≤ s.appliedMove e.dish) : s.moveEntryGone e = s := by
  unfold State.moveEntryGone; split
  · rfl
  · next ha => exact if_pos (h ha)

theorem moveEntryGone_of_last (ha : e.state = .applied) (h : s.appliedMove e.dish = 0) :
    s.moveEntryGone e = s.moveLockEnded e.dish := by
  unfold State.moveEntryGone; rw [ha]; exact if_neg (by omega)

/-- Outside a stow the end of a move lock touches the dish alone. -/
theorem touches_moveEntryGone (hf : s.stowInForce = false) : Touches [.dish e.dish] s (s.moveEntryGone e) := by
  unfold State.moveEntryGone; split
  · exact .refl _ s
  · exact touches_ite (.refl _ s) (touches_moveLockEnded_plain (staysOut_of_not_inForce hf))

theorem moveEntryGone_dish : (s.moveEntryGone e).dish d = s.dish d := by
  unfold State.moveEntryGone; split
  · rfl
  · split
    · rfl
    · by_cases hd : d = e.dish
      · rw [hd]; exact moveLockEnded_dish s _
      · exact ((touches_moveLockEnded s e.dish).dish d (by simp [hd])).1

theorem touches_heatEntryGone : Touches heatBlock s (s.heatEntryGone e) :=
  touches_ite (.refl _ s) (touches_answerBlock _ _ _)

theorem touches_entryGone (hf : s.stowInForce = false) : Touches (.dish e.dish :: heatBlock) s (s.entryGone e) := by
  have hmove := (touches_moveEntryGone (e := e) hf).mono (qs := .dish e.dish :: heatBlock) (by simp)
  unfold State.entryGone; split
  · exact hmove
  · exact touches_heatEntryGone.mono (by simp)
  · exact hmove.after touches_heatEntryGone (by simp)

theorem moveLockEnded_slot (hf : s.stowInForce = false) (hi : (s.dish d).motion = .idle) (hl : s.moveLocked d = false) :
    (s.moveLockEnded d).slot d = .keep := by
  have hnone : (s.putSlot d .keep).rejoinBlocked d = s.putSlot d .keep := rejoinBlocked_none (staysOut_of_not_inForce (s := s) hf)
  unfold State.moveLockEnded
  rw [if_neg (by simp [hl]), if_pos hi, hnone, putSlot_slot_self]

/-- The end of an IDLE dish's last move lock returns its slot to KEEP (R11, R151). -/
theorem entryGone_keep (hf : s.stowInForce = false) (hi : (s.dish e.dish).motion = .idle) (hs : e.scope ≠ .heat)
    (ha : e.state = .applied) (h0 : s.appliedMove e.dish = 0) (hsw : (s.dish e.dish).switchLock = false) :
    (s.entryGone e).slot e.dish = .keep := by
  have hslot : (s.moveEntryGone e).slot e.dish = .keep := by
    rw [moveEntryGone_of_last ha h0]
    exact moveLockEnded_slot hf hi (moveLocked_false h0 hsw)
  unfold State.entryGone; split
  · exact hslot
  · next h => exact absurd h hs
  · rw [(touches_heatEntryGone.dish e.dish (by simp)).2.1]; exact hslot

/-- The end of a dish's last heat lock unblocks its zones, where nothing else blocks them (R132, R151). -/
theorem entryGone_unblocks (hf : s.stowInForce = false) (hs : e.scope ≠ .move) (h0 : s.appliedHeat e.dish = 0)
    (hsw : (s.dish e.dish).switchLock = false) (hc : s.censusDone = true) (hm : (s.dish e.dish).motion ≠ .offline)
    {z : ZoneId} (hz : z.dish = e.dish) : ((s.entryGone e).zone z).state ≠ .blocked := by
  have unblocks : ∀ u : State, u.appliedHeat e.dish = 0 → u.dish e.dish = s.dish e.dish → u.censusDone = true →
      u.stow.state ≠ .active → ((u.heatEntryGone e).zone z).state ≠ .blocked := fun u hu hd hcu hst => by
    have hlock : u.heatLocked e.dish = false := by simp [State.heatLocked, hu, hd, hsw]
    unfold State.heatEntryGone
    rw [if_neg (by simp [hlock])]
    exact answerBlock_unblocks (blocks_false_of hu (by rw [hd]; exact hsw) hcu hst (by rw [hd]; exact hm)) hz true
  unfold State.entryGone; split
  · next h => exact absurd h hs
  · exact unblocks s h0 rfl hc (stow_ne_active hf)
  · have hw := within_moveEntryGone s e
    refine unblocks _ (by rw [hw.appliedHeat_eq]; exact h0) moveEntryGone_dish (by rw [hw.censusDone_eq]; exact hc) ?_
    rw [(touches_moveEntryGone hf).stow (by simp)]; exact stow_ne_active hf

/-- A round asked for by itself, where nobody is admitted. -/
theorem settle_askRound_of_nobody (hq : s.Quiet) (hn : NobodyAdmitted s) : s.askRound.settle = s := by
  obtain ⟨hj, hr, hc⟩ := hq
  have hquiet : { s.askRound with roundDue := false } = s := by
    unfold State.askRound
    cases s; dsimp only at hr; rw [hr]
  obtain ⟨n, hn'⟩ : ∃ n, s.askRound.settleBound = n + 2 := ⟨_, rfl⟩
  unfold State.settle; rw [hn']
  unfold settleFuel
  rw [if_neg (by change ¬ s.judgeDue = true; rw [hj]; exact Bool.false_ne_true),
    if_pos (show s.askRound.roundDue = true from rfl), hquiet, admissionRound_of_nobody hn]
  unfold settleFuel
  rw [hj, hr, hc]; rfl

end

/-! ## RELEASE LOCK (R150) -/

theorem exec_releaseLock {n : StationId} {s : State} (hh : s.hears (.station n) = true) (f : ReleaseLockFields) :
    exec (.releaseLock (.station n) (.fields f)) s = .next (
      if h : f.dish < 48 then
        if 1 ≤ f.tag ∧ f.tag ≤ 999999 then
          match s.findPosition fun e => e.any (LockEntry.named ⟨f.dish, h⟩ f.tag) with
          | none => s.refuse (.station n) .releaseLock .notFound
          | some i =>
            match s.locks.entries[i] with
            | none => s.refuse (.station n) .releaseLock .notFound
            | some e => s.removeLock (.station n) i e
        else s.refuse (.station n) .releaseLock .badField
      else s.refuse (.station n) .releaseLock .badField) := serve_taken hh rfl _ _

/-- The state with the entry of a position removed and the removal answered and settled. -/
def State.lockGone (s : State) (p : Fin 96) (e : LockEntry) : State := ((s.putLock p none).answerRemoval e).settle

section
variable {s : State} {p : Fin 96} {e : LockEntry}

theorem within_lockGone : Within (s.putLock p none) (s.lockGone p e) := (within_answerRemoval _ e).trans (within_settle _)

theorem lockGone_of_left (he : s.locks.entries[p] = some e) (hq : s.Quiet) (hn : NobodyAdmitted s) (hs : e.scope = .move)
    (ha : e.state = .applied) (h2 : 2 ≤ s.appliedMove e.dish) : s.lockGone p e = s.putLock p none := by
  have hcount := appliedMove_putLock_none he (by rw [hs]; nofun) ha
  have hgone : (s.putLock p none).entryGone e = s.putLock p none := by
    unfold State.entryGone; rw [hs]
    exact moveEntryGone_of_left fun _ => by omega
  unfold State.lockGone State.answerRemoval
  rw [hgone]
  exact settle_askRound_of_nobody hq hn

theorem lockGone_keep (he : s.locks.entries[p] = some e) (hs : e.scope ≠ .heat) (ha : e.state = .applied)
    (h1 : s.appliedMove e.dish = 1) (hsw : (s.dish e.dish).switchLock = false) (hi : (s.dish e.dish).motion = .idle)
    (hc : s.censusDone = false) (hf : s.stowInForce = false) : (s.lockGone p e).slot e.dish = .keep := by
  have hcount := appliedMove_putLock_none he hs ha
  have hkeep := entryGone_keep (s := s.putLock p none) hf hi hs ha (by omega) hsw
  have ht := (touches_entryGone (s := s.putLock p none) (e := e) hf).askRound
  have hnobody : NobodyAdmitted ((s.putLock p none).answerRemoval e) := by
    refine ⟨?_, .inr ?_⟩
    · unfold State.answerRemoval; rw [ht.stow (by simp)]; exact stow_ne_active (s := s) hf
    · rw [(within_answerRemoval _ e).censusDone_eq]; exact hc
  exact ((touches_settle_of_nobody hnobody).dish e.dish (by simp)).2.1.trans hkeep

theorem lockGone_unblocked (he : s.locks.entries[p] = some e) (hs : e.scope ≠ .move) (h1 : s.appliedHeat e.dish = 1)
    (hsw : (s.dish e.dish).switchLock = false) (hc : s.censusDone = true) (hf : s.stowInForce = false)
    (hm : (s.dish e.dish).motion ≠ .offline) {z : ZoneId} (hz : z.dish = e.dish) :
    ((s.lockGone p e).zone z).state ≠ .blocked := by
  have hcount := appliedHeat_putLock_none he hs
  have ht := (touches_entryGone (s := s.putLock p none) (e := e) hf).askRound
  refine ((roundKeeps_unblocked z).settle ⟨?_, ?_⟩).2
  · unfold State.answerRemoval; rw [ht.stow (by simp)]; exact stow_ne_active (s := s) hf
  · exact entryGone_unblocks (s := s.putLock p none) hf hs (by omega) hsw hc hm hz

end

/-- Settles O52: the entry found is the lowest of its dish and tag, and its removal is answered by the counts that are left. -/
theorem releaseLockRemoves : Obligations.ReleaseLockRemoves := by
  unfold Obligations.ReleaseLockRemoves
  intro n f s hh answered named
  have hexec := exec_releaseLock hh f
  refine ⟨fun hbad => ?_, fun hd h1 h2 hnone => ?_, fun p e h1 h2 hp hlow => ?_⟩
  · by_cases hd : f.dish < 48
    · rw [dif_pos hd, if_neg (by omega)] at hexec; exact hexec
    · rw [dif_neg hd] at hexec; exact hexec
  · have hfind : s.findPosition (fun x => x.any (LockEntry.named ⟨f.dish, hd⟩ f.tag)) = none := by
      refine findPosition_eq_none.2 fun q => Bool.eq_false_iff.2 fun h => ?_
      obtain ⟨x, hx, hdish, htag⟩ := any_named.1 h
      exact hnone q x ⟨hx, by rw [hdish], htag⟩
    rw [dif_pos hd, if_pos ⟨h1, h2⟩, hfind] at hexec; exact hexec
  · intro locks d
    obtain ⟨he, hdish, htag⟩ := hp
    have hd : f.dish < 48 := hdish ▸ e.dish.isLt
    have hfind : s.findPosition (fun x => x.any (LockEntry.named ⟨f.dish, hd⟩ f.tag)) = some p := by
      refine findPosition_eq_some.2 ⟨any_named.2 ⟨e, he, Fin.ext hdish, htag⟩, fun q hq => Bool.eq_false_iff.2 fun h => ?_⟩
      obtain ⟨x, hx, hxd, hxt⟩ := any_named.1 h
      exact hlow q x hq ⟨hx, by rw [hxd], hxt⟩
    rw [dif_pos hd, if_pos ⟨h1, h2⟩, hfind] at hexec; dsimp only at hexec
    rw [he] at hexec; dsimp only at hexec
    have hwithin := within_lockGone (s := s) (p := p) (e := e)
    have hleft := lockGone_of_left he
    have hkeep := lockGone_keep he
    have hunblocked := lockGone_unblocked he
    unfold State.removeLock at hexec
    change exec _ s = .next ((s.lockGone p e).answer _ _ _ (u8 p.val ++ u8 e.scope.place ++ u8 e.state.place
      ++ (s.lockGone p e).lockCountsField e.dish)) at hexec
    generalize s.lockGone p e = u at hexec hwithin hleft hkeep hunblocked
    have hholder : (u.answer (.station n) .releaseLock .ok (u8 p.val ++ u8 e.scope.place ++ u8 e.state.place
        ++ u.lockCountsField e.dish)).holder (.station n) = some ⟨0x31, .ok, BitVec.ofNat 8 p.val
          :: BitVec.ofNat 8 e.scope.place :: BitVec.ofNat 8 e.state.place :: u.lockCountsField e.dish⟩ :=
      putHolder_holder u (.station n) _
    refine ⟨_, _, hexec, hholder, (putHolder_locks _ _ _).trans hwithin.locks_eq, ?_, ?_, fun hs ha h1 hsw hi hc hf => ?_,
      fun hs ha hsw hc hf hm z hz => ?_⟩
    · rw [hholder]; exact hwithin.putHolder _ _
    · rw [hholder]
      intro hq hn hs ha h2
      rw [hleft hq hn hs ha h2]; rfl
    · exact hkeep hs ha h1 hsw hi hc hf
    · exact hunblocked hs ha hsw hc hf hm hz

end Sys2Proof.Machine
end

section
/-! A group's passage to its on-arrival state, the arrivals of a SLEWING group, and its arrival grace (R47 to R49). -/

namespace Sys2Proof.Machine

/-! ## The passage to the on-arrival state (R48) -/

/-- The state that a group passes to on arrival, by its action (R48). -/
def onArrival : Action → GroupState
  | .position => .positioned
  | .track => .tracking

theorem onArrival_of_position {a : Action} (h : a = .position) : onArrival a = .positioned := by rw [h]; rfl

theorem onArrival_of_track {a : Action} (h : a = .track) : onArrival a = .tracking := by rw [h]; rfl

theorem onArrival_atCall (a : Action) : (onArrival a).atCall = false := by cases a <;> rfl

section
variable (s : State) (g : SlotId) (d : DishId)

theorem onDishes_dish {f : State → DishId → State} (hf : ∀ w e, (f w e).dish d = w.dish d) (ds : List DishId) :
    (s.onDishes ds f).dish d = s.dish d := by
  induction ds generalizing s with
  | nil => rfl
  | cons e ds ih => exact (ih (f s e)).trans (hf s e)

theorem releaseReservation_dish (e : DishId) : (s.releaseReservation e).dish d = s.dish d := by
  unfold State.releaseReservation; split <;> rfl

theorem limitReservation_dish (e : DishId) (n : Nat) : (s.limitReservation e n).dish d = s.dish d := by
  unfold State.limitReservation; split
  · rfl
  · split <;> rfl

/-- HOLD BRAKE written to the active members and their reservations removed. -/
def State.braked (s : State) (ds : List DishId) : State :=
  (s.onDishes ds State.writeHoldBrake).onDishes ds State.releaseReservation

/-- The active members' reservations limited to their track draws. -/
def State.limited (s : State) (ds : List DishId) : State := s.onDishes ds fun w d => w.limitReservation d (w.trackSum d)

variable (ds : List DishId)

theorem touches_braked : Touches (ds.map .dish) s (s.braked ds) :=
  (touches_onDishes _ touches_writeHoldBrake ds s).trans (touches_onDishes _ touches_releaseReservation ds _)

theorem touches_limited : Touches (ds.map .dish) s (s.limited ds) :=
  touches_onDishes _ (fun w d => touches_limitReservation w d _) ds s

theorem braked_dish : (s.braked ds).dish d = s.dish d := by
  unfold State.braked
  rw [onDishes_dish _ d (fun w e => releaseReservation_dish w d e), onDishes_dish (f := State.writeHoldBrake) s d fun _ _ => rfl]

theorem limited_dish : (s.limited ds).dish d = s.dish d := onDishes_dish _ d (fun w e => limitReservation_dish w d e _) ds

variable {d ds} in
theorem braked_core (hd : d ∈ ds) : (s.braked ds).core d = (s.dish d, .holdBrake, none) := by
  unfold State.braked
  rw [onDishes_core (F := fun c => (c.1, c.2.1, none)) touches_releaseReservation releaseReservation_core (fun _ => rfl) ds _ hd,
    onDishes_core (F := fun c => (c.1, .holdBrake, c.2.2)) touches_writeHoldBrake writeHoldBrake_core (fun _ => rfl) ds s hd]
  rfl

/-- The passage to POSITIONED or TRACKING, in one: the members' part, then the slot's. -/
theorem passPositioned_eq : s.passPositioned g =
    ((s.braked (s.group g).activeDishes).setGroupState g .positioned).raiseArrived g .positioned := rfl

theorem passTracking_eq : s.passTracking g =
    ((((s.limited (s.group g).activeDishes).setStream g fun x =>
      { x with coast := 0, lastAz := 0, lastEl := 0, starved := false, finish := false }).setGroupState g .tracking).raiseArrived g
        .tracking) := rfl

theorem passOnArrival_group : (s.passOnArrival g).group g = { s.group g with state := onArrival (s.group g).action } := by
  unfold State.passOnArrival; split
  · next ha =>
    rw [passPositioned_eq]
    refine (setGroup_group_self _ _ _).trans ?_
    rw [((touches_braked s (s.group g).activeDishes).group g (by simp)).1, onArrival_of_position ha]
  · next ha =>
    rw [passTracking_eq]
    refine (setGroup_group_self _ _ _).trans ?_
    rw [setStream_group, ((touches_limited s (s.group g).activeDishes).group g (by simp)).1, onArrival_of_track ha]

theorem passOnArrival_dish : (s.passOnArrival g).dish d = s.dish d := by
  unfold State.passOnArrival; split
  · rw [passPositioned_eq]; exact braked_dish s d _
  · rw [passTracking_eq]; exact limited_dish s d _

theorem raiseArrived_raises (x : GroupState) : ((s.raiseArrived g x).source .groupArrived).pending = true := by
  unfold State.raiseArrived
  rw [raise_source_self]; exact (raised_pending _ _).1

theorem passOnArrival_raises : ((s.passOnArrival g).source .groupArrived).pending = true := by
  unfold State.passOnArrival; split
  · exact raiseArrived_raises _ g _
  · exact raiseArrived_raises _ g _

variable {s g d} in
/-- An active member of a POSITION group has HOLD BRAKE and no reservation when the group has passed on. -/
theorem passOnArrival_core (ha : (s.group g).action = .position) (hd : d ∈ (s.group g).activeDishes) :
    (s.passOnArrival g).core d = (s.dish d, .holdBrake, none) := by
  unfold State.passOnArrival; rw [ha]
  rw [passPositioned_eq]
  exact braked_core s hd

end

/-! ## The judgement of a SLEWING group (R47) -/

section
variable {s : State} {g : SlotId} {d e : DishId} {why : ExclReason}

theorem isPending_iff {x : MemberStatus} : x.isPending = true ↔ x = .active := by
  cases x <;> simp [MemberStatus.isPending]

theorem judgeGroup_slewing (h : (s.group g).state = .slewing) : s.judgeGroup g = s.judgeArrival g := by
  unfold State.judgeGroup; rw [h]

theorem arrived_iff_ne_active {m : Member} (ha : m.isActive = true) : m.status = .arrived ↔ m.status ≠ .active := by
  unfold Member.isActive at ha
  cases hs : m.status <;> simp_all [MemberStatus.isActive]

theorem isActive_of_active {m : Member} (h : m.status = .active) : m.isActive = true := by
  unfold Member.isActive; rw [h]; rfl

theorem isActive_of_arrived {m : Member} (h : m.status = .arrived) : m.isActive = true := by
  unfold Member.isActive; rw [h]; rfl

theorem judgeArrival_passes (h : ∀ m ∈ (s.group g).members, m.status ≠ .active) : s.judgeArrival g = s.passOnArrival g := by
  refine if_pos (List.all_eq_true.2 fun m hm => ?_)
  obtain ⟨hmem, hact⟩ := List.mem_filter.1 hm
  exact decide_eq_true ((arrived_iff_ne_active hact).2 (h m hmem))

theorem judgeArrival_waits {m : Member} (hm : m ∈ (s.group g).members) (ha : m.status = .active) : s.judgeArrival g = s := by
  refine if_neg fun h => ?_
  have := List.all_eq_true.1 h m (List.mem_filter.2 ⟨hm, isActive_of_active ha⟩)
  rw [ha] at this; cases this

/-! ## A report of a member of a SLEWING group (R47) -/

/-- A group whose members of a dish have arrived if they had not (R47). -/
def Group.arrive (x : Group) (d : DishId) : Group :=
  x.setMember d fun m => if m.status.isPending then { m with status := .arrived } else m

theorem arrive_members (x : Group) (d : DishId) : (x.arrive d).members = x.members.map fun m =>
    if m.order.dish = d ∧ m.status = .active then { m with status := .arrived } else m := by
  refine List.map_congr_left fun m _ => ?_
  by_cases hd : m.order.dish = d
  · by_cases hs : m.status = .active <;> simp [isPending_iff, hd, hs]
  · rw [if_neg hd, if_neg fun h => hd h.1]

theorem arrive_activeDishes (x : Group) (d : DishId) : (x.arrive d).activeDishes = x.activeDishes := by
  have hstatus : ∀ m : Member, (if m.status.isPending then { m with status := .arrived } else m).isActive = m.isActive := fun m => by
    unfold Member.isActive
    cases hs : m.status <;> simp [MemberStatus.isPending, MemberStatus.isActive, hs]
  exact setMember_activeDishes x d _ hstatus fun m => by split <;> rfl

/-- A dish whose report is stored shows its member arrived: in position and still, at or after the start frame (R47). -/
def State.showsArrival (s : State) (g : SlotId) (d : DishId) : Prop :=
  (s.dish d).inPosition = true ∧ (s.dish d).moving = false ∧ ∃ f, (s.group g).startFrame = some f ∧ frameReached s.ring.frame f = true

theorem markArrived_of_not (h : ¬ s.showsArrival g d) : s.markArrived g d = s := by
  unfold State.markArrived; dsimp only
  refine if_neg fun hc => h ?_
  simp only [Bool.and_eq_true, Bool.not_eq_true', Option.any_eq_true] at hc
  obtain ⟨⟨hf, hp⟩, hm⟩ := hc
  exact ⟨hp, hm, hf⟩

/-- The member's entry marked ARRIVED, before the group is judged. -/
def State.arrivalMarked (s : State) (g : SlotId) (d : DishId) : State :=
  s.setMember g d fun m => if m.status.isPending then { m with status := .arrived } else m

theorem arrivalMarked_group (s : State) (g : SlotId) (d : DishId) : (s.arrivalMarked g d).group g = (s.group g).arrive d :=
  setGroup_group_self _ _ _

theorem markArrived_of_shows (hx : (s.group g).state = .slewing) (h : s.showsArrival g d) :
    s.markArrived g d = (s.arrivalMarked g d).judgeArrival g := by
  obtain ⟨hp, hm, hf⟩ := h
  have hcond : ((s.group g).startFrame.any (frameReached s.ring.frame) && (s.dish d).inPosition && !(s.dish d).moving) = true := by
    rw [hp, hm]; simpa [Option.any_eq_true] using hf
  unfold State.markArrived; dsimp only
  rw [if_pos hcond]
  exact judgeGroup_slewing (s := s.arrivalMarked g d) (by rw [arrivalMarked_group]; exact hx)

theorem markArrived_dish (hx : (s.group g).state = .slewing) (e : DishId) : (s.markArrived g d).dish e = s.dish e := by
  by_cases h : s.showsArrival g d
  · rw [markArrived_of_shows hx h]
    unfold State.judgeArrival; split
    · exact passOnArrival_dish _ _ _
    · rfl
  · rw [markArrived_of_not h]

/-- A report of a member of a SLEWING group that shows no fault and no change of the switch lock is the group's to answer. -/
theorem exec_report_slewing {r : Report} (ha : ReportAwaited d s) (hf : r.fault = 0) (hsw : r.switchLock = (s.dish d).switchLock)
    (hm : (s.dish d).motion = .engaged) (hg : (s.dish d).group = some g) (hl : s.lockRequested d = false)
    (hx : (s.group g).state = .slewing) : exec (.validReport d r) s = .next ((s.stored d r).markArrived g d).settle := by
  obtain ⟨hmotion, hgroup, -, hswitch, -⟩ := stored_shows s d r
  have hrules := stateRules_moving (s := s.stored d r) (.inl (hmotion.trans hm))
  have hmot := (congrArg Dish.motion (markArrived_dish (s := s.stored d r) (d := d) hx d)).trans (hmotion.trans hm)
  have hreport : (s.stored d r).groupReport d = (s.stored d r).markArrived g d := by
    unfold State.groupReport; rw [hgroup, hg]; dsimp only
    rw [stored_group, hx]
  rw [exec_report_clear ha hf, hrules]
  unfold State.answers
  rw [lockReport_of_unrequested (s := s.stored d r) hl, switchReport_same (hswitch.trans hsw), hreport,
    stowReport_other (by rw [hmot]; nofun), shedReport_other (by rw [hmot]; nofun)]

/-- A group that has passed on leaves nobody more to be admitted. -/
theorem passOnArrival_nobody (h : NobodyAdmitted s) (g : SlotId) : NobodyAdmitted (s.passOnArrival g) := by
  have ht := touches_passOnArrival s g
  refine h.of_same (by rw [ht.stow (by simp [stow_notMem_places])]; exact h.1) (by rw [ht.orders]) ht.listed (fun k e => ?_)
    (by rw [(within_passOnArrival s g).locks_eq])
  by_cases hk : k = g
  · subst hk; rw [passOnArrival_group] at e
    cases ha : (s.group k).action <;> rw [ha] at e <;> cases e
  · rwa [(ht.group k (by simp [group_mem_places, hk])).1] at e

theorem arrivalMarked_nobody (h : NobodyAdmitted s) (hx : (s.group g).state ≠ .resumeWait) : NobodyAdmitted (s.arrivalMarked g d) := by
  have ht : Touches [.group g] s (s.arrivalMarked g d) := touches_setMember s g d _
  refine h.of_same h.1 (by rw [ht.orders]) ht.listed (fun k e => ?_) rfl
  by_cases hk : k = g
  · subst hk; rw [arrivalMarked_group] at e; exact absurd e hx
  · rwa [(ht.group k (by simpa using hk)).1] at e

/-! ## The arrival grace (R47) -/

/-- A SLEWING group has a member of the dish that has not arrived. -/
def State.Underway (s : State) (g : SlotId) (d : DishId) : Prop :=
  (s.group g).state = .slewing ∧ ∃ m ∈ (s.group g).active, m.order.dish = d ∧ m.status = .active

theorem State.Underway.mem_activeDishes (h : s.Underway g d) : d ∈ (s.group g).activeDishes := by
  obtain ⟨-, m, hm, rfl, -⟩ := h
  exact List.mem_map_of_mem hm

/-- A SLEWING group that an exclusion has left with an active member is judged for its arrival (R47, R49). -/
theorem afterExclusion_slewing (hx : (s.group g).state = .slewing) {m : Member} (hm : m ∈ (s.group g).active) :
    s.afterExclusion g = s.judgeArrival g := by
  have hne : ¬ (s.group g).active.isEmpty = true := fun he => List.not_mem_nil (List.isEmpty_iff.1 he ▸ hm)
  unfold State.afterExclusion
  rw [if_neg hne, judgeGroup_slewing hx]

/-- While a member has not arrived, an exclusion does not pass its group on. -/
theorem State.Underway.afterExclusion (h : s.Underway g d) : s.afterExclusion g = s := by
  obtain ⟨hx, m, hm, -, ha⟩ := h
  rw [afterExclusion_slewing hx hm, judgeArrival_waits (List.mem_of_mem_filter hm) ha]

/-- An exclusion leaves the other members that have not arrived as they were, with their dishes. -/
theorem State.Underway.exclude (h : s.Underway g d) (he : d ≠ e) :
    (s.exclude g e why).Underway g d ∧ (s.exclude g e why).core d = s.core d := by
  obtain ⟨hx, m, hm, hmd, ha⟩ := h
  have hstays : (s.expelled g e why).Underway g d := by
    refine ⟨?_, m, (mem_expelled_active s g e why).2 ⟨hm, hmd ▸ he⟩, hmd, ha⟩
    rw [expelled_without]; exact hx
  rw [exclude_eq, hstays.afterExclusion]
  exact ⟨hstays, (touches_expelled s g e why).core_eq (by simpa using he)⟩

/-- At the grace the dish of a member that has not arrived leaves its group (R47, R49). -/
theorem State.Underway.excludeAll (h : s.Underway g d) {ds : List DishId} (hd : d ∈ ds) :
    (s.excludeAll g ds why).core d = departed (s.core d) := by
  induction ds generalizing s with
  | nil => cases hd
  | cons e ds ih =>
    rw [excludeAll_cons]
    by_cases he : d = e
    · subst he
      rw [if_pos h.mem_activeDishes, excludeAll_outside ds exclude_departed.2, exclude_departed.1]
    · have hd : d ∈ ds := (List.mem_cons.1 hd).resolve_left he
      split
      · obtain ⟨hstays, hcore⟩ := h.exclude (why := why) he
        rw [ih hstays hd, hcore]
      · exact ih h hd

/-- A SLEWING group in which just the active members of the dishes listed have not arrived, each of them once, and some other has. -/
structure GracePending (g : SlotId) (ds : List DishId) (s : State) : Prop where
  slewing : (s.group g).state = .slewing
  nodup : ds.Nodup
  listed : ∀ d ∈ ds, d ∈ (s.group g).activeDishes
  underway : ∀ m ∈ (s.group g).active, m.status = .active ↔ m.order.dish ∈ ds
  some_arrived : ∃ m ∈ (s.group g).active, m.status = .arrived

variable {ds : List DishId}

theorem GracePending.expelled (h : GracePending g (d :: ds) s) : GracePending g ds (s.expelled g d why) where
  slewing := by rw [expelled_without]; exact h.slewing
  nodup := (List.nodup_cons.1 h.nodup).2
  listed e he := (mem_expelled_activeDishes s g d why).2
    ⟨h.listed e (List.mem_cons_of_mem _ he), ne_of_mem_of_not_mem he (List.nodup_cons.1 h.nodup).1⟩
  underway m hm := by
    obtain ⟨hm, hd⟩ := (mem_expelled_active s g d why).1 hm
    rw [h.underway m hm, List.mem_cons]; exact or_iff_right hd
  some_arrived := by
    obtain ⟨m, hm, ha⟩ := h.some_arrived
    refine ⟨m, (mem_expelled_active s g d why).2 ⟨hm, fun hd => ?_⟩, ha⟩
    rw [(h.underway m hm).2 (hd ▸ List.mem_cons_self)] at ha; cases ha

theorem GracePending.afterExclusion (h : GracePending g ds s) : s.afterExclusion g = s.judgeArrival g := by
  obtain ⟨m, hm, -⟩ := h.some_arrived
  exact afterExclusion_slewing h.slewing hm

theorem GracePending.arrived (h : GracePending g [] s) : s.judgeArrival g = s.passOnArrival g :=
  judgeArrival_passes fun m hm ha =>
    List.not_mem_nil ((h.underway m (List.mem_filter.2 ⟨hm, isActive_of_active ha⟩)).1 ha)

/-- Excluded one after another, the members that have not arrived leave a group that passes on once all are gone. -/
theorem GracePending.excludeAll (h : GracePending g (d :: ds) s) :
    s.excludeAll g (d :: ds) why = (s.expelAll g (d :: ds) why).passOnArrival g := by
  induction ds generalizing s d with
  | nil =>
    rw [excludeAll_cons, if_pos (h.listed d List.mem_cons_self)]
    exact h.expelled.afterExclusion.trans h.expelled.arrived
  | cons e ds ih =>
    have hrest : GracePending g (e :: ds) (s.expelled g d why) := h.expelled
    obtain ⟨m, hm, rfl⟩ := List.mem_map.1 (hrest.listed e List.mem_cons_self)
    have hwaits := judgeArrival_waits (List.mem_of_mem_filter hm) ((hrest.underway m hm).2 List.mem_cons_self)
    rw [excludeAll_cons, if_pos (h.listed d List.mem_cons_self), exclude_eq, hrest.afterExclusion, hwaits, expelAll_cons]
    exact ih hrest

/-- The dishes of the members that have not arrived. -/
abbrev Group.pendingDishes (x : Group) : List DishId := x.dishesWhere fun m => m.status.isPending

theorem mem_pendingDishes {x : Group} {d : DishId} :
    d ∈ x.pendingDishes ↔ ∃ m ∈ x.members, m.status = .active ∧ m.order.dish = d := by
  simp only [Group.dishesWhere, Group.active, List.mem_map, List.mem_filter, isPending_iff, and_assoc]
  exact exists_congr fun m => and_congr_right fun _ => ⟨fun ⟨_, h⟩ => h, fun h => ⟨isActive_of_active h.1, h⟩⟩

/-- Where no dish has two entries, a dish is listed by its member's status. -/
theorem dish_mem_pendingDishes {x : Group} (hn : (x.members.map (·.order.dish)).Nodup) {m : Member} (hm : m ∈ x.members) :
    m.order.dish ∈ x.pendingDishes ↔ m.status = .active := by
  rw [mem_pendingDishes]
  constructor
  · rintro ⟨m', hm', ha, hd⟩
    obtain rfl : m' = m := List.inj_on_of_nodup_map hn hm' hm hd
    exact ha
  · exact fun ha => ⟨m, hm, ha, rfl⟩

theorem gracePending_pendingDishes (hx : (s.group g).state = .slewing) (hn : ((s.group g).members.map (·.order.dish)).Nodup)
    (ha : ∃ m ∈ (s.group g).members, m.status = .arrived) : GracePending g (s.group g).pendingDishes s where
  slewing := hx
  nodup := hn.sublist ((List.filter_sublist.trans List.filter_sublist).map _)
  listed d hd := by
    obtain ⟨m, hm, ha, rfl⟩ := mem_pendingDishes.1 hd
    exact List.mem_map_of_mem (List.mem_filter.2 ⟨hm, isActive_of_active ha⟩)
  underway m hm := (dish_mem_pendingDishes hn (List.mem_of_mem_filter hm)).symm
  some_arrived := by
    obtain ⟨m, hm, ha⟩ := ha
    exact ⟨m, List.mem_filter.2 ⟨hm, isActive_of_arrived ha⟩, ha⟩

theorem without_pendingDishes {x : Group} (hn : (x.members.map (·.order.dish)).Nodup) (why : ExclReason) (n : Frame) :
    (x.without x.pendingDishes why n).members =
      x.members.map fun m => if m.status = .active then { m with status := .excluded why n } else m :=
  List.map_congr_left fun m hm => by simp only [dish_mem_pendingDishes hn hm]

theorem exec_arrivalGrace {f : Frame} (hr : s.resetHeld = false) (hx : (s.group g).state = .slewing)
    (hf : (s.group g).arrivalFrame = some f) (h40 : f + 40 = s.ring.frame) :
    exec (.arrivalGrace g) s = .next (s.excludeAll g (s.group g).pendingDishes .arrivalTimeout).settle := by
  have hreached : s.graceReached g = true := by
    unfold State.graceReached
    rw [hf, Option.map_some, h40]; simp [hx]
  exact (event_taken hr).trans (congrArg _ (if_pos hreached))

end

/-- Settles O19: a report marks its member and has the group judged; at the grace each member under way departs, and the last exclusion
passes the group on with the rest. -/
theorem slewingGroupArrives : Obligations.SlewingGroupArrives := by
  unfold Obligations.SlewingGroupArrives
  intro g s hx arrival
  have harrival : arrival = onArrival (s.group g).action := rfl
  constructor
  · intro d r ha hf hsw hm hg hl shows members all
    have hexec := exec_report_slewing ha hf hsw hm hg hl hx
    have hx' : ((s.stored d r).group g).state = .slewing := hx
    have hshows : (s.stored d r).showsArrival g d ↔ shows := by
      unfold State.showsArrival frameReached
      rw [stored_dish]
      simp only [decide_eq_true_eq]; rfl
    have hgroup : ((s.stored d r).arrivalMarked g d).group g = { s.group g with members := members } := by
      rw [arrivalMarked_group, stored_group]
      exact congrArg (fun ms => { s.group g with members := ms }) (arrive_members (s.group g) d)
    refine ⟨_, hexec, fun hno => ?_, fun hyes hnot => ?_, fun hyes hall => ?_⟩
    · rw [markArrived_of_not (mt hshows.1 hno), ((spares_settle _).group g (by rw [hx']; rfl)).1, stored_group]
    · obtain ⟨m, hm, hact⟩ : ∃ m ∈ members, m.status = .active := by simpa [all] using hnot
      rw [markArrived_of_shows hx' (hshows.2 hyes), judgeArrival_waits (m := m) (by rw [hgroup]; exact hm) hact,
        ((spares_settle _).group g (by rw [hgroup]; exact congrArg GroupState.atCall hx)).1, hgroup]
    · rw [markArrived_of_shows hx' (hshows.2 hyes), judgeArrival_passes (by rw [hgroup]; exact hall)]
      have hpassed := passOnArrival_group ((s.stored d r).arrivalMarked g d) g
      have hraised := passOnArrival_raises ((s.stored d r).arrivalMarked g d) g
      rw [hgroup] at hpassed
      refine ⟨?_, (within_settle _).pending _ hraised, fun hn hpos e he => ?_⟩
      · rw [((spares_settle _).group g (by rw [hpassed]; exact onArrival_atCall _)).1, hpassed, harrival]
      · have hnobody : NobodyAdmitted (((s.stored d r).arrivalMarked g d).passOnArrival g) :=
          passOnArrival_nobody (arrivalMarked_nobody (s := s.stored d r) hn (by rw [hx']; nofun)) g
        have hcore := passOnArrival_core (s := (s.stored d r).arrivalMarked g d) (g := g) (d := e) (by rw [hgroup]; exact hpos)
          (by rw [arrivalMarked_group, arrive_activeDishes]; exact he)
        obtain ⟨h1, h2, h3⟩ := core_eq (((touches_settle_of_nobody hnobody).core_eq (by simp)).trans hcore)
        have hdish : ((s.stored d r).arrivalMarked g d).dish e = (s.stored d r).dish e := rfl
        rw [h1, h2, h3, hdish]
        refine ⟨rfl, rfl, ?_⟩
        by_cases hed : e = d
        · subst hed; obtain ⟨k1, k2, -⟩ := stored_shows s e r; exact ⟨k1, k2⟩
        · rw [stored_dish_ne s d r hed]; exact ⟨rfl, rfl⟩
  · intro f hr hload h40
    refine ⟨_, exec_arrivalGrace hr hx hload h40, fun m hm ha => ?_, fun hn hun harr => ?_,
      ((within_excludeAll _ _ _ _).trans (within_settle _)).fixed⟩
    · have hcore := State.Underway.excludeAll (s := s) (g := g) (d := m.order.dish) (why := .arrivalTimeout)
        ⟨hx, m, List.mem_filter.2 ⟨hm, isActive_of_active ha⟩, rfl, ha⟩ (mem_pendingDishes.2 ⟨m, hm, ha, rfl⟩)
      obtain ⟨hgroup, hcall, hstops⟩ := departed_spec (s.core m.order.dish)
      have hsettled := settle_core ((congrArg (fun c => c.1.motion.atCall) hcore).trans hcall)
      obtain ⟨h1, h2, h3⟩ := core_eq (hsettled.trans hcore)
      rw [h1, h2, h3]
      refine ⟨hgroup, fun hf ho => ?_⟩
      obtain ⟨hmot, hrest⟩ := hstops hf ho
      exact ⟨hmot, congrArg Prod.fst hrest, congrArg Prod.snd hrest⟩
    · have hpend := gracePending_pendingDishes hx hn harr
      have hmembers := without_pendingDishes hn .arrivalTimeout s.ring.frame
      obtain ⟨m, hm, ha⟩ := hun
      obtain ⟨d, ds, hds⟩ := List.exists_cons_of_ne_nil (List.ne_nil_of_mem (mem_pendingDishes.2 ⟨m, hm, ha, rfl⟩))
      rw [hds] at hpend hmembers ⊢
      have hpassed := passOnArrival_group (s.expelAll g (d :: ds) .arrivalTimeout) g
      have hraised := passOnArrival_raises (s.expelAll g (d :: ds) .arrivalTimeout) g
      rw [← hpend.excludeAll] at hpassed hraised
      rw [expelAll_group] at hpassed
      refine ⟨?_, (within_settle _).pending _ hraised⟩
      rw [((spares_settle _).group g (by rw [hpassed]; exact onArrival_atCall _)).1, hpassed, ← hmembers]; rfl

end Sys2Proof.Machine
end

section
/-! MELT ORDER may leave an iced dish's ice flag clear: a shed move admitted in the same step sheds the heater of the zone that the order
named, its charge spends the zone, and with the dish's last energy the flag goes (R118, R129, R130, R134, R137, R140). -/

namespace Sys2Proof.Machine

/-- The dish to be iced: SLEWING in group 0 under a reservation of 10 pu. -/
def icedDish : DishId := 14

/-- A dish at rest: IDLE and braked at AZ 0, EL 60000. -/
def restingDish : Dish :=
  { Dish.reset with motion := .idle, repEl := 60000, cmdEl := 60000, brakesSet := true, lastReport := some 0 }

/-- The one member of group 0. -/
def slewingMember : Member := ⟨⟨icedDish, 0, 60000, .auto⟩, .active, some ⟨0, 60000, ⟨1200, 18, 2⟩, ⟨0, 0, 0⟩⟩, true, true⟩

/-- A zone with 1 J left, POWERED with 60 pu, and charged 200 ms ago. -/
def nearlySpent : Zone := ⟨.powered, 1, 0, some 60, some 60000, some 0⟩

/-- The allowance is 75 pu, of which dish 14's move takes 10 and its nearly spent zone 60; dish 0, whose shed move draws 70 pu, waits at
the Shed List's head. -/
def sheddingSoon : State :=
  let s := { State.reset with
    dishes := Vector.replicate 48 restingDish, locks := { Locks.reset with census := .complete 0 0 }, clock := 200
    feeder := { Feeder.reset with
      allowance := 75, guard := 0, reservations := (Vector.replicate 48 none).set icedDish (some ⟨10, .group⟩)
      powerOrder := [⟨⟨icedDish, .rim⟩, 60⟩] }
    melt := { Melt.reset with rotation := [⟨icedDish, .rim⟩], shedList := [⟨0, 0⟩] } }
  let s := s.setGroup 0 fun _ => ⟨.slewing, 700, .position, none, 36, some 0, some 3, some 39, .none, [slewingMember]⟩
  let s := s.setDish icedDish fun x => { x with motion := .engaged, group := some 0 }
  s.setZone ⟨icedDish, .rim⟩ fun _ => nearlySpent

/-- 1 kJ for the RIM of dish 14, with the ice bit. -/
def iceOrder : MeltOrderFields := ⟨14, 1, 1, 1⟩

/-- The ice flag of a dish after a step that has a next state. -/
def iceAfter (d : DishId) : Host.Outcome State Fault Refusal → Option Bool
  | .next t => some t.melt.ice[d]
  | .fault _ => none
  | .refused _ => none

/-- The premises of the clause hold: the order is heard and in range, the dish is present, not iced, and in group 0. -/
theorem sheddingSoon_admits_order : sheddingSoon.hears .safety = true ∧ (sheddingSoon.cfg icedDish).present = true
    ∧ sheddingSoon.melt.ice[icedDish] = false ∧ (sheddingSoon.dish icedDish).group = some 0 := by decide +kernel

theorem sheddingSoon_clears_ice :
    iceAfter icedDish (exec (.meltOrder .safety (.fields iceOrder)) sheddingSoon) = some false := by decide +kernel

/-- Refutes O46: the exclusion of dish 14 releases its reservation, the round that follows admits dish 0's shed move and sheds the zone
just given its energy, which its charge finds spent; the ice flag set in this step is clear after it. -/
theorem not_meltOrderAdds : ¬ Obligations.MeltOrderAdds := by
  unfold Obligations.MeltOrderAdds
  intro h
  obtain ⟨hhears, hpresent, hice, hgroup⟩ := sheddingSoon_admits_order
  obtain ⟨-, hvalid⟩ := h iceOrder sheddingSoon hhears
  obtain ⟨t, fields, hexec, -, -, -, -, -, hiced, -⟩ :=
    hvalid ⟨.inr ⟨icedDish, hpresent, .inr rfl⟩, ⟨.rim, rfl⟩, by decide, by decide⟩
  obtain ⟨-, hkept, -⟩ := hiced icedDish 0 ⟨⟨hpresent, .inr rfl⟩, rfl, hice⟩ hgroup
  have hlost := sheddingSoon_clears_ice
  rw [hexec] at hlost
  change some t.melt.ice[icedDish] = some false at hlost
  rw [hkept] at hlost
  cases hlost

end Sys2Proof.Machine
end

section
/-! Where the AZ speed of a dish is configured as 0, below its range of 1 to 400, its move to a distant target counts as one of no
frames: an order that passes to TRACKING at once limits the reservation R72 gives it to the track draws, while the statement asks for the
whole of it (R48, R67, R72). -/

namespace Sys2Proof.Machine

/-- The dish whose AZ axis has no speed. -/
def stuckDish : DishId := 3

/-- The order for it alone: TRACK, at AZ 55000 md from its AZ 0, at the EL it stands at. -/
def stuckOrder : Order := ⟨411, .track, 0, [⟨stuckDish, 55000, 60000, .auto⟩], 0⟩

/-- All dishes at rest, the census COMPLETE and the order waiting. -/
def stuckOrdered : State :=
  let s := { State.reset with
    dishes := Vector.replicate 48 restingDish, locks := { Locks.reset with census := .complete 0 0 }, orders := [stuckOrder] }
  { s with settings := { s.settings with
    dish := s.settings.dish.set stuckDish { s.cfg stuckDish with az := { (s.cfg stuckDish).az with vmax := 0 } } } }

/-- A dish's reservation after a step that has a next state. -/
def reservationAfter (d : DishId) : Host.Outcome State Fault Refusal → Option (Option Reservation)
  | .next t => some t.feeder.reservations[d]
  | .fault _ => none
  | .refused _ => none

/-- The ramp draw of 90 pu is asked for, and the track draws of 25 pu are left. -/
theorem stuckOrdered_limits : reservationAfter stuckDish (exec .admissionRound stuckOrdered) = some (some ⟨25, .group⟩) := by
  decide +kernel

/-- Refutes O22: with an AZ speed of 0 the common time is 0 while the AZ distance is not, and the passage to TRACKING at T 0 takes the
reservation from 90 pu to 25. -/
theorem not_roundAdmitsInRank : ¬ Obligations.RoundAdmitsInRank := by
  unfold Obligations.RoundAdmitsInRank
  intro h
  obtain ⟨-, -, -, horders⟩ := h stuckOrdered rfl
  obtain ⟨-, -, -, hadmitted⟩ := horders stuckOrder [] 0 (by decide +kernel) (by decide +kernel) rfl (by decide +kernel)
    (by decide +kernel) (by decide +kernel)
  obtain ⟨t, hexec, -, -, hmembers, -⟩ := hadmitted (by decide +kernel) (by decide +kernel) (by decide +kernel) rfl rfl
    (by decide +kernel)
  obtain ⟨-, -, -, hatOnce⟩ := hmembers ⟨stuckDish, 55000, 60000, .auto⟩ (by decide +kernel)
  obtain ⟨-, -, -, -, htrack⟩ := hatOnce (by decide +kernel)
  obtain ⟨-, hreserved⟩ := htrack rfl
  have hlimited := stuckOrdered_limits
  rw [hexec] at hlimited
  change some t.feeder.reservations[stuckDish] = _ at hlimited
  rw [hreserved (by decide +kernel)] at hlimited
  exact absurd hlimited (by decide +kernel)

end Sys2Proof.Machine
end

section
/-! The Profile Calculator (chapter 4): rounding up, the three forms of an axis's move, its cruise speed, and wrap resolution. -/

namespace Sys2Proof.Machine

/-! ## Quotients rounded up -/

section
variable {n d k : Nat}

theorem ceilDiv_le_iff (hd : 0 < d) : ceilDiv n d ≤ k ↔ n ≤ d * k := by
  rw [ceilDiv, ← Nat.ceilDiv_eq_add_pred_div]
  exact ceilDiv_le_iff_le_mul hd

theorem lt_ceilDiv_iff (hd : 0 < d) : k < ceilDiv n d ↔ d * k < n := by
  rw [← not_le, ceilDiv_le_iff hd, not_le]

theorem le_mul_ceilDiv (hd : 0 < d) : n ≤ d * ceilDiv n d := (ceilDiv_le_iff hd).1 le_rfl

theorem mul_ceilDiv_lt (hd : 0 < d) : d * ceilDiv n d < n + d := by
  have := Nat.mul_div_le (n + d - 1) d
  rw [ceilDiv]
  omega

end

/-! ## The ramp of a triangle (R68) -/

section
variable {a d q : Nat}

theorem le_leastRamp (fuel r : Nat) : r ≤ leastRamp a d fuel r := by
  induction fuel generalizing r with
  | zero => exact le_rfl
  | succ fuel ih =>
    rw [leastRamp]
    split
    · exact le_rfl
    · exact (Nat.le_succ r).trans (ih (r + 1))

theorem below_leastRamp {fuel r : Nat} (hr : r ≤ q) (hq : q < leastRamp a d fuel r) : a * q * q < d := by
  induction fuel generalizing r with
  | zero => exact absurd hr hq.not_ge
  | succ fuel ih =>
    rw [leastRamp] at hq
    split at hq
    · exact absurd hr hq.not_ge
    next hshort =>
      obtain rfl | hlt := hr.eq_or_lt
      · exact not_le.1 hshort
      · exact ih hlt hq

theorem leastRamp_le {fuel r : Nat} (hr : r ≤ q) (hq : d ≤ a * q * q) : leastRamp a d fuel r ≤ q :=
  not_lt.1 fun h => (below_leastRamp hr h).not_ge hq

/-- The fuel suffices where a ramp that reaches the distance lies within it. -/
theorem leastRamp_reaches {fuel r : Nat} (hr : r ≤ q) (hfuel : q ≤ r + fuel) (hq : d ≤ a * q * q) :
    d ≤ a * leastRamp a d fuel r * leastRamp a d fuel r := by
  induction fuel generalizing r with
  | zero =>
    obtain rfl : q = r := by omega
    exact hq
  | succ fuel ih =>
    rw [leastRamp]
    split
    · assumption
    next hshort =>
      have hne : r ≠ q := by rintro rfl; exact hshort hq
      exact ih (by omega) (by omega)

end

/-! ## The three forms of a move (R66 to R68) -/

section
variable {v a d : Nat}

@[simp] theorem axisTime_zero : axisTime v a 0 = ⟨0, 0⟩ := rfl

theorem axisTime_trapezoid (hv : 0 < v) (hd : 0 < d) (h : v * ceilDiv v a ≤ d) :
    axisTime v a d = ⟨ceilDiv v a, ceilDiv v a + ceilDiv d v⟩ := by
  have hfull : ceilDiv v a ≤ ceilDiv d v := Nat.le_of_mul_le_mul_left (h.trans (le_mul_ceilDiv hv)) hv
  simp only [axisTime, hd.ne', if_false, if_pos h, AxisTime.mk.injEq, true_and]
  omega

/-- The ramp of the full speed reaches every distance below the trapezoid's. -/
theorem full_reaches (ha : 0 < a) (h : d < v * ceilDiv v a) : d ≤ a * ceilDiv v a * ceilDiv v a :=
  h.le.trans (Nat.mul_le_mul_right _ (le_mul_ceilDiv ha))

theorem axisTime_triangle (ha : 0 < a) (hv : 0 < v) (hd : 0 < d) (h : d < v * ceilDiv v a) :
    ∃ r, axisTime v a d = ⟨r, 2 * r⟩ ∧ 1 ≤ r ∧ r ≤ ceilDiv v a ∧ d ≤ a * r * r
      ∧ ∀ q, 1 ≤ q → q < r → a * q * q < d := by
  have hfull : 1 ≤ ceilDiv v a := (lt_ceilDiv_iff ha).2 hv
  refine ⟨leastRamp a d (ceilDiv v a) 1, ?_, le_leastRamp _ _, leastRamp_le hfull (full_reaches ha h),
    leastRamp_reaches hfull (by omega) (full_reaches ha h), fun q => below_leastRamp⟩
  simp only [axisTime, hd.ne', if_false, if_neg h.not_ge]

/-- A triangle does not pass the effective maximum: a ramp below that of the full speed ends at less than it, and with the ramp of the
full speed the distance itself is below the trapezoid's. -/
theorem triangle_within_speed {r : Nat} (ha : 0 < a) (h : d < v * ceilDiv v a) (hr : r ≤ ceilDiv v a)
    (hreach : d ≤ a * r * r) : d ≤ v * r := by
  obtain rfl | hlt := hr.eq_or_lt
  · exact h.le
  · exact hreach.trans (Nat.mul_le_mul_right r ((lt_ceilDiv_iff ha).1 hlt).le)

/-- What the drive asks of a ramp length and a minimum time: a ramp within that of the full speed, an up and a down ramp that fit, and
the distance covered both at the effective maximum and at the speed the ramp allows (R67, R68). -/
structure AxisTime.Drivable (x : AxisTime) (v a d : Nat) : Prop where
  ramp_pos : 1 ≤ x.r
  ramp_le : x.r ≤ ceilDiv v a
  ramps_fit : 2 * x.r ≤ x.tMin
  at_speed : d ≤ v * (x.tMin - x.r)
  at_ramp : d ≤ a * x.r * (x.tMin - x.r)

theorem axisTime_drivable (hv : 0 < v) (ha : 0 < a) (hd : 0 < d) : (axisTime v a d).Drivable v a d := by
  obtain h | h := le_or_gt (v * ceilDiv v a) d
  case inl =>
    have hcover : d ≤ v * ceilDiv d v := le_mul_ceilDiv hv
    have hfull : ceilDiv v a ≤ ceilDiv d v := Nat.le_of_mul_le_mul_left (h.trans hcover) hv
    have hrest : ceilDiv v a + ceilDiv d v - ceilDiv v a = ceilDiv d v :=
      Nat.add_sub_cancel_left _ _
    rw [axisTime_trapezoid hv hd h]
    refine ⟨(lt_ceilDiv_iff ha).2 hv, le_rfl, by simp only; omega, ?_, ?_⟩ <;> simp only [hrest]
    · exact hcover
    · exact hcover.trans (Nat.mul_le_mul_right _ (le_mul_ceilDiv ha))
  case inr =>
    obtain ⟨r, heq, hpos, hle, hreach, -⟩ := axisTime_triangle ha hv hd h
    have hrest : 2 * r - r = r := by omega
    rw [heq]
    refine ⟨hpos, hle, le_rfl, ?_, ?_⟩ <;> simp only [hrest]
    · exact triangle_within_speed ha h hle hreach
    · exact hreach

/-- The ramp and the minimum time of an axis within its configured ranges: speeds to 400 md a frame, distances to 540000 md (R74). -/
theorem axisTime_within_ranges (hv : 0 < v) (ha : 0 < a) (hspeed : v ≤ 400) (hd : d ≤ 540000) :
    (axisTime v a d).r ≤ 400 ∧ (axisTime v a d).tMin ≤ 540001 := by
  obtain rfl | hpos := Nat.eq_zero_or_pos d
  · simp
  have hfull : ceilDiv v a ≤ v := (ceilDiv_le_iff ha).2 (Nat.le_mul_of_pos_left v ha)
  obtain h | h := le_or_gt (v * ceilDiv v a) d
  · have hcruise : ceilDiv v a + ceilDiv d v ≤ 540001 := by
      obtain hone | htwo := Nat.eq_or_lt_of_le hv
      · have : ceilDiv d v ≤ d := (ceilDiv_le_iff hv).2 (Nat.le_mul_of_pos_left d hv)
        omega
      · have : ceilDiv d v ≤ 270000 := (ceilDiv_le_iff hv).2 (hd.trans (Nat.mul_le_mul_right 270000 htwo))
        omega
    rw [axisTime_trapezoid hv hpos h]
    exact ⟨hfull.trans hspeed, hcruise⟩
  · obtain ⟨r, heq, -, hle, -⟩ := axisTime_triangle ha hv hpos h
    rw [heq]
    constructor <;> simp only <;> omega

end

/-! ## The cruise speed (R70, R74) -/

section
variable {d t r c : Nat}

@[simp] theorem cruise_zero : cruise 0 t r = 0 := rfl

theorem cruise_of_pos (hd : 0 < d) : cruise d t r = ceilDiv d (t - r) := if_neg hd.ne'

theorem cruise_le (hd : 0 < d) (ht : 0 < t - r) (h : d ≤ c * (t - r)) : cruise d t r ≤ c := by
  rw [cruise_of_pos hd, ceilDiv_le_iff ht, Nat.mul_comm]
  exact h

theorem le_cruise_mul (hd : 0 < d) (ht : 0 < t - r) : d ≤ cruise d t r * (t - r) := by
  rw [cruise_of_pos hd, Nat.mul_comm]
  exact le_mul_ceilDiv ht

theorem cruise_mul_lt (hd : 0 < d) (ht : 0 < t - r) : cruise d t r * (t - r) < d + (t - r) := by
  rw [cruise_of_pos hd, Nat.mul_comm]
  exact mul_ceilDiv_lt ht

end

/-- Settles O24: the minimum time covers the distance at the effective maximum and at the speed the ramp allows, so every common
time from it on bounds the cruise speed by both. -/
theorem profilesWithinLimits : Obligations.ProfilesWithinLimits := by
  unfold Obligations.ProfilesWithinLimits
  refine ⟨fun vmax => ⟨rfl, rfl⟩, fun v a d t hv ha ht => ⟨?idle, ?moving, ?trapezoid, ?triangle, ?ranges⟩⟩
  case idle =>
    rintro rfl
    exact ⟨rfl, rfl, cruise_zero⟩
  case moving =>
    intro hd
    obtain ⟨hpos, hle, hfit, hspeed, hramp⟩ := axisTime_drivable hv ha hd
    have hrest : (axisTime v a d).tMin - (axisTime v a d).r ≤ t - (axisTime v a d).r := Nat.sub_le_sub_right ht _
    have hcruise : 0 < t - (axisTime v a d).r := by omega
    exact ⟨hpos, hle, hfit, cruise_le hd hcruise (hspeed.trans (Nat.mul_le_mul_left _ hrest)),
      cruise_le hd hcruise (hramp.trans (Nat.mul_le_mul_left _ hrest)), le_cruise_mul hd hcruise, cruise_mul_lt hd hcruise⟩
  case trapezoid =>
    intro hd hfull
    rw [axisTime_trapezoid hv hd hfull]
    exact ⟨rfl, rfl⟩
  case triangle =>
    intro hd hshort
    obtain ⟨r, heq, -, -, hreach, hleast⟩ := axisTime_triangle ha hv hd hshort
    rw [heq]
    exact ⟨rfl, hreach, hleast⟩
  case ranges => exact axisTime_within_ranges hv ha

/-! ## Wrap resolution (R63) -/

section
variable {p : Int} {sky : Nat} {wrap : Wrap}

theorem resolveWrap_below (h : sky < 90000) : resolveWrap p sky wrap = sky := if_pos h

theorem resolveWrap_above (h : 270000 < sky) : resolveWrap p sky wrap = sky - 360000 :=
  (if_neg (by omega)).trans (if_neg h.not_ge)

section
variable (hlow : 90000 ≤ sky) (hhigh : sky ≤ 270000)
include hlow hhigh

theorem resolveWrap_cw : resolveWrap p sky .cw = sky := (if_neg hlow.not_gt).trans (if_pos hhigh)

theorem resolveWrap_ccw : resolveWrap p sky .ccw = sky - 360000 := (if_neg hlow.not_gt).trans (if_pos hhigh)

theorem resolveWrap_auto : resolveWrap p sky .auto =
    if ((sky : Int) - 360000 - p).natAbs < ((sky : Int) - p).natAbs then (sky : Int) - 360000 else sky :=
  (if_neg hlow.not_gt).trans (if_pos hhigh)

end

/-- The chosen candidate: the sky target where it is at most 270000, the one below it where that is at least -270000. -/
theorem resolveWrap_cases :
    (resolveWrap p sky wrap = sky ∧ sky ≤ 270000) ∨ (resolveWrap p sky wrap = sky - 360000 ∧ 90000 ≤ sky) := by
  obtain hlow | hlow := lt_or_ge sky 90000
  · exact .inl ⟨resolveWrap_below hlow, by omega⟩
  obtain hhigh | hhigh := lt_or_ge 270000 sky
  · exact .inr ⟨resolveWrap_above hhigh, hlow⟩
  cases wrap with
  | cw => exact .inl ⟨resolveWrap_cw hlow hhigh, hhigh⟩
  | ccw => exact .inr ⟨resolveWrap_ccw hlow hhigh, hlow⟩
  | auto =>
    rw [resolveWrap_auto hlow hhigh]
    split
    · exact .inr ⟨rfl, hlow⟩
    · exact .inl ⟨rfl, hhigh⟩

theorem resolveWrap_in_range (hsky : sky ≤ 359999) :
    resolveWrap p sky wrap ≤ 270000 ∧ -270000 ≤ resolveWrap p sky wrap := by
  obtain ⟨hr, hrange⟩ | ⟨hr, hrange⟩ := resolveWrap_cases (p := p) (sky := sky) (wrap := wrap) <;> omega

end

/-- Settles O25: one candidate below 90000 and above 270000, and between them the case of the preference. -/
theorem wrapResolved : Obligations.WrapResolved := by
  unfold Obligations.WrapResolved
  intro p sky wrap hsky
  obtain ⟨hmax, hmin⟩ := resolveWrap_in_range (p := p) (wrap := wrap) hsky
  refine ⟨hmax, hmin, resolveWrap_cases.imp And.left And.left, resolveWrap_below, resolveWrap_above,
    fun hlow hhigh => ⟨?cw, ?ccw, ?upper, ?lower⟩⟩
  case cw =>
    rintro rfl
    exact resolveWrap_cw hlow hhigh
  case ccw =>
    rintro rfl
    exact resolveWrap_ccw hlow hhigh
  case upper =>
    rintro rfl hnear
    exact (resolveWrap_auto hlow hhigh).trans (if_neg hnear.not_gt)
  case lower =>
    rintro rfl hnear
    exact (resolveWrap_auto hlow hhigh).trans (if_pos hnear)

end Sys2Proof.Machine
end

section
/-! The requests on a track stream: PUSH TRACK, FLUSH TRACK and CLEAR TRACK FAULT (R77 to R79, R86, R87). -/

namespace Sys2Proof.Machine

/-! ## One slot alone -/

/-- Between the two states nothing has changed but the group and the stream of one slot. -/
structure SlotOnly (g : SlotId) (s t : State) : Prop where
  others : ∀ k, k ≠ g → t.group k = s.group k ∧ t.stream k = s.stream k
  rest : t = { s with groups := t.groups, streams := t.streams }

section
variable {s t u : State} {g : SlotId}

theorem SlotOnly.refl (s : State) : SlotOnly g s s := ⟨fun _ _ => ⟨rfl, rfl⟩, rfl⟩

theorem SlotOnly.trans (h : SlotOnly g s t) (k : SlotOnly g t u) : SlotOnly g s u where
  others j hj := by
    obtain ⟨hgroup, hstream⟩ := h.others j hj
    obtain ⟨kgroup, kstream⟩ := k.others j hj
    exact ⟨kgroup.trans hgroup, kstream.trans hstream⟩
  rest := by rw [k.rest, h.rest]

theorem slotOnly_ite {c : Prop} [Decidable c] (ht : SlotOnly g s t) (hu : SlotOnly g s u) :
    SlotOnly g s (if c then t else u) := by split <;> assumption

theorem slotOnly_setGroup (f : Group → Group) : SlotOnly g s (s.setGroup g f) :=
  ⟨fun k hk => ⟨by rw [setGroup_group, if_neg hk], rfl⟩, rfl⟩

theorem slotOnly_setGroupState (x : GroupState) : SlotOnly g s (s.setGroupState g x) := slotOnly_setGroup _

theorem slotOnly_setStream (f : Stream → Stream) : SlotOnly g s (s.setStream g f) :=
  ⟨fun k hk => ⟨rfl, by rw [setStream_stream, if_neg hk]⟩, rfl⟩

/-- A response on the scheduler's port after the change of one slot. -/
theorem SlotOnly.respond (h : SlotOnly g s t) (r : Option Response) :
    (∀ k, k ≠ g → (t.putHolder .scheduler r).group k = s.group k ∧ (t.putHolder .scheduler r).stream k = s.stream k)
      ∧ t.putHolder .scheduler r = { s with
          groups := (t.putHolder .scheduler r).groups, streams := (t.putHolder .scheduler r).streams }.putHolder .scheduler
            ((t.putHolder .scheduler r).holder .scheduler) := by
  refine ⟨h.others, ?_⟩
  rw [putHolder_holder, putHolder_groups, putHolder_streams]
  exact congrArg (fun w : State => w.putHolder .scheduler r) h.rest

theorem setGroupState_group_self (s : State) (g : SlotId) (x : GroupState) :
    (s.setGroupState g x).group g = { s.group g with state := x } := setGroup_group_self _ _ _

end

/-! ## A streaming group asked for -/

section
variable {s : State} {src : Sender} {r : Request} {g : SlotId}

theorem onStream_streaming (h : (s.group g).streaming = true) (take : State) : s.onStream src r g take = take := if_pos h

theorem onStream_refused (h : (s.group g).streaming = false) (take : State) :
    s.onStream src r g take = s.refuse src r .wrongState := if_neg (by rw [h]; exact Bool.false_ne_true)

end

/-! ## FLUSH TRACK (R78) -/

section
variable {s : State} (g : SlotId)

theorem exec_flushTrack (hh : s.hears .scheduler = true) (n : Nat) :
    exec (.flushTrack .scheduler (.fields ⟨n⟩)) s = .next (s.onSlot .scheduler .flushTrack n fun g =>
      s.onStream .scheduler .flushTrack g
        ((s.flush g).answer .scheduler .flushTrack .ok ((s.flush g).stream g).endField)) := serve_taken hh rfl _ _

theorem flush_slotOnly (s : State) : SlotOnly g s (s.flush g) :=
  slotOnly_ite ((slotOnly_setStream _).trans (slotOnly_setGroupState _)) (slotOnly_setStream _)

theorem flush_stream (s : State) : (s.flush g).stream g = { s.stream g with buffer := [], lock := none, lowReported := false } := by
  unfold State.flush; dsimp only
  split
  · exact setStream_stream_self s g _
  · exact setStream_stream_self s g _

theorem flush_group (s : State) : (s.flush g).group g = { s.group g with
    state := if (s.group g).state = .trackHalted ∧ (s.stream g).lock ≠ none then .tracking else (s.group g).state } := by
  unfold State.flush; dsimp only
  simp only [Option.isSome_iff_ne_none]
  split
  · exact setGroupState_group_self _ g _
  · rfl

end

/-! ## CLEAR TRACK FAULT (R79) -/

section
variable {s : State} (g : SlotId)

theorem exec_clearTrackFault (hh : s.hears .scheduler = true) (n : Nat) :
    exec (.clearTrackFault .scheduler (.fields ⟨n⟩)) s = .next (s.onSlot .scheduler .clearTrackFault n fun g =>
      s.onStream .scheduler .clearTrackFault g <|
        if (s.stream g).lock = none then s.refuse .scheduler .clearTrackFault .wrongState
        else (s.clearFault g).answer .scheduler .clearTrackFault .ok ((s.clearFault g).stream g).endField) :=
  serve_taken hh rfl _ _

theorem clearFault_slotOnly (s : State) : SlotOnly g s (s.clearFault g) :=
  slotOnly_ite ((slotOnly_setStream _).trans (slotOnly_setGroupState _)) (slotOnly_setStream _)

theorem clearFault_stream (s : State) : (s.clearFault g).stream g = { s.stream g with
    buffer := (s.stream g).buffer.tail, lock := none
    lowReported := (s.stream g).lowReported || decide ((s.stream g).buffer.tail.length ≤ s.settings.track.lowMark) } := by
  unfold State.clearFault; dsimp only
  split
  · exact setStream_stream_self s g _
  · exact setStream_stream_self s g _

theorem clearFault_group (s : State) : (s.clearFault g).group g = { s.group g with
    state := if (s.group g).state = .trackHalted then .tracking else (s.group g).state } := by
  unfold State.clearFault; dsimp only
  split
  · exact setGroupState_group_self _ g _
  · rfl

end

/-- Settles O41: each request is one change of the slot's stream and group, or a refusal. -/
theorem flushAndClearFault : Obligations.FlushAndClearFault := by
  unfold Obligations.FlushAndClearFault
  intro g s hh
  have hflush := exec_flushTrack hh
  have hclear := exec_clearTrackFault hh
  have hflush_g := hflush g.val
  have hclear_g := hclear g.val
  rw [onSlot_slot] at hflush_g hclear_g
  refine ⟨fun hs => ?flush, fun hs hl => ?clear, fun hs hl => ?unlocked, fun n hn => ?slot, fun hs => ?streamless⟩
  case flush =>
    rw [onStream_streaming hs] at hflush_g
    exact ⟨_, _, hflush_g, rfl, flush_stream g s, flush_group g s, (flush_slotOnly g s).respond _⟩
  case clear =>
    rw [onStream_streaming hs, if_neg hl] at hclear_g
    exact ⟨_, _, hclear_g, rfl, clearFault_stream g s, clearFault_group g s, (clearFault_slotOnly g s).respond _⟩
  case unlocked =>
    rw [onStream_streaming hs, if_pos hl] at hclear_g
    exact hclear_g
  case slot =>
    rw [hflush, hclear, onSlot_refused _ _ _ hn, onSlot_refused _ _ _ hn]
    exact ⟨rfl, rfl⟩
  case streamless =>
    rw [onStream_refused hs] at hflush_g hclear_g
    exact ⟨hflush_g, hclear_g⟩

/-! ## The walk of a PUSH TRACK (R77) -/

/-- Both increments of an entry lie in the range of R77. -/
def AllowedEntry (e : EntryFields) : Prop := -400 ≤ e.az ∧ e.az ≤ 400 ∧ -400 ≤ e.el ∧ e.el ≤ 400

/-- An entry as the buffer holds it. -/
def bufferedEntry (e : EntryFields) : TrackEntry := ⟨e.az, e.el, e.flags.getLsbD 0⟩

/-- How a walk over entries into a buffer with the load given may end: it takes a number of entries from the front, all allowed and with
room for each, and stops at the end of the list, at an entry out of range or at the 64th place. -/
structure Walked (load : Nat) (es : List EntryFields) (p : Pushed) : Prop where
  taken : p.accepted = (es.take p.accepted.length).map bufferedEntry
  allowed : ∀ e ∈ es.take p.accepted.length, AllowedEntry e
  room : 0 < p.accepted.length → load + p.accepted.length ≤ 64
  ended : p.status = .ok ∧ es[p.accepted.length]? = none
    ∨ ∃ e, es[p.accepted.length]? = some e
      ∧ (p.status = .badField ∧ ¬ AllowedEntry e ∨ p.status = .full ∧ AllowedEntry e ∧ 64 ≤ load + p.accepted.length)

section
variable {load : Nat} {e : EntryFields} {es : List EntryFields} {p : Pushed}

theorem entryOf_allowed (h : AllowedEntry e) : entryOf e = some (bufferedEntry e) := if_pos h

theorem entryOf_not_allowed (h : ¬ AllowedEntry e) : entryOf e = none := if_neg h

theorem Walked.cons (h : Walked (load + 1) es p) (ha : AllowedEntry e) (hroom : load < 64) :
    Walked load (e :: es) ⟨bufferedEntry e :: p.accepted, p.status⟩ where
  taken := congrArg (bufferedEntry e :: ·) h.taken
  allowed := List.forall_mem_cons.2 ⟨ha, h.allowed⟩
  room _ := by
    have := h.room
    simp only [List.length_cons]; omega
  ended := h.ended.imp id fun ⟨x, hx, hstop⟩ =>
    ⟨x, hx, hstop.imp id fun ⟨hs, hx, hfull⟩ => ⟨hs, hx, by simp only [List.length_cons]; omega⟩⟩

theorem pushWalk_walked (load : Nat) (es : List EntryFields) : Walked load es (pushWalk load es) := by
  induction es generalizing load with
  | nil => exact ⟨rfl, by simp [pushWalk], nofun, .inl ⟨rfl, rfl⟩⟩
  | cons e es ih =>
    unfold pushWalk
    by_cases ha : AllowedEntry e
    · rw [entryOf_allowed ha]; dsimp only
      by_cases hfull : 64 ≤ load
      · rw [if_pos hfull]
        exact ⟨rfl, by simp, nofun, .inr ⟨e, rfl, .inr ⟨rfl, ha, hfull⟩⟩⟩
      · rw [if_neg hfull]
        exact (ih (load + 1)).cons ha (Nat.not_le.1 hfull)
    · rw [entryOf_not_allowed ha]
      exact ⟨rfl, by simp, nofun, .inr ⟨e, rfl, .inl ⟨rfl, ha⟩⟩⟩

theorem Walked.length_le (h : Walked load es p) : p.accepted.length ≤ es.length := by
  have := congrArg List.length h.taken
  simp only [List.length_map, List.length_take] at this; omega

/-- The status tells what ended the walk. -/
theorem Walked.status_iff (h : Walked load es p) :
    (p.status = .ok ↔ p.accepted.length = es.length)
      ∧ (p.status = .badField ↔ ∃ e, es[p.accepted.length]? = some e ∧ ¬ AllowedEntry e)
      ∧ (p.status = .full ↔ ∃ e, es[p.accepted.length]? = some e ∧ AllowedEntry e ∧ 64 ≤ load + p.accepted.length) := by
  have hle := h.length_le
  have hend : p.accepted.length = es.length ↔ es[p.accepted.length]? = none := by
    rw [List.getElem?_eq_none_iff]; omega
  rw [hend]
  obtain ⟨hs, hx⟩ | ⟨e, hx, ⟨hs, hbad⟩ | ⟨hs, ha, hfull⟩⟩ := h.ended
  · simp [hs, hx]
  · simp [hs, hx, hbad]
  · simp [hs, hx, ha, hfull]

end

/-! ## PUSH TRACK (R77, R86) -/

/-- A push of the number of entries given revives the group: it is TRACK_HALTED and starved (R77, R86). -/
abbrev State.Revives (s : State) (g : SlotId) (n : Nat) : Prop :=
  0 < n ∧ (s.group g).state = .trackHalted ∧ (s.stream g).starved = true

section
variable {s : State} (g : SlotId)

theorem exec_pushTrack (hh : s.hears .scheduler = true) (f : PushTrackFields) :
    exec (.pushTrack .scheduler (.fields f)) s = .next (s.onSlot .scheduler .pushTrack f.slot fun g =>
      if f.count < 1 ∨ 16 < f.count ∨ f.count ≠ f.entries.length then s.refuse .scheduler .pushTrack .badField
      else s.onStream .scheduler .pushTrack g
        ((s.pushEntries g (pushWalk (s.stream g).buffer.length f.entries).accepted).answer .scheduler .pushTrack
          (pushWalk (s.stream g).buffer.length f.entries).status
          (u8 (pushWalk (s.stream g).buffer.length f.entries).accepted.length
            ++ ((s.pushEntries g (pushWalk (s.stream g).buffer.length f.entries).accepted).stream g).endField))) :=
  serve_taken hh rfl _ _

theorem revive_slotOnly (s : State) : SlotOnly g s (s.revive g) :=
  slotOnly_ite ((slotOnly_setStream _).trans (slotOnly_setGroupState _)) (.refl s)

theorem pushEntries_slotOnly (s : State) (es : List TrackEntry) : SlotOnly g s (s.pushEntries g es) :=
  slotOnly_ite (.refl s) ((slotOnly_setStream _).trans (revive_slotOnly g _))

theorem revive_group (s : State) : (s.revive g).group g = { s.group g with
    state := if (s.group g).state = .trackHalted ∧ (s.stream g).starved = true then .tracking else (s.group g).state } := by
  unfold State.revive
  split
  · exact setGroupState_group_self _ g _
  · rfl

theorem revive_stream (s : State) : (s.revive g).stream g =
    if (s.group g).state = .trackHalted ∧ (s.stream g).starved = true then { s.stream g with starved := false, coast := 0 }
    else s.stream g := by
  unfold State.revive
  split
  · exact setStream_stream_self s g _
  · rfl

theorem revives_iff (s : State) {es : List TrackEntry} (he : es ≠ []) :
    s.Revives g es.length ↔ (s.group g).state = .trackHalted ∧ (s.stream g).starved = true :=
  and_iff_right (List.length_pos_iff.2 he)

theorem not_revives_zero (s : State) : ¬ s.Revives g 0 := fun h => Nat.lt_irrefl 0 h.1

theorem pushEntries_group (s : State) (es : List TrackEntry) :
    ((s.pushEntries g es).group g).state = if s.Revives g es.length then .tracking else (s.group g).state := by
  unfold State.pushEntries
  by_cases he : es = []
  · simp [he]
  · rw [if_neg he, revive_group, setStream_group, setStream_stream_self]
    exact if_congr (revives_iff g s he).symm rfl rfl

theorem pushEntries_stream (s : State) (es : List TrackEntry) : (s.pushEntries g es).stream g = { s.stream g with
    buffer := (s.stream g).buffer ++ es
    lowReported := (s.stream g).lowReported
      && decide (es.length = 0 ∨ (s.stream g).buffer.length + es.length ≤ s.settings.track.lowMark)
    starved := (s.stream g).starved && !decide (s.Revives g es.length)
    coast := if s.Revives g es.length then 0 else (s.stream g).coast } := by
  unfold State.pushEntries
  by_cases he : es = []
  · simp [he, not_revives_zero]
  · have hempty : es.length ≠ 0 := fun h => he (List.length_eq_zero_iff.1 h)
    rw [if_neg he, revive_stream, setStream_group, setStream_stream_self]
    by_cases hr : s.Revives g es.length
    · rw [if_pos ((revives_iff g s he).1 hr)]
      simp [hempty, hr]
    · rw [if_neg (mt (revives_iff g s he).2 hr)]
      simp [hempty, hr]

end

/-- Settles O40: the walk takes entries up to the first that it may not take, and the push of what it took is one change of the slot. -/
theorem pushTrackWalks : Obligations.PushTrackWalks := by
  unfold Obligations.PushTrackWalks
  refine ⟨fun f s hh hslot => ?_, ?_⟩
  · rw [exec_pushTrack hh, onSlot_refused _ _ _ hslot]; rfl
  intro g f s hh hslot inRange load refused
  have hexec := exec_pushTrack hh f
  rw [hslot, onSlot_slot] at hexec
  refine ⟨fun hbad => by rw [if_pos hbad] at hexec; exact hexec, fun hpos hmax hlen => ?_⟩
  rw [if_neg (by omega)] at hexec
  refine ⟨fun hs => by rw [onStream_refused hs] at hexec; exact hexec, fun hs => ?_⟩
  rw [onStream_streaming hs] at hexec
  have hwalk := pushWalk_walked (s.stream g).buffer.length f.entries
  generalize pushWalk (s.stream g).buffer.length f.entries = p at hexec hwalk
  obtain ⟨hok, hbad, hfull⟩ := hwalk.status_iff
  have hle := hwalk.length_le
  rw [← hlen] at hok hle
  have hstream := pushEntries_stream g s p.accepted
  have hbuffer : (s.stream g).buffer ++ p.accepted = (s.stream g).buffer ++ (f.entries.take p.accepted.length).map bufferedEntry :=
    congrArg _ hwalk.taken
  exact ⟨_, p.accepted.length, _, _, hle, hexec, rfl, hwalk.allowed, hwalk.room, (congrArg Stream.buffer hstream :).trans hbuffer,
    hok, hbad, hfull, (congrArg Stream.lowReported hstream :),
    ⟨pushEntries_group g s p.accepted, (congrArg Stream.starved hstream :), (congrArg Stream.coast hstream :)⟩,
    (congrArg Stream.lock hstream :), (congrArg Stream.finish hstream :), (pushEntries_slotOnly g s p.accepted).respond _⟩

end Sys2Proof.Machine
end

section
/-! A frame start with one group in TRACKING or TRACK_HALTED: which slot is answered, what the answer to a stream changes, and an
exit entry passed, failed or locked before (R80 to R83, R87, R88). -/

namespace Sys2Proof.Machine

/-! ## The one slot answered -/

section
variable {s : State} {g : SlotId}

/-- Where no other slot's group tracks, the answers of all slots are that of the one slot. -/
theorem consumeAll_single (gs : List SlotId) (hn : gs.Nodup) (s : State) (h : ∀ k, k ≠ g → ¬ (s.group k).state.tracks) :
    gs.foldl State.consume s = if g ∈ gs then s.consume g else s := by
  induction gs generalizing s with
  | nil => rfl
  | cons k gs ih =>
    obtain ⟨hk, hn⟩ := List.nodup_cons.1 hn
    by_cases hkg : k = g
    · subst hkg
      have hrest : ∀ j, j ≠ k → ¬ ((s.consume k).group j).state.tracks := fun j hj => by
        rw [((touches_consume s k).group j (by rwa [group_mem_places])).1]; exact h j hj
      rw [List.foldl_cons, ih hn _ hrest, if_neg hk, if_pos List.mem_cons_self]
    · rw [List.foldl_cons, consume_of_not_tracks (h k hkg), ih hn s h]
      simp [Ne.symm hkg]

theorem not_tracks_of_ne (h : (s.group g).state ≠ .tracking ∧ (s.group g).state ≠ .trackHalted) : ¬ (s.group g).state.tracks :=
  fun ht => ht.elim h.1 h.2

/-- A frame start answers the one group that tracks, in the new frame. -/
theorem exec_frameStart_single (hr : s.resetHeld = false)
    (h : ∀ k, k ≠ g → (s.group k).state ≠ .tracking ∧ (s.group k).state ≠ .trackHalted) :
    exec .frameStart s = .next (s.nextFrame.consume g).settle := by
  have hsingle : allSlots.foldl State.consume s.nextFrame = s.nextFrame.consume g :=
    (consumeAll_single allSlots (List.nodup_finRange 4) s.nextFrame fun k hk => not_tracks_of_ne (h k hk)).trans
      (if_pos (mem_allSlots g))
  rw [← hsingle]; exact event_taken hr

end

/-! ## Steps written (R23, R82) -/

section
variable (s : State) (g : SlotId) (az el : Int) (d e : DishId)

theorem writeTrackStep_slot : (s.writeTrackStep d az el).slot e =
    if e = d ∧ s.moveLocked e = false then .trackStep az el else s.slot e := by
  unfold State.writeTrackStep State.writeBarred
  by_cases hl : s.moveLocked d = true
  · rw [if_pos hl, if_neg]
    rintro ⟨rfl, h⟩
    rw [hl] at h; cases h
  · rw [if_neg hl]
    refine (putSlot_slot s d e _).trans (if_congr ⟨?_, And.left⟩ rfl rfl)
    rintro rfl
    exact ⟨rfl, by simpa using hl⟩

theorem stepAll_slot (ds : List DishId) (s : State) : (s.onDishes ds fun w d => w.writeTrackStep d az el).slot e =
    if e ∈ ds ∧ s.moveLocked e = false then .trackStep az el else s.slot e := by
  induction ds generalizing s with
  | nil => exact (if_neg fun h => List.not_mem_nil h.1).symm
  | cons d ds ih =>
    refine (ih (s.writeTrackStep d az el)).trans ?_
    rw [(within_writeTrackStep s d az el).moveLocked_eq, writeTrackStep_slot]
    by_cases hl : s.moveLocked e = false
    · by_cases hds : e ∈ ds <;> simp [hds, hl]
    · simp [hl]

/-- A step written to each dish of a list changes the slots alone. -/
theorem stepAll_rest (ds : List DishId) (s : State) : ∃ v, (s.onDishes ds fun w d => w.writeTrackStep d az el)
    = { s with ring := { s.ring with slots := v } } := by
  induction ds generalizing s with
  | nil => exact ⟨_, rfl⟩
  | cons d ds ih =>
    obtain ⟨v, hv⟩ := ih (s.writeTrackStep d az el)
    refine ⟨v, hv.trans ?_⟩
    unfold State.writeTrackStep State.writeBarred
    split <;> rfl

/-- The slots after steps written to a group. -/
theorem writeSteps_slot : (s.writeSteps g az el).slot e =
    if e ∈ (s.group g).activeDishes ∧ s.moveLocked e = false then .trackStep az el else s.slot e := stepAll_slot _ _ _ _ _

theorem writeSteps_rest : s.writeSteps g az el =
    { s with ring := { s.ring with slots := (s.writeSteps g az el).ring.slots } } := by
  obtain ⟨v, hv⟩ := stepAll_rest az el (s.group g).activeDishes s
  have hw : s.writeSteps g az el = { s with ring := { s.ring with slots := v } } := hv
  rw [hw]

theorem writeSteps_group (k : SlotId) : (s.writeSteps g az el).group k = s.group k := by rw [writeSteps_rest]; rfl

theorem writeSteps_stream (k : SlotId) : (s.writeSteps g az el).stream k = s.stream k := by rw [writeSteps_rest]; rfl

theorem writeSteps_source (x : Source) : (s.writeSteps g az el).source x = s.source x := by rw [writeSteps_rest]; rfl

theorem writeSteps_settings : (s.writeSteps g az el).settings = s.settings := by rw [writeSteps_rest]

end

/-! ## The frame of an answer -/

section
variable {s t u : State} {g : SlotId} {xs : List Source} {x : Source}

/-- A source raised that nothing has changed since the state before. -/
theorem raisedOnce_raise (h : t.source x = s.source x) (w : Detail) : RaisedOnce x w s (t.raise x w) := by
  unfold RaisedOnce
  rw [raise_source_self, h]
  unfold SourceState.raised
  split
  · next hp => rw [hp]
  · rfl

theorem raise_source_ne {y : Source} (h : y ≠ x) (w : Detail) : (t.raise x w).source y = t.source y := by
  unfold State.raise; rw [setSource_source, if_neg h]

theorem streamFrame_nextFrame (g : SlotId) (xs : List Source) (s : State) : StreamFrame g xs s s.nextFrame where
  framed d := nextFrame_framed s d
  others _ _ := ⟨rfl, rfl⟩
  sources _ _ := rfl
  rest := rfl

theorem StreamFrame.setGroup (h : StreamFrame g xs s t) (f : Group → Group) : StreamFrame g xs s (t.setGroup g f) where
  framed := h.framed
  others k hk := by rw [setGroup_group, if_neg hk]; exact h.others k hk
  sources := h.sources
  rest := by rw [h.rest]; rfl

theorem StreamFrame.setStream (h : StreamFrame g xs s t) (f : Stream → Stream) : StreamFrame g xs s (t.setStream g f) where
  framed := h.framed
  others k hk := by rw [setStream_stream, if_neg hk]; exact h.others k hk
  sources := h.sources
  rest := by rw [h.rest]; rfl

theorem StreamFrame.setGroupState (h : StreamFrame g xs s t) (y : GroupState) : StreamFrame g xs s (t.setGroupState g y) :=
  h.setGroup _

theorem StreamFrame.writeSteps (h : StreamFrame g xs s t) (az el : Int) : StreamFrame g xs s (t.writeSteps g az el) where
  framed d := by rw [writeSteps_rest]; exact h.framed d
  others k hk := by rw [writeSteps_group, writeSteps_stream]; exact h.others k hk
  sources y hy := by rw [writeSteps_source]; exact h.sources y hy
  rest := by rw [writeSteps_rest, h.rest]

theorem StreamFrame.raise (h : StreamFrame g xs s t) (hx : x ∈ xs) (w : Detail) : StreamFrame g xs s (t.raise x w) where
  framed := h.framed
  others := h.others
  sources y hy := by
    have hne : y ≠ x := fun e => hy (by rwa [e])
    rw [raise_source_ne hne]; exact h.sources y hy
  rest := by rw [h.rest]; rfl

/-- An answer to a stream asks for no round and no scan. -/
theorem StreamFrame.settle (h : StreamFrame g xs s t) (hq : s.Quiet) : t.settle = t :=
  settle_of_quiet t (by rw [h.rest]; exact hq)

end

/-! ## The answers of a stream, case by case (R80) -/

section
variable {s : State} {g : SlotId}

theorem consume_finish (hx : (s.group g).state = .tracking) (hf : (s.stream g).finish = true) : s.consume g = s.passFinish g := by
  unfold State.consume
  simp only [hx, hf, if_true]

theorem consume_locked {l : FaultLock} (hx : (s.group g).state = .tracking) (hf : (s.stream g).finish = false)
    (hl : (s.stream g).lock = some l) : s.consume g = (s.setGroupState g .trackHalted).raiseTrackFault g l := by
  unfold State.consume
  simp only [hx, hf, hl, Bool.false_eq_true, if_false]

section
variable {e : TrackEntry} {rest : List TrackEntry} (hx : (s.group g).state = .tracking) (hf : (s.stream g).finish = false)
  (hl : (s.stream g).lock = none) (hb : (s.stream g).buffer = e :: rest)
include hx hf hl hb

theorem consume_passes (hp : ∀ d ∈ (s.group g).activeDishes, s.PassesCheck e.az e.el d) :
    s.consume g = s.passEntry g e rest := by
  unfold State.consume
  simp only [hx, hf, hl, hb, limitsCheck_none.2 hp, Bool.false_eq_true, if_false]

/-- An entry that fails at a member locks the stream with the first failure (R81, R83). -/
theorem consume_fails (hp : ¬ ∀ d ∈ (s.group g).activeDishes, s.PassesCheck e.az e.el d) :
    ∃ f, s.FirstNo (s.group g).activeDishes e.az e.el f ∧ s.consume g = s.lockEntry g e f := by
  cases hcheck : s.limitsCheck g e.az e.el with
  | none => exact absurd (limitsCheck_none.1 hcheck) hp
  | some f =>
    refine ⟨f, limitsCheck_some hcheck, ?_⟩
    unfold State.consume
    simp only [hx, hf, hl, hb, hcheck, Bool.false_eq_true, if_false]

end

theorem consume_empty (hx : (s.group g).state = .tracking) (hf : (s.stream g).finish = false) (hl : (s.stream g).lock = none)
    (hb : (s.stream g).buffer = []) : s.consume g = s.coastStep g := by
  unfold State.consume
  simp only [hx, hf, hl, hb, Bool.false_eq_true, if_false]

theorem consume_halted (hx : (s.group g).state = .trackHalted) :
    s.consume g = if (s.stream g).starved then s.writeSteps g 0 0 else s := by
  unfold State.consume
  simp only [hx]

end

/-! ## An entry passed (R82, R87) -/

/-- The passage of an entry with the rest behind it brings the load to the low mark, which no TRACK_LOW has told yet (R87). -/
abbrev State.FallsLow (s : State) (g : SlotId) (rest : List TrackEntry) : Prop :=
  s.settings.track.lowMark < rest.length + 1 ∧ rest.length ≤ s.settings.track.lowMark ∧ (s.stream g).lowReported = false

/-- The stream after an entry has been removed and sent, its low reported mark apart. -/
def Stream.passed (x : Stream) (e : TrackEntry) (rest : List TrackEntry) : Stream :=
  { x with buffer := rest, lastAz := e.az, lastEl := e.el, coast := 0, finish := x.finish || e.last }

/-- The entry removed and its step written, the load not judged yet. -/
def State.sendEntry (s : State) (g : SlotId) (e : TrackEntry) (rest : List TrackEntry) : State :=
  (s.setStream g fun x => x.passed e rest).writeSteps g e.az e.el

section
variable {s t : State} {g : SlotId} (e : TrackEntry) (rest : List TrackEntry)

theorem sendEntry_group (k : SlotId) : (s.sendEntry g e rest).group k = s.group k := writeSteps_group _ _ _ _ _

theorem sendEntry_stream : (s.sendEntry g e rest).stream g = (s.stream g).passed e rest :=
  (writeSteps_stream _ _ _ _ _).trans (setStream_stream_self _ _ _)

theorem sendEntry_source (x : Source) : (s.sendEntry g e rest).source x = s.source x := writeSteps_source _ _ _ _ _

theorem sendEntry_slot (d : DishId) : (s.sendEntry g e rest).slot d =
    if d ∈ (s.group g).activeDishes ∧ s.moveLocked d = false then .trackStep e.az e.el else s.slot d := writeSteps_slot _ _ _ _ _

theorem sendEntry_fallsLow : (s.settings.track.lowMark < rest.length + 1
      ∧ ((s.sendEntry g e rest).stream g).buffer.length ≤ s.settings.track.lowMark
      ∧ ((s.sendEntry g e rest).stream g).lowReported = false) ↔ s.FallsLow g rest := by
  rw [sendEntry_stream]; rfl

theorem passEntry_eq : s.passEntry g e rest =
    if s.FallsLow g rest then
      ((s.sendEntry g e rest).setStream g fun x => { x with lowReported := true }).raise .trackLow
        (.trackLow g (s.group g).tag rest.length)
    else s.sendEntry g e rest := by
  have hsettings : (s.sendEntry g e rest).settings = s.settings := writeSteps_settings _ _ _ _
  change (s.sendEntry g e rest).judgeLow g (rest.length + 1) = _
  unfold State.judgeLow; dsimp only
  rw [hsettings, sendEntry_group]
  refine (if_congr (sendEntry_fallsLow e rest) ?_ rfl)
  rw [sendEntry_stream]; rfl

theorem passEntry_group (k : SlotId) : (s.passEntry g e rest).group k = s.group k := by
  rw [passEntry_eq]; split
  · exact sendEntry_group e rest k
  · exact sendEntry_group e rest k

theorem passEntry_slot (d : DishId) : (s.passEntry g e rest).slot d =
    if d ∈ (s.group g).activeDishes ∧ s.moveLocked d = false then .trackStep e.az e.el else s.slot d := by
  rw [passEntry_eq]; split
  · exact sendEntry_slot e rest d
  · exact sendEntry_slot e rest d

theorem passEntry_stream : (s.passEntry g e rest).stream g = { (s.stream g).passed e rest with
    lowReported := (s.stream g).lowReported || decide (s.FallsLow g rest) } := by
  rw [passEntry_eq]; split
  · next h =>
    rw [raise_stream, setStream_stream_self, sendEntry_stream, decide_eq_true h, Bool.or_true]
  · next h =>
    rw [sendEntry_stream, decide_eq_false h, Bool.or_false]; rfl

theorem passEntry_raises (h : s.FallsLow g rest) :
    RaisedOnce .trackLow (.trackLow g (s.group g).tag rest.length) s (s.passEntry g e rest) := by
  rw [passEntry_eq, if_pos h]
  exact raisedOnce_raise (sendEntry_source e rest _) _

theorem passEntry_source (h : ¬ s.FallsLow g rest) (x : Source) : (s.passEntry g e rest).source x = s.source x := by
  rw [passEntry_eq, if_neg h]
  exact sendEntry_source e rest x

theorem StreamFrame.passEntry (h : StreamFrame g [.trackLow] s t) :
    StreamFrame g [.trackLow] s (t.passEntry g e rest) := by
  have hsent : StreamFrame g [.trackLow] s (t.sendEntry g e rest) := (h.setStream _).writeSteps _ _
  rw [passEntry_eq]; split
  · exact (hsent.setStream _).raise List.mem_cons_self _
  · exact hsent

end

/-! ## An entry failed (R83), and a lock set before (R88) -/

section
variable {s t : State} {g : SlotId}

theorem raiseTrackFault_raises (h : t.source .trackFault = s.source .trackFault) (l : FaultLock) :
    RaisedOnce .trackFault (.trackFault g (t.group g).tag l (t.stream g).buffer.length) s (t.raiseTrackFault g l) :=
  raisedOnce_raise h _

theorem StreamFrame.raiseTrackFault (h : StreamFrame g [.trackFault] s t) (l : FaultLock) :
    StreamFrame g [.trackFault] s (t.raiseTrackFault g l) := h.raise List.mem_cons_self _

theorem StreamFrame.lockEntry (h : StreamFrame g [.trackFault] s t) (e : TrackEntry) (f : LimitFailure) :
    StreamFrame g [.trackFault] s (t.lockEntry g e f) := ((h.setStream _).setGroupState _).raiseTrackFault _

theorem lockEntry_group (s : State) (e : TrackEntry) (f : LimitFailure) :
    (s.lockEntry g e f).group g = { s.group g with state := .trackHalted } := setGroup_group_self _ _ _

theorem lockEntry_stream (s : State) (e : TrackEntry) (f : LimitFailure) :
    (s.lockEntry g e f).stream g = { s.stream g with lock := some ⟨f, e.az, e.el⟩ } := setStream_stream_self _ _ _

theorem lockEntry_raises (s : State) (e : TrackEntry) (f : LimitFailure) : RaisedOnce .trackFault
    (.trackFault g (s.group g).tag ⟨f, e.az, e.el⟩ (s.stream g).buffer.length) s (s.lockEntry g e f) := by
  have h := raiseTrackFault_raises (g := g) (s := s)
    (t := (s.setStream g fun x => { x with lock := some ⟨f, e.az, e.el⟩ }).setGroupState g .trackHalted) rfl ⟨f, e.az, e.el⟩
  rw [setGroupState_group_self] at h
  change RaisedOnce .trackFault (.trackFault g (s.group g).tag _
    ((s.setStream g fun x => { x with lock := some ⟨f, e.az, e.el⟩ }).stream g).buffer.length) s (s.lockEntry g e f) at h
  rwa [setStream_stream_self] at h

end

/-- Settles O9: the slot's answer is the whole step, and the limits check decides between the entry passed and the lock. -/
theorem exitEntryConsumed : Obligations.ExitEntryConsumed := by
  unfold Obligations.ExitEntryConsumed
  intro s g hr hq hx hothers hf
  have hexec : ∀ xs, StreamFrame g xs s (s.nextFrame.consume g) → exec .frameStart s = .next (s.nextFrame.consume g) := fun xs h =>
    (exec_frameStart_single hr hothers).trans (congrArg _ (h.settle hq))
  refine ⟨?entry, fun l hl => ?locked⟩
  case entry =>
    intro e rest hl hb low falls
    by_cases hpass : ∀ d ∈ (s.group g).activeDishes, s.PassesCheck e.az e.el d
    · have hframe := (streamFrame_nextFrame g [.trackLow] s).passEntry e rest
      rw [consume_passes (s := s.nextFrame) hx hf hl hb hpass] at hexec
      refine ⟨_, hexec _ hframe, fun _ => ⟨hframe, passEntry_group e rest g, ?_,
        passEntry_raises (s := s.nextFrame) e rest, fun h => passEntry_source (s := s.nextFrame) e rest h _,
        passEntry_slot (s := s.nextFrame) e rest⟩, fun ⟨d, hd, hno⟩ => absurd (hpass d hd) hno⟩
      refine (passEntry_stream e rest).trans ?_
      have hfinish : ((s.stream g).finish || e.last) = e.last := by rw [hf, Bool.false_or]
      exact congrArg (fun b => { (s.stream g).passed e rest with
        finish := b, lowReported := (s.stream g).lowReported || decide (s.FallsLow g rest) }) hfinish
    · obtain ⟨f, hfirst, hstep⟩ := consume_fails (s := s.nextFrame) hx hf hl hb hpass
      have hframe := (streamFrame_nextFrame g [.trackFault] s).lockEntry e f
      have hraises := lockEntry_raises (g := g) s.nextFrame e f
      have hload : (s.nextFrame.stream g).buffer.length = rest.length + 1 := congrArg List.length hb
      rw [hload] at hraises
      rw [hstep] at hexec
      exact ⟨_, hexec _ hframe, fun h => absurd h hpass,
        fun _ => ⟨f, hfirst, hframe, lockEntry_group _ e f, lockEntry_stream _ e f, fun _ => rfl, hraises⟩⟩
  case locked =>
    have hframe := ((streamFrame_nextFrame g [.trackFault] s).setGroupState .trackHalted).raiseTrackFault l
    have hraises := raiseTrackFault_raises (g := g) (s := s) (t := s.nextFrame.setGroupState g .trackHalted) rfl l
    rw [setGroupState_group_self] at hraises
    rw [consume_locked (s := s.nextFrame) hx hf hl] at hexec
    exact ⟨_, hexec _ hframe, hframe, setGroupState_group_self s.nextFrame g _, rfl, fun _ => rfl, hraises⟩

end Sys2Proof.Machine
end

section
/-! A stream with no entry coasts or starves (R85, R86); a release of reservations, the judgement of the over-commit mark and the scan
that follow it where nobody is admitted (R123, R133). -/

namespace Sys2Proof.Machine

/-! ## Coasting and starving (R85, R86) -/

/-- The group halted with its stream starved, before zero steps are written. -/
def State.halts (s : State) (g : SlotId) : State :=
  (s.setStream g fun x => { x with starved := true }).setGroupState g .trackHalted

section
variable {s t : State} {g : SlotId}

theorem halts_group (s : State) : (s.halts g).group g = { s.group g with state := .trackHalted } := setGroup_group_self _ _ _

theorem halts_stream (s : State) : (s.halts g).stream g = { s.stream g with starved := true } := setStream_stream_self _ _ _

theorem starve_eq (s : State) (g : SlotId) (c : StarveCause) : s.starve g c =
    ((s.halts g).writeSteps g 0 0).raise .trackStarved (.trackStarved g (s.group g).tag c (s.stream g).coast) := by
  have hgroup : ((s.halts g).group g).tag = (s.group g).tag := by rw [halts_group]
  have hstream : ((s.halts g).stream g).coast = (s.stream g).coast := by rw [halts_stream]
  rw [← hgroup, ← hstream]; rfl

theorem starve_group (s : State) (c : StarveCause) : (s.starve g c).group g = { s.group g with state := .trackHalted } := by
  rw [starve_eq, raise_group, writeSteps_group, halts_group]

theorem starve_stream (s : State) (c : StarveCause) : (s.starve g c).stream g = { s.stream g with starved := true } := by
  rw [starve_eq, raise_stream, writeSteps_stream, halts_stream]

theorem starve_slot (s : State) (c : StarveCause) (d : DishId) : (s.starve g c).slot d =
    if d ∈ (s.group g).activeDishes ∧ s.moveLocked d = false then .trackStep 0 0 else s.slot d := by
  rw [starve_eq, raise_slot, writeSteps_slot, halts_group]; rfl

theorem starve_raises (s : State) (c : StarveCause) :
    RaisedOnce .trackStarved (.trackStarved g (s.group g).tag c (s.stream g).coast) s (s.starve g c) := by
  rw [starve_eq]
  exact raisedOnce_raise (writeSteps_source _ _ _ _ _) _

theorem StreamFrame.starve (h : StreamFrame g [.trackStarved] s t) (c : StarveCause) :
    StreamFrame g [.trackStarved] s (t.starve g c) := by
  have hhalts : StreamFrame g [.trackStarved] s (t.halts g) := (h.setStream _).setGroupState _
  rw [starve_eq]
  exact (hhalts.writeSteps 0 0).raise List.mem_cons_self _

/-- The last sent step repeated and counted. -/
def State.coasts (s : State) (g : SlotId) : State :=
  (s.setStream g fun x => { x with coast := x.coast + 1 }).writeSteps g (s.stream g).lastAz (s.stream g).lastEl

theorem coasts_group (s : State) : (s.coasts g).group g = s.group g := writeSteps_group _ _ _ _ _

theorem coasts_stream (s : State) : (s.coasts g).stream g = { s.stream g with coast := (s.stream g).coast + 1 } :=
  (writeSteps_stream _ _ _ _ _).trans (setStream_stream_self _ _ _)

theorem coasts_slot (s : State) (d : DishId) : (s.coasts g).slot d =
    if d ∈ (s.group g).activeDishes ∧ s.moveLocked d = false then .trackStep (s.stream g).lastAz (s.stream g).lastEl
    else s.slot d := writeSteps_slot _ _ _ _ _

theorem StreamFrame.coasts {xs : List Source} (h : StreamFrame g xs s t) : StreamFrame g xs s (t.coasts g) :=
  (h.setStream _).writeSteps _ _

theorem coastStep_limit (h : ¬ (s.stream g).coast < s.settings.track.coastLimit) : s.coastStep g = s.starve g .coastLimit := by
  unfold State.coastStep; exact if_neg h

theorem coastStep_passes (h : (s.stream g).coast < s.settings.track.coastLimit)
    (hp : ∀ d ∈ (s.group g).activeDishes, s.PassesCheck (s.stream g).lastAz (s.stream g).lastEl d) :
    s.coastStep g = s.coasts g := by
  unfold State.coastStep
  simp only [h, limitsCheck_none.2 hp, if_true]
  rfl

theorem coastStep_fails (h : (s.stream g).coast < s.settings.track.coastLimit)
    (hp : ¬ ∀ d ∈ (s.group g).activeDishes, s.PassesCheck (s.stream g).lastAz (s.stream g).lastEl d) :
    ∃ f, s.FirstNo (s.group g).activeDishes (s.stream g).lastAz (s.stream g).lastEl f
      ∧ s.coastStep g = s.starve g (.coastRange f) := by
  cases hcheck : s.limitsCheck g (s.stream g).lastAz (s.stream g).lastEl with
  | none => exact absurd (limitsCheck_none.1 hcheck) hp
  | some f =>
    refine ⟨f, limitsCheck_some hcheck, ?_⟩
    unfold State.coastStep
    simp only [h, hcheck, if_true]

end

/-- What a starvation with the cause given leaves, the frame start included (R86). -/
theorem starve_spec (s : State) (g : SlotId) (c : StarveCause) :
    StreamFrame g [.trackStarved] s (s.nextFrame.starve g c)
      ∧ (s.nextFrame.starve g c).group g = { s.group g with state := .trackHalted }
      ∧ (s.nextFrame.starve g c).stream g = { s.stream g with starved := true }
      ∧ (∀ d, (s.nextFrame.starve g c).slot d =
          if d ∈ (s.group g).activeDishes ∧ s.moveLocked d = false then .trackStep 0 0 else s.slot d)
      ∧ RaisedOnce .trackStarved (.trackStarved g (s.group g).tag c (s.stream g).coast) s (s.nextFrame.starve g c) :=
  ⟨(streamFrame_nextFrame g _ s).starve c, starve_group s.nextFrame c, starve_stream s.nextFrame c, starve_slot s.nextFrame c,
    starve_raises s.nextFrame c⟩

/-! ## Reservations released in one (R84, R123) -/

/-- HOLD BRAKE written to each dish of a list changes the slots alone. -/
theorem brakeAll_eq (ds : List DishId) (s : State) :
    ∃ v, s.onDishes ds State.writeHoldBrake = { s with ring := { s.ring with slots := v } } := by
  induction ds generalizing s with
  | nil => exact ⟨_, rfl⟩
  | cons d ds ih => exact ih (s.writeHoldBrake d)

/-- Some dish of the list holds a reservation. -/
def State.someReserved (s : State) (ds : List DishId) : Bool := ds.any fun d => s.feeder.reservations[d].isSome

theorem someReserved_iff {s : State} {ds : List DishId} :
    s.someReserved ds = true ↔ ∃ d ∈ ds, s.feeder.reservations[d] ≠ none := by
  simp [State.someReserved, Option.isSome_iff_ne_none]

/-- The removal of the reservations of a list asks for judgement, round and scan where there is one (R119, R123, R133). -/
theorem releaseAll_eq (ds : List DishId) (s : State) : ∃ v, s.onDishes ds State.releaseReservation = { s with
    feeder := { s.feeder with reservations := v }
    judgeDue := s.judgeDue || s.someReserved ds, roundDue := s.roundDue || s.someReserved ds
    scanDue := s.scanDue || s.someReserved ds } := by
  induction ds generalizing s with
  | nil => exact ⟨s.feeder.reservations, by simp [State.onDishes, State.someReserved]⟩
  | cons d ds ih =>
    obtain ⟨v, hv⟩ := ih (s.releaseReservation d)
    refine ⟨v, hv.trans ?_⟩
    have hany : s.someReserved (d :: ds) = (s.feeder.reservations[d].isSome || s.someReserved ds) := List.any_cons
    rw [hany]
    unfold State.releaseReservation
    cases h : s.feeder.reservations[d] with
    | none => rfl
    | some r => simp [State.askRound, State.askScan, State.askJudge, State.putReservation]

/-- HOLD BRAKE written and the reservations removed: slots, reservations and what is asked for change, and nothing else. -/
theorem braked_eq (ds : List DishId) (s : State) : ∃ v r, s.braked ds = { s with
    ring := { s.ring with slots := v }, feeder := { s.feeder with reservations := r }
    judgeDue := s.judgeDue || s.someReserved ds, roundDue := s.roundDue || s.someReserved ds
    scanDue := s.scanDue || s.someReserved ds } := by
  obtain ⟨v, hv⟩ := brakeAll_eq ds s
  obtain ⟨r, hr⟩ := releaseAll_eq ds (s.onDishes ds State.writeHoldBrake)
  refine ⟨v, r, hr.trans ?_⟩
  rw [hv]; rfl

/-! ## The over-commit mark judged, and the scan (R123, R133) -/

/-- Between the two states the powering scan has run: zones that were WAITING may have joined the power order. -/
structure Repowered (s t : State) : Prop where
  order : s.feeder.powerOrder <+: t.feeder.powerOrder
  zone : ∀ z, t.zone z = s.zone z ∨ (s.zone z).state = .waiting ∧ (t.zone z).state = .powered
  rest : t = { s with
    feeder := { s.feeder with powerOrder := t.feeder.powerOrder }, melt := { s.melt with zones := t.melt.zones } }

section
variable {s t u : State} {j r c : Bool}

theorem Repowered.refl (s : State) : Repowered s s := ⟨List.prefix_refl _, fun _ => .inl rfl, rfl⟩

theorem Repowered.trans (h : Repowered s t) (k : Repowered t u) : Repowered s u where
  order := h.order.trans k.order
  zone z := by
    rcases h.zone z with hz | ⟨hw, hp⟩
    · rw [← hz]; exact k.zone z
    · rcases k.zone z with kz | ⟨kw, -⟩
      · exact .inr ⟨hw, by rw [kz]; exact hp⟩
      · rw [hp] at kw; cases kw
  rest := by rw [k.rest, h.rest]

theorem repowered_powerZone {z : ZoneId} (hz : (s.zone z).state = .waiting) (p : Nat) : Repowered s (s.powerZone z p) where
  order := List.prefix_append _ _
  zone w := by
    unfold State.powerZone
    rw [setZone_zone]; split
    · next h => subst h; exact .inr ⟨hz, rfl⟩
    · exact .inl rfl
  rest := rfl

theorem repowered_scanWalk (zs : List ZoneId) (s : State) : Repowered s (scanWalk zs s) := by
  induction zs generalizing s with
  | nil => exact .refl s
  | cons z zs ih =>
    unfold scanWalk; split
    · next hz =>
      dsimp only; split
      · exact (repowered_powerZone hz _).trans (ih _)
      · exact .refl s
    all_goals exact ih s

theorem judgeRestored_keeps (h : s.feeder.overCommit = none ∨ ¬ s.feeder.d ≤ s.feeder.allowance) : s.judgeRestored = s := by
  unfold State.judgeRestored
  split
  · rfl
  · next c hc => exact if_neg (h.resolve_left (by simp [hc]))

theorem judgeRestored_clears {x : OverCause} (h : s.feeder.overCommit = some x) (hd : s.feeder.d ≤ s.feeder.allowance) :
    s.judgeRestored = { s with feeder := { s.feeder with overCommit := none } }.raise .power
      (.powerRestored s.feeder.allowance s.feeder.d x) := by
  unfold State.judgeRestored
  rw [h]; exact if_pos hd

/-- The judgement of the over-commit mark depends on the feeder and the sources alone. -/
theorem judgeRestored_asks (s : State) (j r c : Bool) : { s with judgeDue := j, roundDue := r, scanDue := c }.judgeRestored
    = { s.judgeRestored with judgeDue := j, roundDue := r, scanDue := c } := by
  unfold State.judgeRestored; dsimp only
  split
  · rfl
  · split <;> rfl

/-- Between the two states the over-commit mark has been judged, if it was asked for, and nothing is asked for any more (R123). -/
structure Judged (asked : Bool) (s t : State) : Prop where
  clears : ∀ c, s.feeder.overCommit = some c → asked = true ∧ s.feeder.d ≤ s.feeder.allowance →
    t.feeder.overCommit = none ∧ RaisedOnce .power (.powerRestored s.feeder.allowance s.feeder.d c) s t
  keeps : s.feeder.overCommit = none ∨ ¬ (asked = true ∧ s.feeder.d ≤ s.feeder.allowance) →
    t.feeder.overCommit = s.feeder.overCommit ∧ t.source .power = s.source .power
  sources : ∀ y, y ≠ .power → t.source y = s.source y
  rest : t = { s.quiet with feeder := { s.feeder with overCommit := t.feeder.overCommit }, sources := t.sources }

theorem judged_unasked (s : State) : Judged false s s.quiet :=
  ⟨fun _ _ h => absurd h.1 Bool.false_ne_true, fun _ => ⟨rfl, rfl⟩, fun _ _ => rfl, rfl⟩

theorem judged_judgeRestored (s : State) : Judged true s s.quiet.judgeRestored := by
  by_cases h : s.feeder.overCommit = none ∨ ¬ s.feeder.d ≤ s.feeder.allowance
  · rw [judgeRestored_keeps (s := s.quiet) h]
    refine ⟨fun c hc ⟨_, hd⟩ => absurd hd (h.resolve_left (by simp [hc])), fun _ => ⟨rfl, rfl⟩, fun _ _ => rfl, rfl⟩
  · obtain ⟨hmark, hd⟩ := not_or.1 h
    obtain ⟨c, hc⟩ := Option.ne_none_iff_exists'.1 hmark
    have hd : s.feeder.d ≤ s.feeder.allowance := not_not.1 hd
    rw [judgeRestored_clears (s := s.quiet) hc hd]
    refine ⟨fun c' hc' _ => ⟨rfl, ?_⟩, fun hk => absurd ⟨rfl, hd⟩ (hk.resolve_left hmark), fun y hy => ?_, rfl⟩
    · obtain rfl : c' = c := Option.some_inj.1 (hc'.symm.trans hc)
      exact raisedOnce_raise rfl _
    · exact raise_source_ne hy _

/-- The state with these asks. -/
def State.asking (s : State) (judge round scan : Bool) : State :=
  { s with judgeDue := judge, roundDue := round, scanDue := scan }

theorem asking_of_quiet (h : s.Quiet) : s.asking false false false = s := by
  obtain ⟨hj, hr, hc⟩ := h
  unfold State.asking
  cases s; dsimp only at hj hr hc
  rw [hj, hr, hc]

theorem quiet_asking (hj : s.judgeDue = j) (hr : s.roundDue = r) (hc : s.scanDue = c) : s.quiet.asking j r c = s := by
  unfold State.asking State.quiet
  cases s; dsimp only at hj hr hc
  rw [hj, hr, hc]

theorem settleFuel_judge (n : Nat) : settleFuel (n + 1) (s.asking true r c) = settleFuel n (s.judgeRestored.asking false r c) :=
  congrArg (settleFuel n) (judgeRestored_asks s false r c)

theorem settleFuel_round (hn : NobodyAdmitted s) (n : Nat) :
    settleFuel (n + 1) (s.asking false true c) = settleFuel n (s.asking false false c) :=
  congrArg (settleFuel n) (admissionRound_of_nobody (s := s.asking false false c) hn)

theorem settleFuel_scan (n : Nat) :
    settleFuel (n + 1) (s.asking false false true) = settleFuel n (s.asking false false false).poweringScan := rfl

theorem settleFuel_of_quiet (h : s.Quiet) (n : Nat) : settleFuel (n + 1) s = s := by
  obtain ⟨hj, hr, hc⟩ := h
  unfold settleFuel
  rw [hj, hr, hc]; rfl

/-- Judgement, round and scan asked for together, where nobody is admitted: the mark is judged and the scan runs. -/
theorem settle_of_asked (hn : NobodyAdmitted s) (hj : s.judgeDue = true) (hr : s.roundDue = true) (hc : s.scanDue = true) :
    s.settle = s.quiet.judgeRestored.poweringScan := by
  obtain ⟨n, hbound⟩ : ∃ n, s.settleBound = n + 4 := ⟨_, rfl⟩
  have hjudged : NobodyAdmitted s.quiet.judgeRestored :=
    NobodyAdmitted.of_heat (s := s.quiet) hn (touches_judgeRestored _ _) (within_judgeRestored _)
  have hquiet : s.quiet.judgeRestored.Quiet := by
    rw [(judged_judgeRestored s).rest]; exact ⟨rfl, rfl, rfl⟩
  calc s.settle = settleFuel (n + 4) (s.quiet.asking true true true) := by rw [quiet_asking hj hr hc, ← hbound]; rfl
    _ = settleFuel (n + 3) (s.quiet.judgeRestored.asking false true true) := settleFuel_judge _
    _ = settleFuel (n + 2) (s.quiet.judgeRestored.asking false false true) := settleFuel_round hjudged _
    _ = settleFuel (n + 1) s.quiet.judgeRestored.poweringScan := by rw [settleFuel_scan, asking_of_quiet hquiet]
    _ = s.quiet.judgeRestored.poweringScan := settleFuel_of_quiet (scanWalk_quiet _ _ hquiet) _

/-- A release or none, where nobody is admitted: the mark is judged once, and the scan may power zones. -/
theorem settle_released {asked : Bool} (hn : NobodyAdmitted s) (hj : s.judgeDue = asked) (hr : s.roundDue = asked)
    (hc : s.scanDue = asked) : ∃ u, Judged asked s u ∧ Repowered u s.settle := by
  cases asked with
  | false =>
    have hquiet : s.quiet = s := asking_of_quiet ⟨hj, hr, hc⟩
    refine ⟨s.quiet, judged_unasked s, ?_⟩
    rw [settle_of_quiet s ⟨hj, hr, hc⟩, hquiet]; exact .refl s
  | true =>
    rw [settle_of_asked hn hj hr hc]
    exact ⟨_, judged_judgeRestored s, repowered_scanWalk _ _⟩

end

end Sys2Proof.Machine
end

section
/-! The passage to POSITIONED at a frame start with the finish mark set (R84), and all answers to a stream with no entry. -/

namespace Sys2Proof.Machine

/-! ## The passage by the finish mark (R84) -/

section
variable (s : State) (g : SlotId) (d : DishId)

theorem passFinish_eq : s.passFinish g =
    (((s.braked (s.group g).activeDishes).setGroupState g .positioned).raiseArrived g .positioned).setStream g fun x =>
      { x with buffer := [], finish := false } := rfl

/-- What the passage leaves alone: all but slots, the group and its stream, sources and reservations, and what is asked for. -/
theorem passFinish_rest : ∃ v r, s.passFinish g = { s with
    ring := { s.ring with slots := v }, feeder := { s.feeder with reservations := r }
    groups := (s.passFinish g).groups, streams := (s.passFinish g).streams, sources := (s.passFinish g).sources
    judgeDue := s.judgeDue || s.someReserved (s.group g).activeDishes
    roundDue := s.roundDue || s.someReserved (s.group g).activeDishes
    scanDue := s.scanDue || s.someReserved (s.group g).activeDishes } := by
  obtain ⟨v, r, hbraked⟩ := braked_eq (s.group g).activeDishes s
  refine ⟨v, r, ?_⟩
  rw [passFinish_eq, hbraked]; rfl

theorem passFinish_group : (s.passFinish g).group g = { s.group g with state := .positioned } := by
  rw [passFinish_eq]
  refine (setGroup_group_self _ _ _).trans ?_
  rw [((touches_braked s (s.group g).activeDishes).group g (by simp)).1]

theorem passFinish_stream : (s.passFinish g).stream g = { s.stream g with buffer := [], finish := false } := by
  rw [passFinish_eq, setStream_stream_self]
  exact congrArg (fun x => { x with buffer := [], finish := false })
    ((touches_braked s (s.group g).activeDishes).group g (by simp)).2

theorem passFinish_others {k : SlotId} (hk : k ≠ g) :
    (s.passFinish g).group k = s.group k ∧ (s.passFinish g).stream k = s.stream k :=
  (touches_passFinish s g).group k (by rwa [group_mem_places])

variable {s g d} in
theorem passFinish_core_member (hd : d ∈ (s.group g).activeDishes) : (s.passFinish g).core d = (s.dish d, .holdBrake, none) :=
  braked_core s hd

variable {s g d} in
theorem passFinish_core_other (hd : d ∉ (s.group g).activeDishes) : (s.passFinish g).core d = s.core d :=
  (touches_passFinish s g).core_eq (by rwa [dish_mem_places])

theorem passFinish_slot : (s.passFinish g).slot d = if d ∈ (s.group g).activeDishes then .holdBrake else s.slot d := by
  split
  · next hd => exact (core_eq (passFinish_core_member hd)).2.1
  · next hd => exact (core_eq (passFinish_core_other hd)).2.1

theorem passFinish_reservations : (s.passFinish g).feeder.reservations[d] =
    if d ∈ (s.group g).activeDishes then none else s.feeder.reservations[d] := by
  split
  · next hd => exact (core_eq (passFinish_core_member hd)).2.2
  · next hd => exact (core_eq (passFinish_core_other hd)).2.2

theorem braked_source (ds : List DishId) (x : Source) : (s.braked ds).source x = s.source x := by
  obtain ⟨v, r, hbraked⟩ := braked_eq ds s
  rw [hbraked]; rfl

theorem passFinish_source {x : Source} (hx : x ≠ .groupArrived) : (s.passFinish g).source x = s.source x :=
  (raise_source_ne hx _).trans (braked_source s _ x)

theorem passFinish_raises : RaisedOnce .groupArrived (.groupArrived g (s.group g).tag .positioned (s.group g).active.length
    ((s.group g).members.length - (s.group g).active.length)) s (s.passFinish g) := by
  have hgroup : ((s.braked (s.group g).activeDishes).setGroupState g .positioned).group g
      = { s.group g with state := .positioned } := passFinish_group s g
  have hraise := raisedOnce_raise (s := s) (t := (s.braked (s.group g).activeDishes).setGroupState g .positioned)
    (x := .groupArrived) (braked_source s _ _)
    (.groupArrived g (s.group g).tag .positioned (s.group g).active.length
      ((s.group g).members.length - (s.group g).active.length))
  unfold RaisedOnce at hraise ⊢
  rw [← hraise, passFinish_eq]
  unfold State.raiseArrived
  rw [hgroup]; rfl

theorem passFinish_pending : ((s.passFinish g).source .groupArrived).pending = true := by
  rw [passFinish_raises s g]

end

/-! ## The passage settled -/

section
variable {s t u w : State} {g : SlotId} {asked : Bool}

theorem passFinish_nobody (h : NobodyAdmitted s) (g : SlotId) : NobodyAdmitted (s.passFinish g) := by
  have ht := touches_passFinish s g
  refine h.of_same ?_ (by rw [ht.orders]) ht.listed (fun k hk => ?_) (by rw [(within_passFinish s g).locks_eq])
  · rw [ht.stow (stow_notMem_places _ _)]; exact h.1
  · by_cases hkg : k = g
    · subst hkg; rw [passFinish_group] at hk; cases hk
    · rwa [(passFinish_others s g hkg).1] at hk

/-- After the judgement and the scan all but the over-commit mark, the sources, the power order and the zones is as before. -/
theorem Judged.repowered_rest (h : Judged asked s u) (k : Repowered u t) : t = { s.quiet with
    feeder := { s.feeder with powerOrder := t.feeder.powerOrder, overCommit := t.feeder.overCommit }, sources := t.sources
    melt := { s.melt with zones := t.melt.zones } } := by
  rw [k.rest, h.rest]; rfl

theorem Repowered.source (k : Repowered u t) (x : Source) : t.source x = u.source x := by rw [k.rest]; rfl

theorem Repowered.overCommit (k : Repowered u t) : t.feeder.overCommit = u.feeder.overCommit := by rw [k.rest]

theorem Judged.powerOrder (h : Judged asked s u) : u.feeder.powerOrder = s.feeder.powerOrder := by rw [h.rest]

theorem Judged.zone (h : Judged asked s u) (z : ZoneId) : u.zone z = s.zone z := by rw [h.rest]; rfl

/-- The sum of the reservations is that of the reservation list alone. -/
theorem d_congr {f f' : Feeder} (h : f.reservations = f'.reservations) : f.d = f'.d := by unfold Feeder.d; rw [h]

end

/-- What a group's passage by its finish mark leaves, judgement and scan included, where nobody is admitted (R84, R123, R133). -/
structure FinishSettled (g : SlotId) (s t : State) : Prop where
  slot : ∀ d, t.slot d = if d ∈ (s.group g).activeDishes then .holdBrake else s.slot d
  reservations : ∀ d : DishId, t.feeder.reservations[d]
    = if d ∈ (s.group g).activeDishes then none else s.feeder.reservations[d]
  arrived : RaisedOnce .groupArrived (.groupArrived g (s.group g).tag .positioned (s.group g).active.length
    ((s.group g).members.length - (s.group g).active.length)) s t
  restored :
    let restored := (∃ d ∈ (s.group g).activeDishes, s.feeder.reservations[d] ≠ none) ∧ t.feeder.d ≤ s.feeder.allowance
    (∀ c, s.feeder.overCommit = some c → restored →
      t.feeder.overCommit = none ∧ RaisedOnce .power (.powerRestored s.feeder.allowance t.feeder.d c) s t)
    ∧ (s.feeder.overCommit = none ∨ ¬ restored →
      t.feeder.overCommit = s.feeder.overCommit ∧ t.source .power = s.source .power)
  order : s.feeder.powerOrder <+: t.feeder.powerOrder
  zone : ∀ z, t.zone z = s.zone z ∨ (s.zone z).state = .waiting ∧ (t.zone z).state = .powered
  others : ∀ k, k ≠ g → t.group k = s.group k ∧ t.stream k = s.stream k
  sources : ∀ y, y ≠ .groupArrived → y ≠ .power → t.source y = s.source y
  rest : t = { s with
    ring := { s.ring with slots := t.ring.slots }
    groups := t.groups, streams := t.streams, sources := t.sources
    feeder := { s.feeder with
      reservations := t.feeder.reservations, powerOrder := t.feeder.powerOrder, overCommit := t.feeder.overCommit }
    melt := { s.melt with zones := t.melt.zones } }

theorem passFinish_settled {s : State} (hq : s.Quiet) (hn : NobodyAdmitted s) (g : SlotId) :
    FinishSettled g s (s.passFinish g).settle := by
  obtain ⟨hj, hr, hc⟩ := hq
  obtain ⟨v, r, hu⟩ := passFinish_rest s g
  have hslot := passFinish_slot s g
  have hreservations := passFinish_reservations s g
  have harrived := passFinish_raises s g
  have hsource := fun {x} => passFinish_source s g (x := x)
  have hothers := fun {k} => passFinish_others s g (k := k)
  have hasked : s.someReserved (s.group g).activeDishes = true ↔
      ∃ d ∈ (s.group g).activeDishes, s.feeder.reservations[d] ≠ none := someReserved_iff
  have hnobody := passFinish_nobody hn g
  rw [hj, hr, hc, Bool.false_or] at hu
  generalize s.passFinish g = u at *
  generalize s.someReserved (s.group g).activeDishes = asked at hu hasked
  obtain ⟨w, hjudged, hpowered⟩ := settle_released hnobody (asked := asked) (by rw [hu]) (by rw [hu]) (by rw [hu])
  have hrest := hjudged.repowered_rest hpowered
  generalize u.settle = t at hpowered hrest
  have htslot : ∀ d, t.slot d = u.slot d := fun d => by rw [hrest]; rfl
  have htd : t.feeder.d = u.feeder.d := d_congr (by rw [hrest])
  have hallowance : u.feeder.allowance = s.feeder.allowance := by rw [hu]
  have hover : u.feeder.overCommit = s.feeder.overCommit := by rw [hu]
  have horder : u.feeder.powerOrder = s.feeder.powerOrder := by rw [hu]
  have hzone : ∀ z, u.zone z = s.zone z := fun z => by rw [hu]; rfl
  have hpower : u.source .power = s.source .power := hsource nofun
  refine ⟨fun d => (htslot d).trans (hslot d), fun d => ?_, ?_, ⟨fun c hc hrel => ?_, fun hkeep => ?_⟩, ?_, fun z => ?_,
    fun k hk => ?_, fun y hy hyp => ?_, ?_⟩
  · rw [← hreservations d, hrest]
  · unfold RaisedOnce at harrived ⊢
    rw [hpowered.source, hjudged.sources .groupArrived (by simp)]; exact harrived
  · obtain ⟨hclear, hraise⟩ := hjudged.clears c (hover.trans hc) ⟨hasked.2 hrel.1, by rw [← htd, hallowance]; exact hrel.2⟩
    unfold RaisedOnce at hraise ⊢
    rw [hpowered.overCommit, hpowered.source, htd, ← hpower, ← hallowance]
    exact ⟨hclear, hraise⟩
  · rw [htd, ← hallowance, ← hasked, ← hover] at hkeep
    obtain ⟨hmark, hsame⟩ := hjudged.keeps hkeep
    exact ⟨hpowered.overCommit.trans (hmark.trans hover), (hpowered.source _).trans (hsame.trans hpower)⟩
  · rw [← horder, ← hjudged.powerOrder]; exact hpowered.order
  · rw [← hzone z, ← hjudged.zone z]; exact hpowered.zone z
  · obtain ⟨hgroup, hstream⟩ := hothers hk
    rw [← hgroup, ← hstream, hrest]; exact ⟨rfl, rfl⟩
  · rw [hpowered.source, hjudged.sources y hyp]; exact hsource hy
  · rw [hrest, hu, hj, hr, hc]; rfl

/-- Settles O10: with no entry the limits check and the coast limit decide, the finish mark passes the group on, and a halted group
is sent zero steps or none. -/
theorem emptyStreamCoastsStarvesOrFinishes : Obligations.EmptyStreamCoastsStarvesOrFinishes := by
  unfold Obligations.EmptyStreamCoastsStarvesOrFinishes
  intro s g hr hothers ds steps
  have hexec := exec_frameStart_single hr hothers
  refine ⟨?empty, fun hx hf => ?finish, fun hx hq => ?halted⟩
  case empty =>
    intro hx hq hf hl hb x coasts starves
    rw [consume_empty (s := s.nextFrame) hx hf hl hb] at hexec
    have hstarves : ∀ c, starves (s.nextFrame.starve g c) c := starve_spec s g
    by_cases hcoast : coasts
    · by_cases hpass : ∀ d ∈ ds, s.PassesCheck x.lastAz x.lastEl d
      · have hframe := (streamFrame_nextFrame g [] s).coasts
        rw [coastStep_passes (s := s.nextFrame) hcoast hpass, hframe.settle hq] at hexec
        exact ⟨_, hexec, fun _ _ => ⟨hframe, coasts_group s.nextFrame, coasts_stream s.nextFrame, coasts_slot s.nextFrame⟩,
          fun _ ⟨d, hd, hno⟩ => absurd (hpass d hd) hno, fun h => absurd hcoast h⟩
      · obtain ⟨f, hfirst, hstep⟩ := coastStep_fails (s := s.nextFrame) hcoast hpass
        rw [hstep, (hstarves _).1.settle hq] at hexec
        exact ⟨_, hexec, fun _ h => absurd h hpass, fun _ _ => ⟨f, hfirst, hstarves _⟩, fun h => absurd hcoast h⟩
    · rw [coastStep_limit (s := s.nextFrame) hcoast, (hstarves _).1.settle hq] at hexec
      exact ⟨_, hexec, fun h => absurd h hcoast, fun h => absurd h hcoast, fun _ => hstarves _⟩
  case finish =>
    rw [consume_finish (s := s.nextFrame) hx hf] at hexec
    have hgroup := passFinish_group s.nextFrame g
    obtain ⟨hkept, hstream⟩ := (spares_settle (s.nextFrame.passFinish g)).group g (by rw [hgroup]; rfl)
    refine ⟨_, hexec, hkept.trans hgroup, hstream.trans (passFinish_stream s.nextFrame g),
      (within_settle _).pending _ (passFinish_pending s.nextFrame g), fun hq hn => ?_⟩
    have h := passFinish_settled (s := s.nextFrame) hq hn g
    generalize (s.nextFrame.passFinish g).settle = t at h
    have hframed : t.ring.framed = s.nextFrame.ring.framed := by rw [h.rest]
    refine ⟨h.slot, h.reservations, h.arrived, h.restored, h.order, h.zone, fun d => ?_, h.others, h.sources, ?_⟩
    · rw [hframed]; exact nextFrame_framed s d
    · rw [hframed]; exact h.rest
  case halted =>
    rw [consume_halted (s := s.nextFrame) hx] at hexec
    have hframe := streamFrame_nextFrame g [] s
    by_cases hstarved : (s.stream g).starved = true
    · have hsteps := hframe.writeSteps 0 0
      rw [if_pos (show (s.nextFrame.stream g).starved = true from hstarved), hsteps.settle hq] at hexec
      exact ⟨_, hexec, hsteps, writeSteps_group _ _ _ _ _, writeSteps_stream _ _ _ _ _,
        fun _ d => writeSteps_slot _ _ _ _ d, fun h => by rw [hstarved] at h; cases h⟩
    · rw [if_neg (show ¬ (s.nextFrame.stream g).starved = true from hstarved), hframe.settle hq] at hexec
      exact ⟨_, hexec, hframe, rfl, rfl, fun h => absurd h hstarved, fun _ _ => rfl⟩

end Sys2Proof.Machine
end

section
/-! WRITE CONFIG, sections TRACK, MELT, STATION and WIND: how each is judged, and what a write that is taken leaves (R75, R90, R98,
R126, R160, R172). -/

namespace Sys2Proof.Machine

/-! ## The judgement of a section (R172) -/

/-- A write is taken exactly where its items are valid, and otherwise refused with BAD_FIELD (R172; log 6). -/
theorem judgeWrite_cases {s take : State} {any constraint : Bool} {oks : List Bool} {valid : Prop}
    (h : any = true ∧ (∀ b ∈ oks, b = true) ∧ constraint = true ↔ valid) :
    (valid → s.judgeWrite .safety any oks constraint take = take)
      ∧ (¬ valid → ∃ b n, s.judgeWrite .safety any oks constraint take
          = { s.putHolder .safety (some ⟨0x2B, .badField, [b]⟩) with fresh := n }) :=
  ⟨fun hv => judgeWrite_taken (h.2 hv), fun hv => judgeWrite_refused fun hj => hv (h.1 hj)⟩

/-- A request whose block refuses it is answered with the refusal. -/
theorem refused_of_judged {i : Instr} {s u : State} (hexec : exec i s = .next u)
    (h : ∃ b n, u = { s.putHolder .safety (some ⟨0x2B, .badField, [b]⟩) with fresh := n }) :
    ∃ b n, exec i s = .next { s.putHolder .safety (some ⟨0x2B, .badField, [b]⟩) with fresh := n } := by
  obtain ⟨b, n, hu⟩ := h
  exact ⟨b, n, hexec.trans (congrArg _ hu)⟩

/-- A value carried lies between the bounds. -/
abbrev Bounds (lo hi : Nat) (x : Option Nat) : Prop := ∀ n, x = some n → lo ≤ n ∧ n ≤ hi

/-! ## Section TRACK (R75) -/

section
variable {s : State}

theorem exec_writeConfigTrack (hh : s.hears .safety = true) (f : TrackConfigFields) :
    exec (.writeConfigTrack .safety (.fields f)) s = .next (
      s.judgeWrite .safety (f.coastLimit.isSome || f.lowMark.isSome) [inRange 0 40 f.coastLimit, inRange 0 63 f.lowMark] true
        ({ s with settings := { s.settings with track := trackAfter f s.settings.track } }.written
          { s with settings := { s.settings with track := trackAfter f s.settings.track } }.trackSection)) :=
  serve_taken hh rfl _ _

theorem trackItems_iff {f : TrackConfigFields} : (f.coastLimit.isSome || f.lowMark.isSome) = true ↔ f ≠ ⟨none, none⟩ := by
  obtain ⟨x1, x2⟩ := f
  simp only [ne_eq, TrackConfigFields.mk.injEq, Bool.or_eq_true, Option.isSome_iff_ne_none]
  tauto

theorem validTrack_iff {f : TrackConfigFields} :
    ((f.coastLimit.isSome || f.lowMark.isSome) = true
      ∧ (∀ b ∈ [inRange 0 40 f.coastLimit, inRange 0 63 f.lowMark], b = true) ∧ true = true)
      ↔ f ≠ ⟨none, none⟩ ∧ Bounds 0 40 f.coastLimit ∧ Bounds 0 63 f.lowMark := by
  simp only [trackItems_iff, List.forall_mem_cons, inRange_iff, List.not_mem_nil, false_implies, implies_true, and_true]

/-! ## Section MELT (R126) -/

theorem exec_writeConfigMelt (hh : s.hears .safety = true) (f : MeltConfigFields) :
    exec (.writeConfigMelt .safety (.fields f)) s = .next (
      s.judgeWrite .safety (f.rim.isSome || f.inner.isSome || f.subref.isSome || f.slot.isSome)
        [inRange 1 1000 f.rim, inRange 1 1000 f.inner, inRange 1 1000 f.subref, inRange 10 600 f.slot] true
        ({ s with settings := { s.settings with melt := meltAfter f s.settings.melt } }.written
          { s with settings := { s.settings with melt := meltAfter f s.settings.melt } }.meltSection)) :=
  serve_taken hh rfl _ _

theorem meltItems_iff {f : MeltConfigFields} :
    (f.rim.isSome || f.inner.isSome || f.subref.isSome || f.slot.isSome) = true ↔ f ≠ ⟨none, none, none, none⟩ := by
  obtain ⟨x1, x2, x3, x4⟩ := f
  simp only [ne_eq, MeltConfigFields.mk.injEq, Bool.or_eq_true, Option.isSome_iff_ne_none]
  tauto

theorem validMelt_iff {f : MeltConfigFields} :
    ((f.rim.isSome || f.inner.isSome || f.subref.isSome || f.slot.isSome) = true
      ∧ (∀ b ∈ [inRange 1 1000 f.rim, inRange 1 1000 f.inner, inRange 1 1000 f.subref, inRange 10 600 f.slot], b = true)
      ∧ true = true)
      ↔ f ≠ ⟨none, none, none, none⟩ ∧ Bounds 1 1000 f.rim ∧ Bounds 1 1000 f.inner ∧ Bounds 1 1000 f.subref
        ∧ Bounds 10 600 f.slot := by
  simp only [meltItems_iff, List.forall_mem_cons, inRange_iff, List.not_mem_nil, false_implies, implies_true, and_true]

end

/-! ## Section STATION (R160) -/

section
variable {α : Type} {n : Nat} {v : Vector α n}

theorem forall_mem_toList_iff {p : α → Prop} : (∀ x ∈ v.toList, p x) ↔ ∀ i : Fin n, p v[i] := by
  simp only [Vector.mem_toList_iff, Vector.mem_iff_getElem]
  exact ⟨fun h i => h _ ⟨i.val, i.isLt, rfl⟩, fun h x ⟨i, hi, hx⟩ => hx ▸ h ⟨i, hi⟩⟩

theorem any_toList_iff {p : α → Bool} : v.toList.any p = true ↔ ∃ i : Fin n, p v[i] = true := by
  rw [List.any_eq_true]
  simp only [Vector.mem_toList_iff, Vector.mem_iff_getElem]
  exact ⟨fun ⟨x, ⟨i, hi, hx⟩, hp⟩ => ⟨⟨i, hi⟩, by rw [← hx] at hp; exact hp⟩, fun ⟨i, hp⟩ => ⟨_, ⟨i.val, i.isLt, rfl⟩, hp⟩⟩

end

section
variable {s : State} {f : StationConfigFields}

theorem exec_writeConfigStation (hh : s.hears .safety = true) (f : StationConfigFields) :
    exec (.writeConfigStation .safety (.fields f)) s = .next (
      s.judgeWrite .safety (f.addresses.toList.any Option.isSome || f.enabled.toList.any Option.isSome)
        (f.addresses.toList.map (inRange 0x08 0x77)) (addressesDistinct (stationsAfter f s.settings.station))
        ((s.putStations (stationsAfter f s.settings.station)).written
          (s.putStations (stationsAfter f s.settings.station)).stationSection)) := serve_taken hh rfl _ _

theorem stationItems_iff : (f.addresses.toList.any Option.isSome || f.enabled.toList.any Option.isSome) = true ↔
    ∃ n : StationId, f.addresses[n] ≠ none ∨ f.enabled[n] ≠ none := by
  simp only [Bool.or_eq_true, any_toList_iff, Option.isSome_iff_ne_none, exists_or]

theorem addressesDistinct_iff {v : Vector StationSettings 4} : addressesDistinct v = true ↔
    ∀ a b : StationId, v[a].enabled = true → v[b].enabled = true → v[a].address = v[b].address → a = b := by
  simp only [addressesDistinct, List.all_eq_true, List.mem_finRange, true_implies, Bool.or_eq_true, decide_eq_true_eq,
    Bool.not_eq_true', ← Bool.not_eq_true]
  exact forall_congr' fun a => forall_congr' fun b => by tauto

theorem validStation_iff {v : Vector StationSettings 4} :
    ((f.addresses.toList.any Option.isSome || f.enabled.toList.any Option.isSome) = true
      ∧ (∀ b ∈ f.addresses.toList.map (inRange 0x08 0x77), b = true) ∧ addressesDistinct v = true)
      ↔ (∃ n : StationId, f.addresses[n] ≠ none ∨ f.enabled[n] ≠ none)
        ∧ (∀ n : StationId, Bounds 0x08 0x77 f.addresses[n])
        ∧ ∀ a b : StationId, v[a].enabled = true → v[b].enabled = true → v[a].address = v[b].address → a = b := by
  rw [stationItems_iff, addressesDistinct_iff, List.forall_mem_map, forall_mem_toList_iff]
  simp only [inRange_iff]

end

/-! ## Section WIND (R90, R98) -/

section
variable {s : State} {f : WindConfigFields}

/-- The section set, and the stow's answer to it settled. -/
def State.windWritten (s : State) (w : WindSettings) : State := ((s.putWind w).answerWind s).settle

theorem exec_writeConfigWind (hh : s.hears .safety = true) (f : WindConfigFields) :
    exec (.writeConfigWind .safety (.fields f)) s = .next (
      s.judgeWrite .safety (windItems f) (windRanges f)
        (decide ((windAfter f s.settings.wind).releaseGust < (windAfter f s.settings.wind).tripGust))
        ((s.windWritten (windAfter f s.settings.wind)).written (s.windWritten (windAfter f s.settings.wind)).windSection)) :=
  serve_taken hh rfl _ _

theorem windItems_iff : windItems f = true ↔ f ≠ ⟨none, none, none, none, none, none⟩ := by
  obtain ⟨x1, x2, x3, x4, x5, x6⟩ := f
  simp only [windItems, ne_eq, WindConfigFields.mk.injEq, Bool.or_eq_true, Option.isSome_iff_ne_none]
  tauto

theorem validWind_iff {w : WindSettings} :
    (windItems f = true ∧ (∀ b ∈ windRanges f, b = true) ∧ decide (w.releaseGust < w.tripGust) = true)
      ↔ f ≠ ⟨none, none, none, none, none, none⟩ ∧ Bounds 1 1000 f.tripGust ∧ Bounds 1 1000 f.watchMean
        ∧ Bounds 1 1000 f.releaseGust ∧ Bounds 2 60 f.staleness ∧ Bounds 1 6 f.staleTrip ∧ Bounds 60 3600 f.holdOff
        ∧ w.releaseGust < w.tripGust := by
  simp only [windItems_iff, windRanges, List.forall_mem_cons, inRange_iff, List.not_mem_nil, false_implies, implies_true,
    decide_eq_true_eq, true_and, and_assoc]

theorem plainTrigger_inForce (s : State) : s.plainTrigger.stowInForce = true := by
  unfold State.plainTrigger
  split
  · next ha => simp [State.stowInForce, ha, StowState.inForce]
  · exact enterActive_inForce s

/-- The stale-count trigger of a write brings the stow in force, and the rounds of its step leave it so (R98, R99). -/
theorem judgeStaleWrite_inForce {before else_ : State} (h1 : before.staleCount < before.settings.wind.staleTrip)
    (h2 : s.settings.wind.staleTrip ≤ s.staleCount) : (s.judgeStaleWrite before else_).settle.stowInForce = true := by
  unfold State.judgeStaleWrite
  rw [if_pos ⟨h1, h2⟩]
  exact (forceStep_settle (plainTrigger_inForce s)).inForce

theorem within_windWritten (s : State) (w : WindSettings) : Within (s.putWind w) (s.windWritten w) :=
  (within_answerWind _ s).trans (within_settle _)

theorem windWritten_inForce {w : WindSettings} (h1 : s.staleCount < s.settings.wind.staleTrip) (h2 : w.staleTrip ≤ s.staleCount) :
    (s.windWritten w).stowInForce = true := by
  have hne : w.staleTrip ≠ s.settings.wind.staleTrip := by omega
  have hanswer : (s.putWind w).answerWind s = (s.putWind w).judgeStaleWrite s (s.putWind w).judgeRelease := if_neg hne
  unfold State.windWritten
  rw [hanswer]; exact judgeStaleWrite_inForce h1 h2

theorem windWritten_of_quiet {w : WindSettings} (hq : s.Quiet) (h : w.staleTrip = s.settings.wind.staleTrip) :
    s.windWritten w = s.putWind w := by
  have hanswer : (s.putWind w).answerWind s = s.putWind w := if_pos h
  unfold State.windWritten
  rw [hanswer]; exact settle_of_quiet _ hq

end

/-- The answer to a write changes the ports alone, as it would have changed those before the write. -/
theorem written_fixed {s u : State} {x : Fixed} (h : u.fixed = x) (hp : u.ports = s.ports) (bs : List Byte) :
    (u.written bs).fixed = { x with ports := (s.putHolder .safety ((u.written bs).holder .safety)).ports } := by
  rw [← written_ports hp, ← h]; rfl

end Sys2Proof.Machine
end

section
/-! WRITE CONFIG, section MAST: what a write of configured flags leaves of each mast, and when it brings the stow in force (R91, R98,
R172); and all sections but DISH together. -/

namespace Sys2Proof.Machine

/-! ## Writes that change configured flags and the wind alone -/

/-- Of the fixed part nothing has changed between the two states but the configured flags and the Wind Monitor. -/
def MastsOnly (s t : State) : Prop :=
  t.fixed = { s.fixed with settings := { s.settings with mastConfigured := t.settings.mastConfigured }, wind := t.wind }

section
variable {s t u : State}

theorem MastsOnly.refl (s : State) : MastsOnly s s := rfl

theorem MastsOnly.settings_eq (h : MastsOnly s t) : t.settings = { s.settings with mastConfigured := t.settings.mastConfigured } :=
  congrArg Fixed.settings h

theorem MastsOnly.clock_eq (h : MastsOnly s t) : t.clock = s.clock := congrArg Fixed.clock h

theorem MastsOnly.ports_eq (h : MastsOnly s t) : t.ports = s.ports := congrArg Fixed.ports h

theorem MastsOnly.wind_eq (h : MastsOnly s t) : t.settings.wind = s.settings.wind := by rw [h.settings_eq]

theorem MastsOnly.trans (h : MastsOnly s t) (k : MastsOnly t u) : MastsOnly s u := by
  unfold MastsOnly at h k ⊢
  rw [k, MastsOnly.settings_eq h, h]

theorem Within.mastsOnly (h : Within s t) : MastsOnly s t := by
  unfold MastsOnly
  rw [h.fixed, h.settings_eq, h.wind_eq]; rfl

theorem mastsOnly_setMast (m : MastId) (x : Mast) : MastsOnly s (s.setMast m x) := rfl

theorem mastsOnly_putConfigured (m : MastId) (b : Bool) : MastsOnly s (s.putConfigured m b) := rfl

theorem mastsOnly_offerSnapshot (m : MastId) (x : SnapEntry) : MastsOnly s (s.offerSnapshot m x) := by
  unfold State.offerSnapshot; split
  · unfold State.capture
    exact MastsOnly.trans (t := { s with wind := _ }) rfl (within_raise _ _ _).mastsOnly
  · exact .refl s

end

/-! ## One mast (R91) -/

/-- A mast's configured flag and record. -/
def State.mastView (s : State) (m : MastId) : Bool × Mast := (s.settings.mastConfigured[m], s.wind.masts[m])

/-- A mast that is newly configured, its staleness timer to expire at the clock value given (R91). -/
def Mast.awaited (expiry : Nat) : Mast := { state := .notSeen, mean := 0, gust := 0, level := none, timer := some expiry }

/-- A mast's configured flag and record after a write carries the flag given, or none (R91). -/
def flagWritten (expiry : Nat) (flag : Option Bool) (x : Bool × Mast) : Bool × Mast :=
  match flag with
  | none => x
  | some b => if b = x.1 then x else (b, if b then .awaited expiry else { x.2 with level := none, timer := none })

/-- The clock value at which a staleness timer started now expires. -/
def State.staleAt (s : State) : Nat := s.clock + s.settings.wind.staleness * 1000

section
variable {s t : State} {flags : Vector (Option Bool) 6} {m k : MastId}

theorem MastsOnly.staleAt_eq (h : MastsOnly s t) : t.staleAt = s.staleAt := by
  unfold State.staleAt; rw [h.clock_eq, h.wind_eq]

theorem Within.mastView_eq (h : Within s t) (m : MastId) : t.mastView m = s.mastView m := by
  unfold State.mastView; rw [h.settings_eq, h.wind_eq]

theorem offerSnapshot_view (x : SnapEntry) : (s.offerSnapshot k x).mastView m = s.mastView m := by
  unfold State.offerSnapshot; split <;> rfl

theorem putMast_view (b : Bool) (x : Mast) :
    ((s.putConfigured k b).setMast k x).mastView m = if m = k then (b, x) else s.mastView m := by
  have hflag : (s.settings.mastConfigured.set k b)[m.val] = if m = k then b else s.settings.mastConfigured[m.val] := set_get _ _ _ _
  have hmast : (s.wind.masts.set k x)[m.val] = if m = k then x else s.wind.masts[m.val] := set_get _ _ _ _
  change ((s.settings.mastConfigured.set k b)[m.val], (s.wind.masts.set k x)[m.val]) = _
  rw [hflag, hmast]
  split <;> rfl

theorem mastsOnly_writeMast (flags : Vector (Option Bool) 6) (s : State) (m : MastId) :
    MastsOnly s (State.writeMast flags s m) := by
  unfold State.writeMast; split
  · exact .refl s
  · split
    · exact .refl s
    · exact ((mastsOnly_putConfigured _ _).trans (mastsOnly_setMast _ _)).trans (mastsOnly_offerSnapshot _ _)

theorem writeMast_view (flags : Vector (Option Bool) 6) (s : State) (k m : MastId) :
    (State.writeMast flags s k).mastView m = if m = k then flagWritten s.staleAt flags[k] (s.mastView k) else s.mastView m := by
  have hsame : ∀ x : Bool × Mast, x = s.mastView k → s.mastView m = if m = k then x else s.mastView m := fun x hx => by
    split
    · next h => rw [h, hx]
    · rfl
  unfold State.writeMast flagWritten
  cases flags[k] with
  | none => exact hsame _ rfl
  | some b =>
    by_cases hb : b = s.settings.mastConfigured[k]
    · have hb' : b = (s.mastView k).1 := hb
      simp only [if_pos hb, if_pos hb']
      exact hsame _ rfl
    · have hb' : ¬ b = (s.mastView k).1 := hb
      simp only [if_neg hb, if_neg hb']
      exact (offerSnapshot_view _).trans (putMast_view b _)

theorem mastsOnly_judgeMast (flags : Vector (Option Bool) 6) (s : State) (m : MastId) :
    MastsOnly s (State.judgeMast flags s m) := by
  have h := mastsOnly_writeMast flags s m
  unfold State.judgeMast; dsimp only
  split
  · exact h
  · exact h.trans (within_judgeWeather _).mastsOnly

theorem judgeMast_view (flags : Vector (Option Bool) 6) (s : State) (k m : MastId) :
    (State.judgeMast flags s k).mastView m = if m = k then flagWritten s.staleAt flags[k] (s.mastView k) else s.mastView m := by
  rw [← writeMast_view]
  unfold State.judgeMast; dsimp only
  split
  · rfl
  · exact (within_judgeWeather _).mastView_eq m

/-! ## All masts of a write -/

/-- Mast by mast, each is written once. -/
theorem foldMasts_view {f : State → MastId → State} (ho : ∀ s m, MastsOnly s (f s m))
    (hv : ∀ s k m, (f s k).mastView m = if m = k then flagWritten s.staleAt flags[k] (s.mastView k) else s.mastView m)
    (ms : List MastId) (hn : ms.Nodup) (s : State) : MastsOnly s (ms.foldl f s)
      ∧ ∀ m, (ms.foldl f s).mastView m = if m ∈ ms then flagWritten s.staleAt flags[m] (s.mastView m) else s.mastView m := by
  induction ms generalizing s with
  | nil => exact ⟨.refl s, fun m => (if_neg List.not_mem_nil).symm⟩
  | cons k ms ih =>
    obtain ⟨hk, hn⟩ := List.nodup_cons.1 hn
    obtain ⟨honly, hview⟩ := ih hn (f s k)
    refine ⟨(ho s k).trans honly, fun m => ?_⟩
    rw [List.foldl_cons, hview, hv, (ho s k).staleAt_eq]
    by_cases hmk : m = k
    · subst hmk; simp [hk]
    · simp [hmk]

theorem nodup_allMasts : allMasts.Nodup := List.nodup_finRange 6

theorem mem_allMasts (m : MastId) : m ∈ allMasts := List.mem_finRange m

/-- From the first state to the second the flags of a write have been taken: each mast is as the write makes it. -/
structure FlagsTaken (flags : Vector (Option Bool) 6) (s t : State) : Prop where
  only : MastsOnly s t
  view : ∀ m, t.mastView m = flagWritten s.staleAt flags[m] (s.mastView m)

theorem FlagsTaken.within {u : State} (h : FlagsTaken flags s t) (k : Within t u) : FlagsTaken flags s u :=
  ⟨h.only.trans k.mastsOnly, fun m => (k.mastView_eq m).trans (h.view m)⟩

theorem flagsTaken_writeMasts (s : State) (flags : Vector (Option Bool) 6) : FlagsTaken flags s (s.writeMasts flags) := by
  obtain ⟨honly, hview⟩ := foldMasts_view (mastsOnly_writeMast flags) (writeMast_view flags) allMasts nodup_allMasts s
  exact ⟨honly, fun m => (hview m).trans (if_pos (mem_allMasts m))⟩

theorem flagsTaken_judgeMasts (s : State) (flags : Vector (Option Bool) 6) : FlagsTaken flags s (s.judgeMasts flags) := by
  obtain ⟨honly, hview⟩ := foldMasts_view (mastsOnly_judgeMast flags) (judgeMast_view flags) allMasts nodup_allMasts s
  exact ⟨honly, fun m => (hview m).trans (if_pos (mem_allMasts m))⟩

theorem flagsTaken_takeMasts (s : State) (flags : Vector (Option Bool) 6) : FlagsTaken flags s (s.takeMasts flags) := by
  unfold State.takeMasts State.judgeStaleWrite; split
  · exact (flagsTaken_writeMasts s flags).within (within_plainTrigger _)
  · exact flagsTaken_judgeMasts s flags

theorem staleCount_congr (h : ∀ m, t.mastView m = s.mastView m) : t.staleCount = s.staleCount := by
  unfold State.staleCount
  refine List.countP_congr fun m _ => ?_
  obtain ⟨hflag, hmast⟩ := Prod.mk.inj (h m)
  unfold State.countsStale
  rw [hflag, hmast]

/-- The flags of a write taken, and the stow's answer settled. -/
def State.mastsWritten (s : State) (flags : Vector (Option Bool) 6) : State := (s.takeMasts flags).settle

theorem flagsTaken_mastsWritten (s : State) (flags : Vector (Option Bool) 6) : FlagsTaken flags s (s.mastsWritten flags) :=
  (flagsTaken_takeMasts s flags).within (within_settle _)

/-- A write that brings the stale count to its trip brings the stow in force (R98). -/
theorem mastsWritten_inForce (h1 : s.staleCount < s.settings.wind.staleTrip)
    (h2 : s.settings.wind.staleTrip ≤ (s.mastsWritten flags).staleCount) : (s.mastsWritten flags).stowInForce = true := by
  have hwritten := flagsTaken_writeMasts s flags
  have hcount : (s.mastsWritten flags).staleCount = (s.writeMasts flags).staleCount :=
    staleCount_congr fun m => ((flagsTaken_mastsWritten s flags).view m).trans (hwritten.view m).symm
  refine judgeStaleWrite_inForce h1 ?_
  rw [hwritten.only.wind_eq, ← hcount]; exact h2

/-- What the write of a flag leaves, by the flag's change (R91). -/
theorem flagWritten_spec {expiry : Nat} {flag : Option Bool} {x y : Bool × Mast} (h : y = flagWritten expiry flag x) :
    y.1 = flag.getD x.1 ∧ (y.1 = x.1 → y.2 = x.2) ∧ (x.1 = false → y.1 = true → y.2 = .awaited expiry)
      ∧ (x.1 = true → y.1 = false → y.2 = { x.2 with level := none, timer := none }) := by
  obtain ⟨c, m⟩ := x
  rw [h]
  unfold flagWritten
  cases flag with
  | none => cases c <;> simp
  | some b => cases b <;> cases c <;> simp

theorem exec_writeConfigMast (hh : s.hears .safety = true) (f : MastConfigFields) :
    exec (.writeConfigMast .safety (.fields f)) s = .next (
      s.judgeWrite .safety (f.flags.toList.any Option.isSome) [] true
        ((s.mastsWritten f.flags).written (s.mastsWritten f.flags).mastSection)) := serve_taken hh rfl _ _

theorem validMast_iff {f : MastConfigFields} :
    (f.flags.toList.any Option.isSome = true ∧ (∀ b ∈ ([] : List Bool), b = true) ∧ true = true)
      ↔ ∃ m : MastId, f.flags[m] ≠ none := by
  simp only [any_toList_iff, Option.isSome_iff_ne_none, List.not_mem_nil, false_implies, implies_true, and_true]

end

/-- Settles O49: each section's judgement decides between the refusal and the write, and the write is the section's new value with the
stow's answer settled. -/
theorem sectionsWritten : Obligations.SectionsWritten := by
  unfold Obligations.SectionsWritten
  intro s hh within refused written
  refine ⟨?track, ?melt, ?station, ?wind, ?mast⟩
  case track =>
    intro f valid
    have hexec := exec_writeConfigTrack hh f
    obtain ⟨htaken, hrefused⟩ := judgeWrite_cases (s := s) (validTrack_iff (f := f))
    exact ⟨fun hv => ⟨_, hexec.trans (congrArg _ (htaken hv))⟩, fun hv => refused_of_judged hexec (hrefused hv)⟩
  case melt =>
    intro f valid
    have hexec := exec_writeConfigMelt hh f
    obtain ⟨htaken, hrefused⟩ := judgeWrite_cases (s := s) (validMelt_iff (f := f))
    exact ⟨fun hv => ⟨_, hexec.trans (congrArg _ (htaken hv))⟩, fun hv => refused_of_judged hexec (hrefused hv)⟩
  case station =>
    intro f after valid
    have hexec := exec_writeConfigStation hh f
    obtain ⟨htaken, hrefused⟩ := judgeWrite_cases (s := s) (validStation_iff (f := f) (v := stationsAfter f s.settings.station))
    exact ⟨fun hv => ⟨_, hexec.trans (congrArg _ (htaken hv))⟩, fun hv => refused_of_judged hexec (hrefused hv)⟩
  case wind =>
    intro f w after valid
    have hexec := exec_writeConfigWind hh f
    obtain ⟨htaken, hrefused⟩ := judgeWrite_cases (s := s) (validWind_iff (f := f) (w := windAfter f w))
    refine ⟨fun hv => ?_, fun hv => refused_of_judged hexec (hrefused hv)⟩
    rw [htaken hv] at hexec
    have hwithin := within_windWritten s after
    refine ⟨⟨_, _, hexec, rfl, written_fixed hwithin.fixed hwithin.ports_eq _, windWritten_inForce⟩, fun hq hsame => ⟨_, hexec.trans (congrArg (fun u : State =>
      Host.Outcome.next (u.written (s.windWritten after).windSection)) (windWritten_of_quiet hq hsame))⟩⟩
  case mast =>
    intro f valid
    have hexec := exec_writeConfigMast hh f
    obtain ⟨htaken, hrefused⟩ := judgeWrite_cases (s := s) (validMast_iff (f := f))
    refine ⟨fun hv => ?_, fun hv => refused_of_judged hexec (hrefused hv)⟩
    rw [htaken hv] at hexec
    obtain ⟨honly, hview⟩ := flagsTaken_mastsWritten s f.flags
    exact ⟨_, _, hexec, rfl, fun m => flagWritten_spec (hview m), written_fixed honly honly.ports_eq _, mastsWritten_inForce⟩

end Sys2Proof.Machine
end

section
/-! The weather snapshot opened, and captured at once where a mast differs from its entry (R95, R97). -/

namespace Sys2Proof.Machine

/-! ## RESET WEATHER SNAPSHOT (R97) -/

/-- The snapshot opened, and captured at once where some mast differs from its entry. -/
def State.snapshotReopened (s : State) : State :=
  match s.openSnapshot.differingMast with
  | some m => s.openSnapshot.capture m s.openSnapshot.wind.snapshot[m]
  | none => s.openSnapshot

section
variable {s : State}

theorem exec_resetWeatherSnapshot (hh : s.hears .safety = true) :
    exec (.resetWeatherSnapshot .safety (.fields {})) s = .next
      (s.snapshotReopened.answer .safety .resetWeatherSnapshot .ok (u8 (!s.snapshotReopened.wind.snapOpen).toNat)) :=
  serve_taken hh rfl _ _

theorem differingMast_eq_some {m : MastId} : s.differingMast = some m ↔
    s.wind.snapshot[m] ≠ s.snapOf m ∧ ∀ k, k < m → s.wind.snapshot[k] = s.snapOf k := by
  unfold State.differingMast allMasts
  simp only [find?_finRange_eq_some, decide_eq_true_eq, decide_eq_false_iff_not, Decidable.not_not]

theorem differingMast_eq_none : s.differingMast = none ↔ ∀ m : MastId, s.wind.snapshot[m] = s.snapOf m := by
  unfold State.differingMast
  simp only [List.find?_eq_none, mem_allMasts, true_implies, decide_eq_true_eq, Decidable.not_not]

theorem snapshotReopened_of_none (h : ∀ m : MastId, s.wind.snapshot[m] = s.snapOf m) : s.snapshotReopened = s.openSnapshot := by
  have hnone : s.openSnapshot.differingMast = none := differingMast_eq_none.2 h
  unfold State.snapshotReopened; rw [hnone]

theorem snapshotReopened_of_first {m : MastId} (hm : s.wind.snapshot[m] ≠ s.snapOf m)
    (hk : ∀ k, k < m → s.wind.snapshot[k] = s.snapOf k) : s.snapshotReopened = s.openSnapshot.capture m s.wind.snapshot[m] := by
  have hsome : s.openSnapshot.differingMast = some m := differingMast_eq_some.2 ⟨hm, hk⟩
  unfold State.snapshotReopened; rw [hsome]; rfl

theorem snapshotReopened_cases (s : State) :
    s.snapshotReopened = s.openSnapshot ∨ ∃ m x, s.snapshotReopened = s.openSnapshot.capture m x := by
  unfold State.snapshotReopened; split
  · exact .inr ⟨_, _, rfl⟩
  · exact .inl rfl

/-- A captured snapshot holds every mast as it stands, and WEATHER tells of the mast that changed (R95). -/
theorem capture_spec (s : State) (m : MastId) (x : SnapEntry) :
    (∀ k : MastId, (s.capture m x).wind.snapshot[k] = s.snapOf k)
      ∧ ((s.capture m x).source .weather).pending = true
      ∧ ((s.capture m x).source .weather).detail
        = some (.weatherCapture m x.state x.level s.wind.masts[m].state s.wind.masts[m].level) := by
  refine ⟨fun k => Vector.getElem_ofFn _, ?_⟩
  unfold State.capture
  rw [raise_source_self]
  exact raised_pending _ _

/-- The reset clears the trip-seen flags, and leaves all but the Wind Monitor and WEATHER as it was. -/
theorem snapshotReopened_rest (s : State) : s.snapshotReopened.wind.tripSeen = Vector.replicate 6 false
    ∧ s.snapshotReopened.wind.masts = s.wind.masts ∧ (∀ x, x ≠ .weather → s.snapshotReopened.source x = s.source x)
    ∧ s.snapshotReopened = { s with wind := s.snapshotReopened.wind, sources := s.snapshotReopened.sources } := by
  rcases snapshotReopened_cases s with h | ⟨m, x, h⟩ <;> rw [h]
  · exact ⟨rfl, rfl, fun _ _ => rfl, rfl⟩
  · exact ⟨rfl, rfl, fun _ hx => raise_source_ne hx _, rfl⟩

end

/-- Settles O44: the first differing mast decides between an open snapshot and a capture at once. -/
theorem snapshotReset : Obligations.SnapshotReset := by
  unfold Obligations.SnapshotReset
  intro s hh now
  obtain ⟨htrips, hmasts, hsources, hrest⟩ := snapshotReopened_rest s
  refine ⟨_, exec_resetWeatherSnapshot hh, fun m => ?_, hmasts, fun hsame => ?_, fun m hm hk => ?_, hsources, ?_⟩
  · change s.snapshotReopened.wind.tripSeen[m] = false
    rw [htrips]; exact Vector.getElem_replicate _
  · rw [snapshotReopened_of_none hsame]; exact ⟨rfl, rfl, rfl, rfl, rfl⟩
  · obtain ⟨hsnap, hpending, hdetail⟩ := capture_spec s.openSnapshot m s.wind.snapshot[m]
    rw [snapshotReopened_of_first hm hk]
    exact ⟨rfl, hsnap, rfl, hpending, hdetail, rfl⟩
  · exact congrArg (fun u : State => u.answer .safety .resetWeatherSnapshot .ok (u8 (!s.snapshotReopened.wind.snapOpen).toNat)) hrest

end Sys2Proof.Machine
end

section
/-! A mast's record set, with what the snapshot and the trip-seen flags make of it (R95, R96), which a wind sample and a staleness
expiry have in common; the trip trigger (R99), and WIND SAMPLE (R92, R94). -/

namespace Sys2Proof.Machine

/-! ## A mast's record set -/

/-- A mast's record set, the change offered to the snapshot and noted in the trip-seen flags. -/
def State.recordMast (s : State) (m : MastId) (x : Mast) : State :=
  ((s.setMast m x).offerSnapshot m (s.snapOf m)).noteTrip m (s.snapOf m).level

/-- The record given has another state or level than the mast's present one. -/
def State.Differs (s : State) (m : MastId) (x : Mast) : Prop :=
  s.wind.masts[m].state ≠ x.state ∨ s.wind.masts[m].level ≠ x.level

section
variable {s t : State} {m k : MastId} {x : Mast}

theorem takeSample_eq (s : State) (m : MastId) (mean gust : Nat) :
    s.takeSample m mean gust = (s.recordMast m (s.sampled mean gust)).answerSample m (s.snapOf m) := rfl

theorem goStale_eq (s : State) (m : MastId) : s.goStale m =
    if (s.recordMast m s.wind.masts[m].silenced).settings.wind.staleTrip
        ≤ (s.recordMast m s.wind.masts[m].silenced).staleCount
      then (s.recordMast m s.wind.masts[m].silenced).plainTrigger
      else (s.recordMast m s.wind.masts[m].silenced).judgeWeather := rfl

theorem setMast_mast (s : State) (m k : MastId) (x : Mast) :
    (s.setMast m x).wind.masts[k] = if k = m then x else s.wind.masts[k] := set_get _ _ _ _

theorem setMast_snapOf : (s.setMast m x).snapOf m = ⟨s.settings.mastConfigured[m], x.state, x.level⟩ := by
  unfold State.snapOf; rw [setMast_mast, if_pos rfl]; rfl

theorem snapOf_ne_iff : s.snapOf m ≠ (s.setMast m x).snapOf m ↔ s.Differs m x := by
  rw [setMast_snapOf, State.Differs, State.snapOf, ne_eq, SnapEntry.mk.injEq]
  tauto

/-- The snapshot's answer to a change. -/
theorem offerSnapshot_cases (s : State) (m : MastId) (e : SnapEntry) :
    (s.wind.snapOpen = true ∧ e ≠ s.snapOf m ∧ s.offerSnapshot m e = s.capture m e)
      ∨ (¬ (s.wind.snapOpen = true ∧ e ≠ s.snapOf m) ∧ s.offerSnapshot m e = s) := by
  unfold State.offerSnapshot
  by_cases h : s.wind.snapOpen = true ∧ e ≠ s.snapOf m
  · exact .inl ⟨h.1, h.2, if_pos (by simpa using h)⟩
  · exact .inr ⟨h, if_neg (by simpa using h)⟩

theorem offerSnapshot_keeps (s : State) (m : MastId) (e : SnapEntry) :
    (s.offerSnapshot m e).wind.masts = s.wind.masts ∧ (s.offerSnapshot m e).wind.tripSeen = s.wind.tripSeen := by
  rcases offerSnapshot_cases s m e with ⟨-, -, h⟩ | ⟨-, h⟩ <;> (rw [h]; exact ⟨rfl, rfl⟩)

/-- Of the wind, the noting of a trip changes the trip-seen flags alone. -/
theorem noteTrip_wind (s : State) (m : MastId) (l : Option Level) : (s.noteTrip m l).wind = { s.wind with
    tripSeen := if crossesTrip l s.wind.masts[m].level then s.wind.tripSeen.set m true else s.wind.tripSeen } := by
  unfold State.noteTrip; dsimp only; split <;> rfl

theorem mastsOnly_noteTrip (m : MastId) (l : Option Level) : MastsOnly s (s.noteTrip m l) := by
  unfold State.noteTrip; dsimp only; split
  · exact MastsOnly.trans (t := { s with wind := _ }) rfl (within_raise _ _ _).mastsOnly
  · exact .refl s

theorem recordMast_mastsOnly : MastsOnly s (s.recordMast m x) :=
  (mastsOnly_setMast m x).trans <| (mastsOnly_offerSnapshot _ _).trans (mastsOnly_noteTrip _ _)

/-- A mast's record set changes the Wind Monitor and the attention sources alone. -/
theorem recordMast_rest (s : State) (m : MastId) (x : Mast) :
    s.recordMast m x = { s with wind := (s.recordMast m x).wind, sources := (s.recordMast m x).sources } := by
  unfold State.recordMast State.noteTrip State.offerSnapshot; dsimp only
  split <;> split <;> rfl

theorem recordMast_settings : (s.recordMast m x).settings = s.settings := by rw [recordMast_rest]

theorem recordMast_masts : (s.recordMast m x).wind.masts = (s.setMast m x).wind.masts := by
  unfold State.recordMast; rw [noteTrip_wind]
  exact (offerSnapshot_keeps _ _ _).1

theorem recordMast_mast (s : State) (m k : MastId) (x : Mast) :
    (s.recordMast m x).wind.masts[k] = if k = m then x else s.wind.masts[k] := by
  rw [recordMast_masts]; exact setMast_mast s m k x

/-- The trip-seen flag of a mast whose level passes into or out of TRIP is set, and no other is changed (R96). -/
theorem recordMast_tripSeen : (s.recordMast m x).wind.tripSeen =
    if crossesTrip s.wind.masts[m].level x.level then s.wind.tripSeen.set m true else s.wind.tripSeen := by
  unfold State.recordMast; rw [noteTrip_wind]
  have hmast : (s.setMast m x).wind.masts[m] = x := (setMast_mast s m m x).trans (if_pos rfl)
  obtain ⟨h1, h2⟩ := offerSnapshot_keeps (s.setMast m x) m (s.snapOf m)
  dsimp only
  rw [h1, h2, hmast]; rfl

theorem crossesTrip_iff {a b : Option Level} : crossesTrip a b = true ↔ a ≠ b ∧ (a = some .trip ∨ b = some .trip) := by
  simp [crossesTrip]

theorem recordMast_tripSeen_self (h : crossesTrip s.wind.masts[m].level x.level = true) :
    (s.recordMast m x).wind.tripSeen[m] = true := by
  rw [recordMast_tripSeen, if_pos h]; exact (set_get _ _ _ _).trans (if_pos rfl)

theorem recordMast_tripSeen_kept (h : crossesTrip s.wind.masts[m].level x.level = false ∨ k ≠ m) :
    (s.recordMast m x).wind.tripSeen[k] = s.wind.tripSeen[k] := by
  rw [recordMast_tripSeen]
  split
  · next hc =>
    rw [hc] at h
    exact (set_get _ _ _ _).trans (if_neg (h.resolve_left nofun))
  · rfl

/-- An open snapshot captures a change of a mast's state or level (R95). -/
theorem recordMast_captured (ho : s.wind.snapOpen = true) (hd : s.Differs m x) :
    (s.recordMast m x).wind.snapOpen = false ∧ (s.recordMast m x).wind.captureFrame = s.ring.frame
      ∧ ∀ k : MastId, (s.recordMast m x).wind.snapshot[k] = SnapEntry.mk s.settings.mastConfigured[k]
        (s.recordMast m x).wind.masts[k].state (s.recordMast m x).wind.masts[k].level := by
  rw [recordMast_masts]
  unfold State.recordMast; rw [noteTrip_wind]
  rcases offerSnapshot_cases (s.setMast m x) m (s.snapOf m) with ⟨-, -, h⟩ | ⟨h, -⟩
  · rw [h]; exact ⟨rfl, rfl, (capture_spec (s.setMast m x) m (s.snapOf m)).1⟩
  · exact absurd ⟨ho, snapOf_ne_iff.2 hd⟩ h

theorem recordMast_uncaptured (h : ¬ (s.wind.snapOpen = true ∧ s.Differs m x)) :
    (s.recordMast m x).wind.snapOpen = s.wind.snapOpen ∧ (s.recordMast m x).wind.captureFrame = s.wind.captureFrame
      ∧ (s.recordMast m x).wind.snapshot = s.wind.snapshot := by
  unfold State.recordMast; rw [noteTrip_wind]
  rcases offerSnapshot_cases (s.setMast m x) m (s.snapOf m) with ⟨h1, h2, -⟩ | ⟨-, h'⟩
  · exact absurd ⟨h1, snapOf_ne_iff.1 h2⟩ h
  · rw [h']; exact ⟨rfl, rfl, rfl⟩

/-- A record with the mast's own state and level is set, and nothing else is changed. -/
theorem recordMast_of_same (h : ¬ s.Differs m x) : s.recordMast m x = s.setMast m x := by
  have hlevel : (s.snapOf m).level = (s.setMast m x).wind.masts[m].level := by
    by_contra hl
    refine h (.inr ?_)
    rwa [setMast_mast, if_pos rfl] at hl
  have hoffer : (s.setMast m x).offerSnapshot m (s.snapOf m) = s.setMast m x := by
    rcases offerSnapshot_cases (s.setMast m x) m (s.snapOf m) with ⟨-, h2, -⟩ | ⟨-, h'⟩
    · exact absurd (snapOf_ne_iff.1 h2) h
    · exact h'
  unfold State.recordMast State.noteTrip
  rw [hoffer, hlevel]
  simp [crossesTrip]

end

/-! ## The fixed part through a change of masts -/

section
variable {s t : State}

theorem MastsOnly.fixed_eq (h : MastsOnly s t) (hs : t.settings = s.settings) : t.fixed = { s.fixed with wind := t.wind } := by
  unfold MastsOnly at h
  rw [h, hs]; rfl

/-- The answer to a request changes the ports alone, as it would have changed those before the request. -/
theorem putHolder_fixed {x : Fixed} (h : t.fixed = x) (hp : t.ports = s.ports) (r : Option Response) :
    (t.putHolder .safety r).fixed = { x with ports := (s.putHolder .safety r).ports } := by
  have hports : (t.putHolder .safety r).ports = (s.putHolder .safety r).ports := by
    change ({ t.ports with safetyAbandoned := false, safetyHolder := r } : Ports)
      = { s.ports with safetyAbandoned := false, safetyHolder := r }
    rw [hp]
  rw [← h, ← hports]; rfl

end

/-! ## The trip trigger (R99) -/

section
variable {s : State} {m : MastId}

theorem enterActive_tripOrder (s : State) : s.enterActive.stow.tripOrder = s.stow.tripOrder :=
  (spares_settle _).trips.symm.trans (enterActive_trips s)

theorem mem_noteTripOrder (s : State) (m : MastId) : m ∈ (s.noteTripOrder m).stow.tripOrder := by
  unfold State.noteTripOrder; split
  · next h => simpa using h
  · exact List.mem_append_right _ List.mem_cons_self

theorem noteTripOrder_state (s : State) (m : MastId) : (s.noteTripOrder m).stow.state = s.stow.state := by
  unfold State.noteTripOrder; split <;> rfl

/-- The trip trigger brings the stow in force and the mast into the trip order. -/
theorem tripTrigger_inForce (s : State) (m : MastId) :
    (s.tripTrigger m).stowInForce = true ∧ m ∈ (s.tripTrigger m).stow.tripOrder := by
  have henter : (s.noteTripOrder m).enterActive.stowInForce = true ∧ m ∈ (s.noteTripOrder m).enterActive.stow.tripOrder :=
    ⟨enterActive_inForce _, by rw [enterActive_tripOrder]; exact mem_noteTripOrder s m⟩
  cases hs : s.stow.state with
  | active =>
    have hstate := noteTripOrder_state s m
    simp only [State.tripTrigger, hs]
    split
    · next h => exact ⟨by simp [State.stowInForce, hs, StowState.inForce], by simpa using h⟩
    · refine ⟨?_, mem_noteTripOrder s m⟩
      change (s.noteTripOrder m).stow.state.inForce = true
      rw [hstate, hs]; rfl
  | clear | watch | stowedHold | calmWait => simpa only [State.tripTrigger, hs] using henter

/-- The rounds of the step leave a tripped mast in the trip order, and the stow in force. -/
theorem tripTrigger_settled (s : State) (m : MastId) :
    (s.tripTrigger m).settle.stowInForce = true ∧ m ∈ (s.tripTrigger m).settle.stow.tripOrder := by
  obtain ⟨hforce, hmem⟩ := tripTrigger_inForce s m
  exact ⟨(forceStep_settle hforce).inForce, by rw [(spares_settle _).trips]; exact hmem⟩

end

/-! ## WIND SAMPLE (R92, R94) -/

section
variable {s : State} {m : MastId} {n mean gust : Nat}

/-- A sample taken, and the stow's answer to it settled. -/
def State.sampleTaken (s : State) (m : MastId) (mean gust : Nat) : State := (s.takeSample m mean gust).settle

theorem sampledMast_of_configured (h : s.settings.mastConfigured[m] = true) : s.sampledMast m.val = some m := by
  have hconf : s.settings.mastConfigured[m.val] = true := h
  unfold State.sampledMast
  rw [dif_pos m.isLt, if_pos hconf]

theorem sampledMast_of_absent (h : ∀ m : MastId, n = m.val → s.settings.mastConfigured[m] = false) : s.sampledMast n = none := by
  unfold State.sampledMast
  split
  · next hn =>
    have hconf : s.settings.mastConfigured[n] = false := h ⟨n, hn⟩ rfl
    rw [hconf]; rfl
  · rfl

theorem exec_windSample_refused (hh : s.hears .safety = true) {f : WindSampleFields} (h : s.sampledMast f.mast = none) :
    exec (.windSample .safety (.fields f)) s = .next (s.putHolder .safety (some ⟨0x20, .badField, []⟩)) := by
  refine (serve_taken hh rfl _ _).trans ?_
  dsimp only
  rw [h]; rfl

theorem exec_windSample_taken (hh : s.hears .safety = true) {f : WindSampleFields} (h : s.sampledMast f.mast = some m) :
    exec (.windSample .safety (.fields f)) s = .next
      ((s.sampleTaken m (takenMean f.mean) (takenGust f.mean f.gust)).answer .safety .windSample .ok
        (u16 (takenMean f.mean) ++ u16 (takenGust f.mean f.gust)
          ++ u8 (levelOf s.settings.wind (takenMean f.mean) (takenGust f.mean f.gust)).place)) := by
  refine (serve_taken hh rfl _ _).trans ?_
  dsimp only
  rw [h]; rfl

theorem within_sampleTaken (s : State) (m : MastId) (mean gust : Nat) :
    Within (s.recordMast m (s.sampled mean gust)) (s.sampleTaken m mean gust) :=
  (within_answerSample _ _ _).trans (within_settle _)

/-- A mast's entry to TRIP is answered by the trip trigger (R99). -/
theorem sampleTaken_tripped (hl : levelOf s.settings.wind mean gust = .trip) (hf : s.wind.masts[m].level ≠ some .trip) :
    (s.sampleTaken m mean gust).stowInForce = true ∧ m ∈ (s.sampleTaken m mean gust).stow.tripOrder := by
  have hnew : (s.recordMast m (s.sampled mean gust)).wind.masts[m].level = some .trip := by
    rw [recordMast_mast, if_pos rfl]; exact congrArg some hl
  have hanswer : s.takeSample m mean gust = (s.recordMast m (s.sampled mean gust)).tripTrigger m := by
    rw [takeSample_eq]; exact if_pos ⟨hf, hnew⟩
  unfold State.sampleTaken
  rw [hanswer]; exact tripTrigger_settled _ m

/-- A sample that changes neither state nor level changes the masts' records alone. -/
theorem sampleTaken_of_same (hq : s.Quiet) (h : ¬ s.Differs m (s.sampled mean gust)) :
    s.sampleTaken m mean gust = { s with wind := { s.wind with masts := (s.sampleTaken m mean gust).wind.masts } } := by
  have hsnap : s.snapOf m = (s.setMast m (s.sampled mean gust)).snapOf m := by
    by_contra hne; exact h (snapOf_ne_iff.1 hne)
  have htake : s.takeSample m mean gust = s.setMast m (s.sampled mean gust) := by
    rw [takeSample_eq, recordMast_of_same h]
    unfold State.answerSample
    rw [if_neg, if_neg (fun hne => hne hsnap)]
    rintro ⟨hf, hn⟩
    exact hf ((congrArg SnapEntry.level hsnap).trans hn)
  have htaken : s.sampleTaken m mean gust = s.setMast m (s.sampled mean gust) := by
    unfold State.sampleTaken
    rw [htake]; exact settle_of_quiet _ hq
  rw [htaken]; rfl

end

/-- Settles O42: the mast's record set, the stow's answer judged on it, and rounds that leave the Wind Monitor alone. -/
theorem windSampleTaken : Obligations.WindSampleTaken := by
  unfold Obligations.WindSampleTaken
  intro f s hh w mean gust level
  refine ⟨fun habsent => exec_windSample_refused hh (sampledMast_of_absent habsent), fun m hm hconf => ?_⟩
  intro former changed crossed
  have hexec := exec_windSample_taken hh (m := m) (f := f) (by rw [hm]; exact sampledMast_of_configured hconf)
  have hwithin := within_sampleTaken s m mean gust
  have hmasts := fun k => recordMast_mast s m k (s.sampled mean gust)
  have hseen := recordMast_tripSeen_self (s := s) (m := m) (x := s.sampled mean gust)
  have hunseen := fun k => recordMast_tripSeen_kept (s := s) (m := m) (k := k) (x := s.sampled mean gust)
  have hcaptured := recordMast_captured (s := s) (m := m) (x := s.sampled mean gust)
  have hkept := recordMast_uncaptured (s := s) (m := m) (x := s.sampled mean gust)
  rw [← hwithin.wind_eq] at hmasts hseen hunseen hcaptured hkept
  have honly : MastsOnly s (s.sampleTaken m mean gust) := recordMast_mastsOnly.trans hwithin.mastsOnly
  have hfixed := honly.fixed_eq (hwithin.settings_eq.trans recordMast_settings)
  have hcross : crossesTrip former.level (some level) = true ↔ crossed := crossesTrip_iff.trans (by rw [Option.some.injEq])
  refine ⟨_, hexec, rfl, (hmasts m).trans (if_pos rfl), fun k hk => ⟨(hmasts k).trans (if_neg hk), hunseen k (.inr hk)⟩,
    fun hc => hseen (hcross.2 hc), fun hc => hunseen m (.inl ?_), fun ⟨ho, hd⟩ => hcaptured ho hd, fun hd => hkept hd,
    putHolder_fixed hfixed honly.ports_eq _, sampleTaken_tripped, fun hq hd => ?_⟩
  · exact eq_false_of_ne_true fun h => hc (hcross.1 h)
  · exact congrArg (fun u : State => u.answer .safety .windSample .ok
      (u16 mean ++ u16 gust ++ u8 (levelOf s.settings.wind mean gust).place)) (sampleTaken_of_same hq hd)

end Sys2Proof.Machine
end

section
/-! The staleness expiry of a mast (R93, R96, R98), and the end of the stow (R110 to R112). -/

namespace Sys2Proof.Machine

/-! ## Staleness (R93) -/

section
variable {s : State} {m : MastId}

/-- A mast fallen stale, and the stow's answer to it settled. -/
def State.staleTaken (s : State) (m : MastId) : State := (s.goStale m).settle

theorem exec_mastStaleness {x : Nat} (hr : s.resetHeld = false) (hc : s.settings.mastConfigured[m] = true)
    (hs : s.wind.masts[m].state ≠ .stale) (ht : s.wind.masts[m].timer = some x) :
    exec (.mastStalenessExpiry m) s = .next ((s.passTo x).staleTaken m) := by
  refine (event_taken hr).trans ?_
  rw [ht]
  exact congrArg _ (if_pos ⟨hc, hs⟩)

theorem exec_mastStaleness_stopped (hr : s.resetHeld = false) (ht : s.wind.masts[m].timer = none) :
    exec (.mastStalenessExpiry m) s = .next s := by
  refine (event_taken hr).trans ?_
  rw [ht]

theorem within_staleTaken (s : State) (m : MastId) :
    Within (s.recordMast m s.wind.masts[m].silenced) (s.staleTaken m) := by
  refine .trans ?_ (within_settle _)
  rw [goStale_eq]
  exact within_ite (within_plainTrigger _) (within_judgeWeather _)

theorem Within.staleCount_eq {s t : State} (h : Within s t) : t.staleCount = s.staleCount := staleCount_congr h.mastView_eq

/-- The stale-count trigger brings the stow in force, and the rounds of the step leave it so (R98). -/
theorem staleTaken_inForce (h : (s.staleTaken m).settings.wind.staleTrip ≤ (s.staleTaken m).staleCount) :
    (s.staleTaken m).stowInForce = true := by
  have hwithin := within_staleTaken s m
  rw [hwithin.settings_eq, hwithin.staleCount_eq] at h
  have hgo : s.goStale m = (s.recordMast m s.wind.masts[m].silenced).plainTrigger := by
    rw [goStale_eq]; exact if_pos h
  unfold State.staleTaken
  rw [hgo]; exact (forceStep_settle (plainTrigger_inForce _)).inForce

end

/-- Settles O26: the mast's record silenced, and the stow's answer by the stale count. -/
theorem mastFallsStale : Obligations.MastFallsStale := by
  unfold Obligations.MastFallsStale
  intro m s hr
  refine ⟨fun x hc hs ht => ?_, exec_mastStaleness_stopped hr⟩
  have hwithin := within_staleTaken (s.passTo x) m
  have hmasts := fun k => recordMast_mast (s.passTo x) m k (s.passTo x).wind.masts[m].silenced
  have hseen := recordMast_tripSeen_self (s := s.passTo x) (m := m) (x := (s.passTo x).wind.masts[m].silenced)
  rw [← hwithin.wind_eq] at hmasts hseen
  have honly : MastsOnly (s.passTo x) ((s.passTo x).staleTaken m) := recordMast_mastsOnly.trans hwithin.mastsOnly
  refine ⟨_, exec_mastStaleness hr hc hs ht, (hmasts m).trans (if_pos rfl), fun k hk => (hmasts k).trans (if_neg hk),
    fun hl => hseen ?_, staleTaken_inForce, honly.fixed_eq (hwithin.settings_eq.trans recordMast_settings)⟩
  exact crossesTrip_iff.2 ⟨by change s.wind.masts[m].level ≠ none; rw [hl]; nofun, .inl hl⟩

/-! ## The end of the stow (R112) -/

section
variable {s : State} {d : DishId}

/-- The hold of the stow on one dish ended: from STOWED it enters IDLE. -/
def State.unstow (s : State) (d : DishId) : State := if (s.dish d).motion = .stowed then s.enterIdle d else s

/-- Every STOWED dish in IDLE. -/
def State.unstowed (s : State) : State := s.onDishes allDishes State.unstow

/-- The stow's records emptied, its state CLEAR, before the masts at WATCH are judged. -/
def State.unforced (s : State) : State :=
  ({ s.unstowed with stow := { s.unstowed.stow with
      marks := Vector.replicate 48 .none, tripOrder := [], holdOff := none } }.setStowState .clear).askRound

theorem enterClear_eq (s : State) : s.enterClear = s.unforced.judgeWatch := by
  unfold State.enterClear State.unforced State.unstowed State.onDishes State.unstow; rfl

theorem touches_judgeWatch (s : State) : Touches [.stow] s s.judgeWatch := by
  unfold State.judgeWatch; split
  · exact touches_ite (touches_setStowState _ _) (.refl _ s)
  · exact touches_ite (.refl _ s) (touches_setStowState _ _)
  · exact .refl _ s
  · exact .refl _ s
  · exact .refl _ s

theorem touches_unforced (s : State) : Touches [.stow] s.unstowed s.unforced :=
  ((touches_putStow s.unstowed _).trans (touches_setStowState _ _)).askRound

theorem within_unstow (s : State) (d : DishId) : Within s (s.unstow d) := within_ite (within_enterIdle _ _) (.refl s)

theorem within_unforced (s : State) : Within s s.unforced :=
  (within_foldl _ within_unstow allDishes s).trans <| (within_putStow _ _).trans <|
    (within_setStowState _ _).trans (within_askRound _)

theorem unstow_core_ne (s : State) (d e : DishId) (h : e ≠ d) : (s.unstow d).core e = s.core e := by
  unfold State.unstow; split
  · have hidle : Touches (.dish d :: stowHeat) s (s.enterIdle d) :=
      ((touches_atIdle s d).mono (by simp)).trans ((touches_rejoinUnreachable _ d).mono (by simp))
    exact hidle.core_eq (by simpa using h)
  · rfl

/-- A STOWED dish enters IDLE as any other does (R11, R112). -/
theorem unstowed_core (h : (s.dish d).motion = .stowed) :
    s.unstowed.core d = ((s.dish d).idled, idleSlot (s.moveLocked d), s.feeder.reservations[d]) := by
  obtain ⟨u, hw, hu, hr⟩ := onDishes_at State.core unstow_core_ne within_unstow nodup_allDishes s (mem_allDishes d)
  obtain ⟨hdish, -, hres⟩ := core_eq hu
  have hunstow : u.unstow d = u.enterIdle d := if_pos (by rw [hdish]; exact h)
  unfold State.unstowed
  rw [hr, hunstow, enterIdle_core, hdish, hw.moveLocked_eq, hres]

/-- While no marked dish may rejoin, the entries to IDLE leave the Stow Controller as it was. -/
theorem unstowed_stow (h : s.stow.state.rejoins = false) : s.unstowed.stow = s.stow := by
  have hone : ∀ u : State, ∀ d, u.stow.state.rejoins = false → (u.unstow d).stow = u.stow := fun u d hu => by
    unfold State.unstow; split
    · rw [enterIdle_plain (.inr hu)]; exact (touches_atIdle u d).stow (by simp)
    · rfl
  have hfold : ∀ ds (u : State), u.stow = s.stow → (u.onDishes ds State.unstow).stow = s.stow := by
    intro ds
    induction ds with
    | nil => exact fun u hu => hu
    | cons d ds ih => exact fun u hu => ih (u.unstow d) ((hone u d (by rw [hu]; exact h)).trans hu)
  exact hfold allDishes s rfl

theorem unforced_stow (h : s.stow.state = .calmWait) : s.unforced.stow =
    { s.stow with state := .clear, marks := Vector.replicate 48 .none, tripOrder := [], holdOff := none } := by
  have hstow := unstowed_stow (s := s) (by rw [h]; rfl)
  unfold State.unforced State.setStowState
  rw [hstow, if_neg (by rw [h]; nofun)]; rfl

theorem Within.someWatch_eq {s t : State} (h : Within s t) : t.someWatch = s.someWatch := by
  unfold State.someWatch
  rw [h.wind_eq, h.settings_eq]

/-- From CLEAR a mast at WATCH takes the state on to WATCH (R99). -/
theorem judgeWatch_stow (h : s.stow.state = .clear) :
    s.judgeWatch.stow = { s.stow with state := if s.someWatch then .watch else .clear } := by
  unfold State.judgeWatch
  rw [h]; dsimp only
  split
  · unfold State.setStowState
    rw [if_neg (by rw [h]; nofun)]; rfl
  · rw [← h]

theorem enterClear_stow (h : s.stow.state = .calmWait) : s.enterClear.stow = { s.stow with
    state := if s.someWatch then .watch else .clear, marks := Vector.replicate 48 .none, tripOrder := [], holdOff := none } := by
  have hstow := unforced_stow h
  rw [enterClear_eq, judgeWatch_stow (by rw [hstow]), (within_unforced s).someWatch_eq, hstow]

/-- The stow ended, and the rounds of the step run. -/
def State.stowEnded (s : State) : State := s.enterClear.settle

theorem within_stowEnded (s : State) : Within s s.stowEnded := (within_enterClear s).trans (within_settle _)

theorem enterClear_not_active (h : s.stow.state = .calmWait) : s.enterClear.stow.state ≠ .active := by
  rw [enterClear_stow h]; dsimp only; split <;> nofun

theorem stowEnded_stow (h : s.stow.state = .calmWait) : s.stowEnded.stow = { s.stow with
    state := if s.someWatch then .watch else .clear, marks := Vector.replicate 48 .none, tripOrder := [], holdOff := none } :=
  ((spares_settle _).stow (enterClear_not_active h)).trans (enterClear_stow h)

/-- While the census is INCOMPLETE no round takes up a dish that has come from STOWED to IDLE (R155). -/
theorem stowEnded_core (h : s.stow.state = .calmWait) (hc : s.censusDone = false) (hd : (s.dish d).motion = .stowed) :
    s.stowEnded.core d = ((s.dish d).idled, idleSlot (s.moveLocked d), s.feeder.reservations[d]) := by
  have hnobody : NobodyAdmitted s.enterClear :=
    ⟨enterClear_not_active h, .inr ((within_enterClear s).censusDone_eq.trans hc)⟩
  have hclear : Touches [.stow] s.unstowed s.enterClear := by
    rw [enterClear_eq]; exact (touches_unforced s).trans (touches_judgeWatch _)
  unfold State.stowEnded
  rw [(touches_settle_of_nobody hnobody).core_eq (by simp), hclear.core_eq (by simp), unstowed_core hd]

/-- What the stow's end leaves, whatever has ended it. -/
structure EndedFrom (s t : State) : Prop where
  state : t.stow.state = if s.someWatch then .watch else .clear
  marks : ∀ d, t.mark d = .none
  trips : t.stow.tripOrder = []
  timer : t.stow.holdOff = none
  queue : t.stow.queue = s.stow.queue
  idle : s.censusDone = false → ∀ d, (s.dish d).motion = .stowed →
    t.dish d = (s.dish d).idled ∧ t.slot d = idleSlot (s.moveLocked d)

theorem endedFrom_stowEnded (h : s.stow.state = .calmWait) : EndedFrom s s.stowEnded := by
  have hstow := stowEnded_stow h
  refine ⟨by rw [hstow], fun d => ?_, by rw [hstow], by rw [hstow], by rw [hstow], fun hc d hd => ?_⟩
  · unfold State.mark; rw [hstow]; exact Vector.getElem_replicate _
  · obtain ⟨hdish, hslot, -⟩ := core_eq (stowEnded_core h hc hd)
    exact ⟨hdish, hslot⟩

end

/-! ## Hold-off and RELEASE STOW (R110, R111) -/

section
variable {s : State}

theorem exec_holdOff {x : Nat} (hr : s.resetHeld = false) (ht : s.stow.holdOff = some x) (h : s.stow.state = .calmWait) :
    exec .holdOffExpiry s = .next (s.passTo x).stowEnded := by
  refine (event_taken hr).trans ?_
  rw [ht]
  exact congrArg _ (if_pos h)

theorem exec_holdOff_idle (hr : s.resetHeld = false) (h : s.stow.state ≠ .calmWait ∨ s.stow.holdOff = none) :
    exec .holdOffExpiry s = .next s := by
  refine (event_taken hr).trans (congrArg _ ?_)
  split
  · rfl
  · next x hx => exact if_neg (h.resolve_right (by rw [hx]; nofun))

/-- The answer of RELEASE STOW, by the stow's state (R111). -/
def State.releaseAnswered (s : State) : State :=
  match s.stow.state with
  | .calmWait => s.stowEnded.answer .safety .releaseStow .ok []
  | .stowedHold => s.refuse .safety .releaseStow .conditionActive
  | .clear | .watch | .active => s.refuse .safety .releaseStow .wrongState

theorem exec_releaseStow (hh : s.hears .safety = true) :
    exec (.releaseStow .safety (.fields {})) s = .next s.releaseAnswered := serve_taken hh rfl _ _

end

/-- Settles O27: in CALM_WAIT either step ends the stow; in the other states the one has no effect and the other is refused. -/
theorem stowEndsFromCalmWait : Obligations.StowEndsFromCalmWait := by
  unfold Obligations.StowEndsFromCalmWait
  intro i s hi
  rcases hi with ⟨rfl, hr⟩ | ⟨rfl, hh⟩
  · refine ⟨fun h ht => ?_, fun _ h => exec_holdOff_idle hr h, nofun, nofun⟩
    obtain ⟨x, hx⟩ := Option.ne_none_iff_exists'.1 (ht rfl)
    obtain ⟨hstate, hmarks, htrips, htimer, hqueue, hidle⟩ := endedFrom_stowEnded (s := s.passTo x) h
    have hfixed := (within_stowEnded (s.passTo x)).fixed
    have hclock := (within_stowEnded (s.passTo x)).clock_eq
    refine ⟨_, exec_holdOff hr hx h, hstate, hmarks, htrips, htimer, hqueue, hidle, nofun, ?_⟩
    rw [if_pos rfl, hfixed, hclock]; rfl
  · have hexec := exec_releaseStow hh
    unfold State.releaseAnswered at hexec
    refine ⟨fun h _ => ?_, nofun, fun _ h => ?_, fun _ h => ?_⟩
    · rw [h] at hexec
      have hended := endedFrom_stowEnded h
      have hwithin := within_stowEnded s
      generalize s.stowEnded = u at hexec hended hwithin
      obtain ⟨hstate, hmarks, htrips, htimer, hqueue, hidle⟩ := hended
      have hclock : (u.answer .safety .releaseStow .ok []).clock = s.clock := hwithin.clock_eq
      refine ⟨_, hexec, hstate, hmarks, htrips, htimer, hqueue, hidle, fun _ => rfl, ?_⟩
      rw [if_neg nofun, hclock]
      exact putHolder_fixed hwithin.fixed hwithin.ports_eq _
    · rw [h] at hexec; exact hexec
    · rcases h with h | h | h <;> (rw [h] at hexec; exact hexec)

end Sys2Proof.Machine
end

section
/-! The feeder's laws (R115, R118, R123), clause by clause: what the updates of the reservation list, of the power order and of the
zones keep of each. -/

namespace Sys2Proof.Machine

/-! ## The clauses of FeederLawful -/

/-- What the laws of the feeder speak of: the Feeder Share Unit and the zone records. -/
structure Supply where
  feeder : Feeder
  zones : Vector DishZones 48

/-- The supply of a state. -/
def State.supply (s : State) : Supply := { feeder := s.feeder, zones := s.melt.zones }

/-- The clauses of FeederLawful: heaters fit or none is powered (R118), an overdrawn feeder is marked (R123), the power order names the
POWERED zones (R115). Each is kept by itself. -/
inductive FeederClause where
  | fitted | marked | named

/-- A supply meets a clause. -/
def Supply.Meets (x : Supply) : FeederClause → Prop
  | .fitted => x.feeder.h = 0 ∨ x.feeder.d + x.feeder.h ≤ x.feeder.allowance
  | .marked => x.feeder.allowance < x.feeder.d → x.feeder.overCommit ≠ none
  | .named =>
    (∀ z : ZoneId, (x.zones[z.dish].get z.kind).state = .powered ↔ z ∈ x.feeder.powerOrder.map (·.zone))
      ∧ (x.feeder.powerOrder.map (·.zone)).Nodup

/-- A state meets a clause of FeederLawful. -/
abbrev State.Meets (s : State) (k : FeederClause) : Prop := s.supply.Meets k

theorem feederLawful_iff {s : State} : s.FeederLawful ↔ ∀ k, s.Meets k := by
  constructor
  · rintro ⟨hfit, hmark, hnamed, hnodup⟩ (_ | _ | _)
    · exact hfit
    · exact hmark
    · exact ⟨hnamed, hnodup⟩
  · intro h
    exact ⟨h .fitted, h .marked, (h .named).1, (h .named).2⟩

/-! ## D after a change of one entry -/

theorem sum_set_add_getElem (l : List Nat) (i : Nat) (hi : i < l.length) (n : Nat) : (l.set i n).sum + l[i] = l.sum + n := by
  induction l generalizing i with
  | nil => cases hi
  | cons a l ih =>
    cases i with
    | zero => simp only [List.set_cons_zero, List.sum_cons, List.getElem_cons_zero]; omega
    | succ i =>
      have := ih i (Nat.lt_of_succ_lt_succ hi)
      simp only [List.set_cons_succ, List.sum_cons, List.getElem_cons_succ]; omega

theorem putReservation_d (s : State) (d : DishId) (r : Option Reservation) :
    (s.putReservation d r).feeder.d + amountOf s.feeder.reservations[d] = s.feeder.d + amountOf r := by
  have h := sum_set_add_getElem (s.feeder.reservations.toList.map amountOf) d.val (by simp) (amountOf r)
  simpa [Feeder.d, State.putReservation, Vector.toList_set, List.map_set] using h

/-- H falls, or stays, as the power order loses entries. -/
theorem h_le_of_sublist {f g : Feeder} (h : f.powerOrder.Sublist g.powerOrder) : f.h ≤ g.h :=
  (h.map PoweredZone.power).sum_le_sum fun _ _ => Nat.zero_le _

namespace State.Meets

variable {s t : State} {k : FeederClause} {d : DishId} {g : SlotId} {z : ZoneId}

theorem ite {c : Prop} [Decidable c] (ht : t.Meets k) (hs : s.Meets k) : (if c then t else s).Meets k := by
  split <;> assumption

theorem foldl (h : s.Meets k) {α : Type} {f : State → α → State} (hf : ∀ s x, s.Meets k → (f s x).Meets k) (xs : List α) :
    (xs.foldl f s).Meets k := by
  induction xs generalizing s with
  | nil => exact h
  | cons x xs ih => exact ih (hf s x h)

theorem of_supply (h : s.Meets k) (e : t.supply = s.supply) : t.Meets k := by
  unfold State.Meets; rw [e]; exact h

/-! ## Reservations -/

/-- A reservation replaced by a smaller one. -/
theorem lowerReservation (h : s.Meets k) {r : Option Reservation} (hr : amountOf r ≤ amountOf s.feeder.reservations[d]) :
    (s.putReservation d r).Meets k := by
  have hle : (s.putReservation d r).feeder.d ≤ s.feeder.d := by
    have := putReservation_d s d r
    omega
  cases k with
  | fitted => exact Or.imp id (Nat.add_le_add_right hle s.feeder.h).trans h
  | marked => exact fun hlt => h (Nat.lt_of_lt_of_le hlt hle)
  | named => exact h

theorem releaseReservation (h : s.Meets k) : (s.releaseReservation d).Meets k := by
  unfold State.releaseReservation; split
  · exact h
  · exact h.lowerReservation (Nat.zero_le _)

theorem limitReservation (h : s.Meets k) {n : Nat} : (s.limitReservation d n).Meets k := by
  unfold State.limitReservation; split
  · exact h
  · next r hr =>
    split
    · exact h
    · refine h.lowerReservation ?_
      rw [hr]
      split
      · exact Nat.zero_le _
      · exact Nat.le_of_not_le ‹_›

/-- The over-commit mark is cleared only where D does not exceed A (R123). -/
theorem judgeRestored (h : s.Meets k) : s.judgeRestored.Meets k := by
  unfold State.judgeRestored; split
  · exact h
  · split
    · next hle =>
      cases k with
      | fitted => exact h
      | marked => exact fun hlt => absurd hle (Nat.not_le_of_lt hlt)
      | named => exact h
    · exact h

/-! ## Zones and power order -/

/-- A zone record changed that stays POWERED or stays out of power. -/
theorem setZone (h : s.Meets k) {f : Zone → Zone} (hf : (f (s.zone z)).state = .powered ↔ (s.zone z).state = .powered) :
    (s.setZone z f).Meets k := by
  cases k with
  | fitted => exact h
  | marked => exact h
  | named =>
    refine ⟨fun w => ?_, h.2⟩
    change ((s.setZone z f).zone w).state = .powered ↔ _
    rw [setZone_zone]; split
    · next e => subst e; exact hf.trans (h.1 w)
    · exact h.1 w

/-- A zone that is not POWERED put in another state without power. -/
theorem setUnpowered (h : s.Meets k) {f : Zone → Zone} (hz : (s.zone z).state ≠ .powered)
    (hf : (f (s.zone z)).state ≠ .powered) : (s.setZone z f).Meets k := h.setZone (iff_of_false hf hz)

/-- A zone taken from the power order and put in a state without power. -/
theorem cutZone (h : s.Meets k) {f : Zone → Zone} (hf : (f (s.zone z)).state ≠ .powered) :
    ((s.leavePowerOrder z).setZone z f).Meets k := by
  have hh : (s.leavePowerOrder z).feeder.h ≤ s.feeder.h := h_le_of_sublist List.filter_sublist
  cases k with
  | fitted =>
    rcases h with h | h
    · exact .inl (Nat.le_zero.1 (hh.trans h.le))
    · exact .inr ((Nat.add_le_add_left hh s.feeder.d).trans h)
  | marked => exact h
  | named =>
    refine ⟨fun w => ?_, h.2.sublist (List.filter_sublist.map _)⟩
    have hmem : w ∈ (s.leavePowerOrder z).feeder.powerOrder.map (·.zone) ↔ w ∈ s.feeder.powerOrder.map (·.zone) ∧ w ≠ z := by
      simp only [State.leavePowerOrder, State.askRound, State.askScan, List.mem_map, List.mem_filter, decide_eq_true_eq]
      constructor
      · rintro ⟨x, ⟨hx, hne⟩, rfl⟩; exact ⟨⟨x, hx, rfl⟩, hne⟩
      · rintro ⟨⟨x, hx, rfl⟩, hne⟩; exact ⟨x, ⟨hx, hne⟩, rfl⟩
    change (((s.leavePowerOrder z).setZone z f).zone w).state = .powered
      ↔ w ∈ (s.leavePowerOrder z).feeder.powerOrder.map (·.zone)
    rw [hmem, setZone_zone]; split
    · next e => subst e; exact iff_of_false hf fun hw => hw.2 rfl
    · next hne => exact (h.1 w).trans (iff_self_and.2 fun _ => hne)

/-- A WAITING zone powered where it fits (R117). -/
theorem powerZone (h : s.Meets k) {p : Nat} (hz : (s.zone z).state = .waiting) (hp : s.feeder.heaterFits p = true) :
    (s.powerZone z p).Meets k := by
  cases k with
  | fitted =>
    have hh : (s.powerZone z p).feeder.h = s.feeder.h + p := by simp [State.powerZone, State.setZone, Feeder.h]
    have hd : (s.powerZone z p).feeder.d = s.feeder.d := rfl
    have hfit : s.feeder.d + s.feeder.h + p ≤ s.feeder.allowance := of_decide_eq_true hp
    exact .inr (show (s.powerZone z p).feeder.d + (s.powerZone z p).feeder.h ≤ s.feeder.allowance by omega)
  | marked => exact h
  | named =>
    have hout : z ∉ s.feeder.powerOrder.map (·.zone) := fun hm => by
      have hpow : (s.zone z).state = .powered := (h.1 z).2 hm
      rw [hpow] at hz; cases hz
    have horder : (s.powerZone z p).feeder.powerOrder.map (·.zone) = s.feeder.powerOrder.map (·.zone) ++ [z] := by
      simp [State.powerZone, State.setZone]
    refine ⟨fun w => ?_, ?_⟩
    · change ((s.powerZone z p).zone w).state = .powered ↔ w ∈ (s.powerZone z p).feeder.powerOrder.map (·.zone)
      rw [horder, List.mem_append, List.mem_singleton, State.powerZone, setZone_zone]; split
      · next e => exact iff_of_true rfl (.inr e)
      · next hne => exact (h.1 w).trans (or_iff_left hne).symm
    · change ((s.powerZone z p).feeder.powerOrder.map (·.zone)).Nodup
      rw [horder]
      exact h.2.append (List.nodup_singleton z) (List.disjoint_singleton.2 hout)

end State.Meets

end Sys2Proof.Machine
end

section
/-! What the shared operations of the blocks keep of the feeder's laws, clause by clause (R115, R118, R123). -/

namespace Sys2Proof.Machine

namespace State.Meets

variable {s t : State} {k : FeederClause} {d : DishId} {g : SlotId} {z : ZoneId}

/-! ## Slots, dishes, asks and attention -/

theorem askRound (h : s.Meets k) : s.askRound.Meets k := h

theorem askScan (h : s.Meets k) : s.askScan.Meets k := h

theorem askJudge (h : s.Meets k) : s.askJudge.Meets k := h

theorem raise (h : s.Meets k) {x : Source} {w : Detail} : (s.raise x w).Meets k := h

theorem setDish (h : s.Meets k) {f : Dish → Dish} : (s.setDish d f).Meets k := h

theorem putSlot (h : s.Meets k) {c : Command} : (s.putSlot d c).Meets k := h

theorem writeHoldBrake (h : s.Meets k) : (s.writeHoldBrake d).Meets k := h

theorem onDishes (h : s.Meets k) {f : State → DishId → State} {ds : List DishId}
    (hf : ∀ s d, s.Meets k → (f s d).Meets k) : (s.onDishes ds f).Meets k := h.foldl hf ds

theorem writeStop (h : s.Meets k) : (s.writeStop d).Meets k := releaseReservation (s := s.putSlot d .stop) h

theorem writeLoad (h : s.Meets k) {az el : AxisLoad} {n : Nat} : (s.writeLoad d az el n).Meets k := ite h h

theorem writeGo (h : s.Meets k) {f : Frame} : (s.writeGo d f).Meets k := ite h h

theorem stopDish (h : s.Meets k) : (s.stopDish d).Meets k := h.writeStop

theorem faultDish (h : s.Meets k) : (s.faultDish d).Meets k := h.writeStop

theorem raiseConflict (h : s.Meets k) {c : ConflictKind} : (s.raiseConflict d c).Meets k := by
  unfold State.raiseConflict; split <;> exact h

/-! ## Heaters -/

theorem chargeZone (h : s.Meets k) : (s.chargeZone z).Meets k :=
  h.setZone (by unfold Zone.chargeAt; split <;> rfl)

/-- A zone out of power put in another state out of power. -/
theorem relabelZone (h : s.Meets k) (hz : (s.zone z).state ≠ .powered) {st : ZoneState} (hst : st ≠ .powered) :
    (s.setZone z fun x => { x with state := st }).Meets k := h.setUnpowered hz hst

theorem leaveRotation (h : s.Meets k) : (s.leaveRotation z).Meets k := h

/-- A zone out of power retired to IDLE. -/
theorem retireZone (h : s.Meets k) (hz : (s.zone z).state ≠ .powered) : (s.retireZone z).Meets k :=
  (h.setUnpowered hz (f := fun _ => Zone.reset) nofun).leaveRotation

theorem clearIce (h : s.Meets k) : (s.clearIce d).Meets k := h

theorem completeZone (h : s.Meets k) (hz : (s.zone z).state ≠ .powered) : (s.completeZone z).Meets k := by
  unfold State.completeZone; dsimp only
  exact ite (h.retireZone hz).clearIce.raise (h.retireZone hz)

theorem unpower (h : s.Meets k) {st : ZoneState} (hst : st ≠ .powered) : (s.unpower z st).Meets k := by
  have hcut : ((s.chargeZone z).cutPower z st).Meets k := h.chargeZone.cutZone hst
  have hz : (((s.chargeZone z).cutPower z st).zone z).state ≠ .powered := by
    unfold State.cutPower; rw [setZone_zone_self]; exact hst
  unfold State.unpower; dsimp only
  exact ite (hcut.completeZone hz) hcut

theorem reblockZone (h : s.Meets k) : (s.reblockZone z).Meets k := by
  unfold State.reblockZone; split
  · exact h
  · exact ite (h.unpower (st := .blocked) nofun).askScan h
  · next hz => exact ite (h.relabelZone (st := .blocked) (by rw [hz]; nofun) nofun).askScan h
  · next hz => exact ite h (h.relabelZone (st := .waiting) (by rw [hz]; nofun) nofun).askScan

theorem reblockDish (h : s.Meets k) : (s.reblockDish d).Meets k := by
  unfold State.reblockDish
  exact h.foldl (fun _ _ hs => hs.reblockZone) _

theorem answerBlock (h : s.Meets k) {b : Bool} : (s.answerBlock d b).Meets k := ite h.reblockDish.askScan h.reblockDish

theorem reblockAll (h : s.Meets k) : s.reblockAll.Meets k := by
  unfold State.reblockAll
  exact (h.foldl (fun _ _ hs => hs.reblockZone) _).askScan

theorem scanWalk (zs : List ZoneId) (h : s.Meets k) : (Machine.scanWalk zs s).Meets k := by
  induction zs generalizing s with
  | nil => exact h
  | cons z zs ih =>
    unfold Machine.scanWalk; split
    · next hz =>
      dsimp only; split
      · next hp => exact ih (h.powerZone hz hp)
      · exact h
    all_goals exact ih h

theorem poweringScan (h : s.Meets k) : s.poweringScan.Meets k := h.scanWalk _

theorem shedWalk (xs : List PoweredZone) (h : s.Meets k) : (Machine.shedWalk xs s).Meets k := by
  induction xs generalizing s with
  | nil => exact h
  | cons x xs ih => exact ite h (ih (h.unpower nofun))

theorem shedHeaters (h : s.Meets k) : s.shedHeaters.Meets k := h.shedWalk _

theorem cancelZone (h : s.Meets k) : (s.cancelZone z).Meets k := by
  unfold State.cancelZone; split
  · exact h
  · exact (h.cutZone (f := fun _ => Zone.reset) nofun).leaveRotation
  · next hz => exact h.retireZone (by rw [hz]; nofun)
  · next hz => exact h.retireZone (by rw [hz]; nofun)

theorem iceAfterCancel (h : s.Meets k) : (s.iceAfterCancel d).Meets k := ite h h

/-! ## Stow Controller -/

theorem putStow (h : s.Meets k) {x : Stow} : { s with stow := x }.Meets k := h

theorem setMark (h : s.Meets k) {m : StowMark} : (s.setMark d m).Meets k := h

theorem setMove (h : s.Meets k) {m : Option StowMove} : (s.setMove d m).Meets k := h

theorem setStowState (h : s.Meets k) {x : StowState} : (s.setStowState x).Meets k := ite h h

theorem enterCalmWait (h : s.Meets k) : s.enterCalmWait.Meets k :=
  setStowState (s := { s with stow := { s.stow with holdOff := some (s.clock + s.settings.wind.holdOff * 1000) } }) h

theorem checkStowedHold (h : s.Meets k) : s.checkStowedHold.Meets k := by
  unfold State.checkStowedHold; dsimp only
  exact ite (ite h.setStowState.reblockAll.enterCalmWait h.setStowState.reblockAll) h

theorem unqueue (h : s.Meets k) : (s.unqueue d).Meets k := ite h h

theorem joinQueue (h : s.Meets k) : (s.joinQueue d).Meets k := by
  unfold State.joinQueue; dsimp only
  exact ite (putStow h).askRound.raiseConflict (putStow h).askRound

theorem rejoinTail (h : s.Meets k) : (s.rejoinTail d).Meets k := by
  unfold State.rejoinTail; dsimp only
  exact ite h.setMark.joinQueue.setStowState.reblockAll h.setMark.joinQueue

theorem rejoinBlocked (h : s.Meets k) : (s.rejoinBlocked d).Meets k := by
  unfold State.rejoinBlocked; split
  · split
    iterate 3 exact h
    all_goals exact h.rejoinTail
  · exact h

theorem rejoinUnreachable (h : s.Meets k) : (s.rejoinUnreachable d).Meets k := ite (ite h h.rejoinTail) h

theorem rejoinAll (h : s.Meets k) : s.rejoinAll.Meets k := by
  unfold State.rejoinAll
  exact h.foldl (fun _ _ hs => hs.rejoinBlocked.rejoinUnreachable) _

theorem enterIdle (h : s.Meets k) : (s.enterIdle d).Meets k := by
  unfold State.enterIdle; dsimp only
  exact rejoinUnreachable (askRound (ite (writeHoldBrake (setDish h)) (putSlot (setDish h))))

theorem markDish (h : s.Meets k) {m : StowMark} {w : Detail} : (s.markDish d m w).Meets k :=
  h.unqueue.setMove.setMark.raise.checkStowedHold

theorem stowOnFault (h : s.Meets k) {p : Motion} : (s.stowOnFault d p).Meets k := ite h (ite h.markDish (ite h.markDish h))

theorem stowOnLoss (h : s.Meets k) {p : Motion} : (s.stowOnLoss d p).Meets k := ite h (ite h.markDish h)

theorem stowOnLocked (h : s.Meets k) : (s.stowOnLocked d).Meets k := ite h.markDish h

theorem buildDish (h : s.Meets k) : (s.buildDish d).Meets k := ite h (ite h (ite h (ite h (ite h.joinQueue h))))

theorem buildQueue (h : s.Meets k) : s.buildQueue.Meets k := by
  have hempty : { s with stow := { s.stow with queue := [], marks := Vector.replicate 48 .none } }.Meets k := h
  have hbuilt := hempty.foldl (f := State.buildDish) (fun _ _ hs => hs.buildDish) allDishes
  unfold State.buildQueue; dsimp only
  generalize allDishes.foldl State.buildDish _ = u at hbuilt
  exact hbuilt

theorem rerank (h : s.Meets k) {m : MastId} : (s.rerank m).Meets k := h

theorem judgeWatch (h : s.Meets k) : s.judgeWatch.Meets k := by
  unfold State.judgeWatch; split
  · exact ite h.setStowState h
  · exact ite h h.setStowState
  all_goals exact h

theorem judgeRelease (h : s.Meets k) : s.judgeRelease.Meets k := by
  unfold State.judgeRelease; split
  · exact ite h.enterCalmWait h
  · exact ite h (rejoinAll (setStowState (s := { s with stow := { s.stow with holdOff := none } }) h))
  all_goals exact h

theorem judgeWeather (h : s.Meets k) : s.judgeWeather.Meets k := h.judgeRelease.judgeWatch

theorem enterClear (h : s.Meets k) : s.enterClear.Meets k := by
  have hidle := h.foldl (f := fun s d => if (s.dish d).motion = .stowed then s.enterIdle d else s)
    (fun _ _ hs => ite hs.enterIdle hs) allDishes
  unfold State.enterClear; dsimp only
  generalize allDishes.foldl (fun s d => if (s.dish d).motion = .stowed then s.enterIdle d else s) s = u at hidle
  have hemptied : { u with stow := { u.stow with
      marks := Vector.replicate 48 .none, tripOrder := [], holdOff := none } }.Meets k := hidle
  exact hemptied.setStowState.askRound.judgeWatch

/-! ## Groups -/

theorem setMember (h : s.Meets k) {f : Member → Member} : (s.setMember g d f).Meets k := h

theorem setGroupState (h : s.Meets k) {x : GroupState} : (s.setGroupState g x).Meets k := h

theorem freeSlot (h : s.Meets k) {r : GroupResult} : (s.freeSlot g r).Meets k := h

theorem passPositioned (h : s.Meets k) : (s.passPositioned g).Meets k := by
  have hbraked : (s.onDishes (s.group g).activeDishes State.writeHoldBrake).Meets k := h.onDishes fun _ _ hs => hs
  have hreleased := hbraked.onDishes (f := State.releaseReservation) (ds := (s.group g).activeDishes)
    fun _ _ hs => hs.releaseReservation
  exact hreleased

theorem passTracking (h : s.Meets k) : (s.passTracking g).Meets k := by
  have hlimited := h.onDishes (f := fun s d => s.limitReservation d (s.trackSum d)) (ds := (s.group g).activeDishes)
    fun _ _ hs => hs.limitReservation
  exact hlimited

theorem passOnArrival (h : s.Meets k) : (s.passOnArrival g).Meets k := by
  unfold State.passOnArrival; split
  · exact h.passPositioned
  · exact h.passTracking

theorem judgeStart (h : s.Meets k) : (s.judgeStart g).Meets k := by
  have hgo := h.onDishes (f := fun u d => u.writeGo d (s.ring.frame + 2)) (ds := (s.group g).activeDishes)
    fun _ _ hs => hs.writeGo
  exact ite hgo h

theorem judgeGroup (h : s.Meets k) : (s.judgeGroup g).Meets k := by
  unfold State.judgeGroup; split
  · exact h.judgeStart
  · exact ite h.passOnArrival h
  · exact ite h.setGroupState h
  all_goals exact h

theorem stopUnlessLost (h : s.Meets k) : (s.stopUnlessLost d).Meets k := ite h h.stopDish

theorem leaveGroup (h : s.Meets k) : (s.leaveGroup d).Meets k := h

theorem afterExclusion (h : s.Meets k) : (s.afterExclusion g).Meets k := ite h.freeSlot.raise h.judgeGroup

theorem exclude (h : s.Meets k) {w : ExclReason} : (s.exclude g d w).Meets k :=
  h.setMember.leaveGroup.stopUnlessLost.afterExclusion

theorem excludeMember (h : s.Meets k) {w : ExclReason} : (s.excludeMember d w).Meets k := by
  unfold State.excludeMember; split
  · exact h
  · exact h.exclude

theorem endGroup (h : s.Meets k) {r : GroupResult} : (s.endGroup g r).Meets k :=
  (h.onDishes (f := fun s d => (s.leaveGroup d).stopUnlessLost d) fun _ _ hs => hs.leaveGroup.stopUnlessLost).freeSlot

theorem dissolve (h : s.Meets k) {r : GroupResult} : (State.dissolve r s g).Meets k := ite h h.endGroup.raise

theorem dissolveAll (h : s.Meets k) {r : GroupResult} : (s.dissolveAll r).Meets k := by
  unfold State.dissolveAll
  exact h.foldl (fun _ _ hs => hs.dissolve) _

/-! ## Shed moves and stow triggers -/

theorem unlistShed (h : s.Meets k) : (s.unlistShed d).Meets k := h

theorem skipShed (h : s.Meets k) : (s.skipShed d).Meets k := ite h h

theorem stopShed (h : s.Meets k) {r : ShedResult} : (s.stopShed d r).Meets k := ite h.stopDish h

theorem clearSheds (h : s.Meets k) {r : ShedResult} : (s.clearSheds r).Meets k :=
  (h.onDishes (f := fun s d => s.stopShed d r) fun _ _ hs => hs.stopShed).onDishes fun _ _ hs => hs.skipShed

theorem enterActive (h : s.Meets k) : s.enterActive.Meets k := by
  have hended : ((s.dissolveAll .stowAbort).clearSheds .aborted).Meets k := h.dissolveAll.clearSheds
  unfold State.enterActive; dsimp only
  generalize (s.dissolveAll .stowAbort).clearSheds .aborted = u at hended
  exact (setStowState (s := { u with stow := { u.stow with holdOff := none } }) hended).reblockAll.buildQueue

theorem noteTripOrder (h : s.Meets k) {m : MastId} : (s.noteTripOrder m).Meets k := ite h h

theorem tripTrigger (h : s.Meets k) {m : MastId} : (s.tripTrigger m).Meets k := by
  unfold State.tripTrigger; split
  · exact ite h h.noteTripOrder.rerank
  all_goals exact h.noteTripOrder.enterActive

theorem plainTrigger (h : s.Meets k) : s.plainTrigger.Meets k := ite h h.enterActive

end State.Meets

end Sys2Proof.Machine
end

section
/-! What admissions, rounds and scans keep of the feeder's laws: reservations are entered where they fit, heaters are shed for them, and
a floor admission is marked (R105, R118, R121, R123). -/

namespace Sys2Proof.Machine

/-! ## Reservations entered -/

/-- Between the two states reservations of at most n in all have been entered, and the supply is the same beside them. -/
structure Entered (n : Nat) (s t : State) : Prop where
  d : t.feeder.d ≤ s.feeder.d + n
  rest : t.supply = { s.supply with feeder := { s.feeder with reservations := t.feeder.reservations } }

section
variable {n m : Nat} {s t u : State}

theorem Entered.trans (h : Entered n s t) (e : Entered m t u) : Entered (n + m) s u where
  d := by have := h.d; have := e.d; omega
  rest := by
    have hf : t.feeder = { s.feeder with reservations := t.feeder.reservations } := congrArg Supply.feeder h.rest
    rw [e.rest, h.rest, hf]

theorem Entered.allowance_eq (h : Entered n s t) : t.feeder.allowance = s.feeder.allowance :=
  congrArg (fun x : Supply => x.feeder.allowance) h.rest

theorem entered_enterReservation (s : State) (d : DishId) (n : Nat) (p : Purpose) : Entered n s (s.enterReservation d n p) := by
  unfold State.enterReservation; split
  · exact ⟨Nat.le_add_right _ _, rfl⟩
  · refine ⟨?_, rfl⟩
    have hd : (s.putReservation d (some ⟨n, p⟩)).feeder.d + amountOf s.feeder.reservations[d] = s.feeder.d + n :=
      putReservation_d s d (some ⟨n, p⟩)
    exact (Nat.le_add_right _ _).trans hd.le

theorem entered_enterGroup (draws : List (DishId × Nat)) (s : State) :
    Entered (draws.map (·.2)).sum s (s.enterGroup draws) := by
  induction draws generalizing s with
  | nil => exact ⟨Nat.le_refl _, rfl⟩
  | cons x draws ih => exact (entered_enterReservation s x.1 x.2 .group).trans (ih _)

theorem supply_onDishes {f : State → DishId → State} (hf : ∀ s d, (f s d).supply = s.supply) (ds : List DishId) (s : State) :
    (s.onDishes ds f).supply = s.supply := by
  induction ds generalizing s with
  | nil => rfl
  | cons d ds ih => exact (ih _).trans (hf s d)

/-- The opening of a stow move's admission leaves the supply as it was. -/
theorem supply_conflictAtStow (s : State) (d : DishId) : ((s.unqueue d).conflictAtStow d).supply = s.supply := by
  have hconflict : ∀ u : State, (u.conflictAtStow d).supply = u.supply := fun u => by
    unfold State.conflictAtStow State.raiseConflict
    split
    · split <;> rfl
    · rfl
  rw [hconflict]; unfold State.unqueue; split <;> rfl

/-- The fit of a group leaves room for its draw (R121). -/
theorem room_of_groupFits {f : Feeder} (h : f.groupFits n = true) : f.d + n ≤ f.allowance :=
  (Nat.le_add_right _ _).trans (of_decide_eq_true h)

theorem room_of_stowFits {f : Feeder} (h : f.stowFits n = true) : f.d + n ≤ f.allowance := of_decide_eq_true h

/-- A walk over the whole power order ends with D plus H within A, or with no heater powered (R118). -/
theorem shedWalk_fitted (xs : List PoweredZone) (s : State)
    (h : s.feeder.powerOrder.map (·.zone) ⊆ xs.map (·.zone)) : (shedWalk xs s).Meets .fitted := by
  induction xs generalizing s with
  | nil =>
    have hnone : s.feeder.powerOrder = [] := List.map_eq_nil_iff.1 (List.subset_nil.1 h)
    exact .inl (show s.feeder.h = 0 by rw [Feeder.h, hnone]; rfl)
  | cons x xs ih =>
    unfold shedWalk; split
    · next hfit => exact .inr hfit
    · refine ih _ fun w hw => ?_
      obtain ⟨hmem, hne⟩ := (mem_unpower_order _ _ _ _).1 hw
      exact (List.mem_cons.1 (h hmem)).resolve_left hne

theorem shedHeaters_fitted (s : State) : s.shedHeaters.Meets .fitted :=
  shedWalk_fitted _ _ fun w hw => by rwa [List.map_reverse, List.mem_reverse]

end

namespace State.Meets

variable {s t : State} {k : FeederClause} {d : DishId} {g : SlotId}

/-- Heaters shed for reservations that fit; that they fit matters to the over-commit mark alone. -/
theorem enterShed (h : s.Meets k) {n : Nat} (e : Entered n s t) (hfit : k = .marked → s.feeder.d + n ≤ s.feeder.allowance) :
    t.shedHeaters.Meets k := by
  cases k with
  | fitted => exact shedHeaters_fitted t
  | marked =>
    have hroom := hfit rfl
    have ha := e.allowance_eq
    have hd := e.d
    exact shedHeaters fun (hlt : t.feeder.allowance < t.feeder.d) => by omega
  | named =>
    have hentered : t.Meets .named := by unfold State.Meets; rw [e.rest]; exact h
    exact hentered.shedHeaters

/-! ## The Stow Queue -/

theorem setMotion (h : s.Meets k) {m : Motion} : (s.setMotion d m).Meets k := h

theorem stowInPlace (h : s.Meets k) : (s.stowInPlace d).Meets k := h

theorem admitStow (h : s.Meets k) {p : MovePlan} (hfit : k = .marked → s.feeder.d + p.draw ≤ s.feeder.allowance) :
    (s.admitStow d p).Meets k := by
  have hsame := supply_conflictAtStow s d
  have hf : ((s.unqueue d).conflictAtStow d).feeder = s.feeder := congrArg Supply.feeder hsame
  have hu : ((s.unqueue d).conflictAtStow d).Meets k := h.of_supply hsame
  unfold State.admitStow; dsimp only
  refine ite hu.stowInPlace (setMove (setMotion (writeLoad (hu.enterShed (entered_enterReservation _ _ _ _) ?_))))
  rwa [hf]

/-- The mark set by a floor admission covers what the admission leaves overdrawn (R123). -/
theorem noteFloor {p : MovePlan} (h : k ≠ .marked → s.Meets k) : (s.noteFloor d p).Meets k := by
  unfold State.noteFloor; dsimp only
  split
  · cases k with
    | fitted => exact h nofun
    | marked => exact fun _ => Option.some_ne_none _
    | named => exact h nofun
  · next hmark =>
    cases k with
    | fitted => exact h nofun
    | marked => exact fun hlt hnone => hmark ⟨hnone, hlt⟩
    | named => exact h nofun

theorem stowWalk (ds : List DishId) (h : s.Meets k) : (Machine.stowWalk ds s).state.Meets k := by
  induction ds generalizing s with
  | nil => exact h
  | cons d ds ih =>
    unfold Machine.stowWalk; dsimp only; split
    · exact ih h
    · split
      · exact ih h.unqueue.stowInPlace
      · split
        · next hfit => exact ih (h.admitStow fun _ => room_of_stowFits hfit)
        · split
          · exact h
          · exact noteFloor fun hk => h.admitStow fun e => absurd e hk

theorem stowTurn (h : s.Meets k) : s.stowTurn.state.Meets k := by
  unfold State.stowTurn; split
  · exact (h.stowWalk _).checkStowedHold
  · exact h

/-! ## Groups -/

theorem setGroup (h : s.Meets k) {f : Group → Group} : (s.setGroup g f).Meets k := h

theorem setStream (h : s.Meets k) {f : Stream → Stream} : (s.setStream g f).Meets k := h

theorem loadMembers (h : s.Meets k) : (s.loadMembers g).Meets k := by
  unfold State.loadMembers
  refine h.foldl (fun _ _ hs => ?_) _
  split
  · exact hs.writeLoad
  · exact hs

theorem launch (h : s.Meets k) : (s.launch g).Meets k := ite h.passOnArrival h.loadMembers.setGroup

theorem enterGroup (h : s.Meets k) {draws : List (DishId × Nat)}
    (hfit : s.feeder.groupFits (draws.map (·.2)).sum = true) : (s.enterGroup draws).shedHeaters.Meets k :=
  h.enterShed (entered_enterGroup draws s) fun _ => room_of_groupFits hfit

theorem resumeTurn (h : s.Meets k) : (s.resumeTurn g).state.Meets k := by
  unfold State.resumeTurn; split
  · split
    · dsimp only; split
      · next hfit => exact (h.enterGroup hfit).setGroup
      · exact h
    all_goals
      dsimp only; split
      · next hfit => exact (h.enterGroup hfit).setGroup.launch
      · exact h
  · exact h

theorem resumeWalk (gs : List SlotId) (h : s.Meets k) : (Machine.resumeWalk gs s).state.Meets k := by
  induction gs generalizing s with
  | nil => exact h
  | cons g gs ih =>
    unfold Machine.resumeWalk; dsimp only; split
    · exact h.resumeTurn
    · exact ih h.resumeTurn

theorem admitOrder (h : s.Meets k) {o : Order} {n : Nat} {draws : List (DishId × Nat)}
    (hfit : s.feeder.groupFits (draws.map (·.2)).sum = true) : (s.admitOrder o g n draws).Meets k := by
  unfold State.admitOrder; dsimp only
  generalize hu : State.onDishes _ _ _ = u
  have hsame : u.supply = s.supply := hu ▸ supply_onDishes (fun _ _ => by rfl) _ _
  have hf : u.feeder = s.feeder := congrArg Supply.feeder hsame
  exact ((h.of_supply hsame).enterGroup (by rwa [hf])).launch

theorem orderWalk (os : List Order) (h : s.Meets k) : (Machine.orderWalk os s).state.Meets k := by
  induction os generalizing s with
  | nil => exact h
  | cons o os ih =>
    unfold Machine.orderWalk; split
    · exact h
    · split
      · exact h
      · split
        · exact h
        · split
          · exact ih (raise (s := { s with orders := s.orders.tail }) h)
          · dsimp only; split
            · next hfit => exact ih (h.admitOrder hfit)
            · exact h

/-! ## The Shed List -/

theorem setShedMove (h : s.Meets k) {m : Option ShedMove} : (s.setShedMove d m).Meets k := h

theorem setShedResult (h : s.Meets k) {r : ShedResult} : (s.setShedResult d r).Meets k := h

theorem admitShed (h : s.Meets k) {p : MovePlan} (hfit : s.feeder.groupFits p.draw = true) : (s.admitShed d p).Meets k := by
  have hroom : k = .marked → (s.unlistShed d).feeder.d + p.draw ≤ (s.unlistShed d).feeder.allowance :=
    fun _ => room_of_groupFits hfit
  exact ite h.unlistShed.setShedResult (setShedMove (setMotion (writeLoad
    (h.unlistShed.enterShed (entered_enterReservation _ _ _ _) hroom))))

theorem shedListWalk (es : List ShedEntry) (h : s.Meets k) : (Machine.shedListWalk es s).state.Meets k := by
  induction es generalizing s with
  | nil => exact h
  | cons e es ih =>
    unfold Machine.shedListWalk; split
    · exact h
    · split
      · exact ih h.unlistShed.setShedResult
      · dsimp only; split
        · next hfit => exact ih (h.admitShed hfit)
        · exact h

/-! ## Rounds -/

theorem admissionRound (h : s.Meets k) : s.admissionRound.Meets k := by
  have hstow := h.stowTurn
  unfold State.admissionRound; dsimp only; split
  · exact hstow
  · have hresume := hstow.resumeWalk allSlots
    split
    · exact hresume
    · have horder := hresume.orderWalk (Machine.resumeWalk allSlots s.stowTurn.state).state.orders
      split
      · exact horder
      · exact horder.shedListWalk _

theorem settleFuel (n : Nat) (h : s.Meets k) : (Machine.settleFuel n s).Meets k := by
  induction n generalizing s with
  | zero => exact h
  | succ n ih =>
    refine ite (ih (judgeRestored ?_)) (ite (ih (admissionRound ?_)) (ite (ih (poweringScan ?_)) h)) <;> exact h

theorem settle (h : s.Meets k) : s.settle.Meets k := h.settleFuel _

end State.Meets

end Sys2Proof.Machine
end

section
/-! What frame starts, reports, losses, deadlines and requests keep of the feeder's laws. -/

namespace Sys2Proof.Machine

namespace State.Meets

variable {s t : State} {k : FeederClause} {d : DishId} {g : SlotId} {z : ZoneId}

/-! ## Frame start -/

theorem writeSteps (h : s.Meets k) {az el : Int} : (s.writeSteps g az el).Meets k := h.onDishes fun _ _ hs => ite hs hs

theorem starve (h : s.Meets k) {c : StarveCause} : (s.starve g c).Meets k := h.setStream.setGroupState.writeSteps.raise

theorem coastStep (h : s.Meets k) : (s.coastStep g).Meets k := by
  unfold State.coastStep; dsimp only; split
  · split
    · exact h.setStream.writeSteps
    · exact h.starve
  · exact h.starve

theorem passFinish (h : s.Meets k) : (s.passFinish g).Meets k := h.passPositioned.setStream

theorem judgeLow (h : s.Meets k) {n : Nat} : (s.judgeLow g n).Meets k := ite h.setStream.raise h

theorem lockEntry (h : s.Meets k) {e : TrackEntry} {f : LimitFailure} : (s.lockEntry g e f).Meets k := h

theorem passEntry (h : s.Meets k) {e : TrackEntry} {rest : List TrackEntry} : (s.passEntry g e rest).Meets k :=
  h.setStream.writeSteps.judgeLow

theorem consume (h : s.Meets k) : (s.consume g).Meets k := by
  unfold State.consume; dsimp only; split
  · split
    · exact h.passFinish
    · split
      · exact h
      · split
        · split
          · exact h.passEntry
          · exact h.lockEntry
        · exact h.coastStep
  · exact ite h.writeSteps h
  all_goals exact h

/-! ## Reports and losses -/

theorem endShed (h : s.Meets k) {r : ShedResult} : (s.endShed d r).Meets k := h

theorem failShed (h : s.Meets k) {p : Motion} : (s.failShed d p).Meets k := ite h.endShed h

theorem faultByReport (h : s.Meets k) : (s.faultByReport d).Meets k :=
  h.faultDish.excludeMember.stowOnFault.failShed.answerBlock

theorem loseDish (h : s.Meets k) : (s.loseDish d).Meets k := by
  unfold State.loseDish; dsimp only
  exact h.writeStop.setMotion.excludeMember.stowOnLoss.failShed.answerBlock

theorem applyAt (h : s.Meets k) {p : Fin 96} : (State.applyAt d s p).Meets k := by
  unfold State.applyAt; split
  · exact h
  · split <;> exact h

theorem applyPending (h : s.Meets k) : (s.applyPending d).Meets k := by
  have happlied := h.foldl (f := State.applyAt d) (fun _ _ hs => hs.applyAt) lockPositions
  unfold State.applyPending; dsimp only
  generalize lockPositions.foldl (State.applyAt d) s = u at happlied
  exact askRound (ite happlied.writeHoldBrake happlied)

theorem lockReport (h : s.Meets k) : (s.lockReport d).Meets k := ite h.applyPending h

theorem drawFresh (h : s.Meets k) : s.drawFresh.Meets k := h

theorem reportIdle (h : s.Meets k) : (s.reportIdle d).Meets k :=
  ite (ite h.drawFresh.applyPending.enterIdle h.drawFresh.enterIdle) h.enterIdle

theorem reportStop (h : s.Meets k) : (s.reportStop d).Meets k := h.stopDish.rejoinUnreachable

theorem stateRules (h : s.Meets k) : (s.stateRules d).Meets k := by
  unfold State.stateRules; dsimp only; split
  · exact ite h.reportIdle h.reportStop
  · exact ite h.stopDish h
  · exact ite h.reportIdle h
  · exact ite h.writeStop (ite h.writeHoldBrake h)
  · exact ite h.reportIdle h
  · exact answerBlock (ite h.reportIdle h.reportStop)
  all_goals exact h

theorem reportRules (h : s.Meets k) : (s.reportRules d).Meets k := ite h.faultByReport h.stateRules

theorem stowOnSwitch (h : s.Meets k) : (s.stowOnSwitch d).Meets k := ite h.stopDish.markDish h.stowOnLocked

theorem holdIfIdle (h : s.Meets k) : (s.holdIfIdle d).Meets k := ite h.writeHoldBrake h

theorem switchSet (h : s.Meets k) : (s.switchSet d).Meets k :=
  h.excludeMember.stowOnSwitch.stopShed.skipShed.holdIfIdle.answerBlock

theorem moveLockEnded (h : s.Meets k) : (s.moveLockEnded d).Meets k := ite h (rejoinBlocked (ite h.putSlot h))

theorem switchClear (h : s.Meets k) : (s.switchClear d).Meets k := h.moveLockEnded.answerBlock.askRound

theorem switchReport (h : s.Meets k) {b : Bool} : (s.switchReport d b).Meets k := by
  unfold State.switchReport; split
  · exact h.switchSet
  · exact h.switchClear
  · exact h
  · exact h

theorem markArrived (h : s.Meets k) : (s.markArrived g d).Meets k := ite h.setMember.judgeGroup h

theorem returnMember (h : s.Meets k) : (s.returnMember g d).Meets k := h.setMotion.writeHoldBrake.setMember.judgeGroup

theorem stopBraked (h : s.Meets k) : (s.stopBraked g d).Meets k := h.stopDish.setMember

theorem groupReport (h : s.Meets k) : (s.groupReport d).Meets k := by
  unfold State.groupReport; split
  · exact h
  · split
    · exact ite h.setMember.judgeGroup h
    · exact h.markArrived
    · exact ite h.returnMember h
    iterate 3 exact ite h.stopBraked (ite h.returnMember h)
    all_goals exact h

theorem stowArrive (h : s.Meets k) : (s.stowArrive d).Meets k :=
  h.setMotion.writeHoldBrake.releaseReservation.setMove.checkStowedHold

theorem stowReport (h : s.Meets k) : (s.stowReport d).Meets k := by
  unfold State.stowReport; dsimp only; split
  · split
    · exact h
    · split
      · exact ite h.writeGo.setMove h
      · exact ite h.stowArrive h
  · exact h

theorem shedReport (h : s.Meets k) : (s.shedReport d).Meets k := by
  unfold State.shedReport; dsimp only; split
  · split
    · exact h
    · split
      · exact ite h.writeGo.setShedMove h
      · exact ite (ite h.releaseReservation.endShed.enterIdle h) (ite h.writeHoldBrake.setShedMove h)
  · exact h

theorem takeReport (h : s.Meets k) {r : Report} : (s.takeReport d r).Meets k := by
  have hstored : (s.storeReport d r).Meets k := h
  rw [takeReport_eq]
  exact hstored.reportRules.lockReport.switchReport.groupReport.stowReport.shedReport

theorem judgeLoss (h : s.Meets k) : (s.judgeLoss d).Meets k := ite h.loseDish.settle h

/-! ## Orders and groups -/

theorem excludeAll (h : s.Meets k) {ds : List DishId} {w : ExclReason} : (s.excludeAll g ds w).Meets k :=
  h.onDishes fun _ _ hs => ite hs.exclude hs

theorem removeOrder (h : s.Meets k) {tag : Nat} : (s.removeOrder tag).Meets k := by
  unfold State.removeOrder; dsimp only; split <;> exact h

theorem commit (h : s.Meets k) {x : Staging} : (s.commit x).Meets k := by
  unfold State.commit; dsimp only; split <;> exact h

theorem hold (h : s.Meets k) {f : HeldFrom} : (s.hold g f).Meets k :=
  setGroup (h.onDishes (f := State.stopDish) fun _ _ hs => hs.stopDish)

theorem releaseBraked (h : s.Meets k) : (s.releaseBraked g).Meets k :=
  (h.onDishes (f := State.releaseMember) fun _ _ hs => ite hs.leaveGroup.enterIdle hs.leaveGroup).freeSlot

theorem pushEntries (h : s.Meets k) {es : List TrackEntry} : (s.pushEntries g es).Meets k := ite h (ite h h)

theorem flush (h : s.Meets k) : (s.flush g).Meets k := by unfold State.flush; dsimp only; split <;> exact h

theorem clearFault (h : s.Meets k) : (s.clearFault g).Meets k := by unfold State.clearFault; dsimp only; split <;> exact h

/-! ## Weather -/

theorem offerSnapshot (h : s.Meets k) {m : MastId} {x : SnapEntry} : (s.offerSnapshot m x).Meets k := ite h h

theorem noteTrip (h : s.Meets k) {m : MastId} {x : Option Level} : (s.noteTrip m x).Meets k := by
  unfold State.noteTrip; dsimp only; split <;> exact h

theorem setMast (h : s.Meets k) {m : MastId} {x : Mast} : (s.setMast m x).Meets k := h

theorem answerSample (h : s.Meets k) {m : MastId} {x : SnapEntry} : (s.answerSample m x).Meets k :=
  ite h.tripTrigger (ite h.judgeWeather h)

theorem takeSample (h : s.Meets k) {m : MastId} {mean gust : Nat} : (s.takeSample m mean gust).Meets k :=
  h.setMast.offerSnapshot.noteTrip.answerSample

theorem goStale (h : s.Meets k) {m : MastId} : (s.goStale m).Meets k := by
  unfold State.goStale; dsimp only
  exact ite h.setMast.offerSnapshot.noteTrip.plainTrigger h.setMast.offerSnapshot.noteTrip.judgeWeather

theorem writeMast (h : s.Meets k) {flags : Vector (Option Bool) 6} {m : MastId} : (State.writeMast flags s m).Meets k := by
  unfold State.writeMast; split
  · exact h
  · next b _ =>
    have hput : (s.putConfigured m b).Meets k := h
    exact ite h hput.setMast.offerSnapshot

theorem judgeMast (h : s.Meets k) {flags : Vector (Option Bool) 6} {m : MastId} : (State.judgeMast flags s m).Meets k := by
  unfold State.judgeMast; dsimp only
  exact ite h.writeMast h.writeMast.judgeWeather

theorem judgeStaleWrite (h : s.Meets k) {before : State} (ht : t.Meets k) : (s.judgeStaleWrite before t).Meets k :=
  ite h.plainTrigger ht

theorem takeMasts (h : s.Meets k) {flags : Vector (Option Bool) 6} : (s.takeMasts flags).Meets k := by
  unfold State.takeMasts State.writeMasts State.judgeMasts
  exact judgeStaleWrite (h.foldl (fun _ _ hs => hs.writeMast) _) (h.foldl (fun _ _ hs => hs.judgeMast) _)

theorem answerWind (h : s.Meets k) {before : State} : (s.answerWind before).Meets k := ite h (h.judgeStaleWrite h.judgeRelease)

/-! ## Configuration and DRIVE RESET -/

theorem unframe (h : s.Meets k) : (s.unframe d).Meets k := h

theorem clearPresent (h : s.Meets k) : (s.clearPresent d).Meets k := by
  have hcancelled := h.foldl (f := State.cancelZone) (fun _ _ hs => hs.cancelZone) (zonesOf d)
  unfold State.clearPresent; dsimp only
  exact hcancelled.iceAfterCancel.askScan.setDish.unframe.setMark

theorem setPresent (h : s.Meets k) : (s.setPresent d).Meets k := by
  unfold State.setPresent; dsimp only
  exact ite h.setMotion.setMark h.setMotion

theorem answerPresent (h : s.Meets k) {b : Bool} : (s.answerPresent d b).Meets k := by
  unfold State.answerPresent; split
  · exact h.clearPresent
  · exact h.setPresent
  · exact h
  · exact h

theorem resetStow (h : s.Meets k) : s.resetStow.Meets k :=
  ite (h.onDishes (f := State.resetStowing) fun _ _ hs => ite hs.stopDish.setMove hs).buildQueue h

theorem driveReset (h : s.Meets k) : s.driveReset.Meets k := by
  have hempty : { s with staging := none, resetCommit := s.afterReset, orders := [] }.Meets k := h
  exact hempty.dissolveAll.clearSheds.resetStow.askJudge

/-! ## Locks and census -/

theorem conflictIfQueued (h : s.Meets k) : (s.conflictIfQueued d).Meets k := ite h.raiseConflict h

theorem answerMoveLock (h : s.Meets k) : (s.answerMoveLock d).Meets k := by
  have hskip : (s.skipShed d).Meets k := h.skipShed
  unfold State.answerMoveLock; dsimp only; split
  · exact excludeMember (ite hskip.writeHoldBrake.stowOnLocked hskip.conflictIfQueued)
  · exact hskip.excludeMember
  · exact hskip.conflictIfQueued.excludeMember
  · exact hskip.raiseConflict
  · exact hskip.stopShed
  all_goals exact hskip

theorem answerPlacing (h : s.Meets k) {before : State} {sc : Scope} : (s.answerPlacing before d sc).Meets k := by
  have hmove : (if sc = .heat ∨ 1 ≤ before.appliedMove d then s else s.answerMoveLock d).Meets k := ite h h.answerMoveLock
  unfold State.answerPlacing; dsimp only
  exact ite hmove hmove.answerBlock

theorem putLock (h : s.Meets k) {i : Fin 96} {e : Option LockEntry} : (s.putLock i e).Meets k := h

theorem moveEntryGone (h : s.Meets k) {e : LockEntry} : (s.moveEntryGone e).Meets k := by
  unfold State.moveEntryGone; split
  · exact h
  · exact ite h h.moveLockEnded

theorem heatEntryGone (h : s.Meets k) {e : LockEntry} : (s.heatEntryGone e).Meets k := ite h h.answerBlock

theorem answerRemoval (h : s.Meets k) {e : LockEntry} : (s.answerRemoval e).Meets k := by
  refine askRound ?_
  unfold State.entryGone; split
  · exact h.moveEntryGone
  · exact h.heatEntryGone
  · exact h.moveEntryGone.heatEntryGone

theorem completeCensus (h : s.Meets k) {n : StationId} : (s.completeCensus n).Meets k := by
  have hdeclared : { s with locks := { s.locks with census := .complete n s.locks.seconds } }.Meets k := h
  generalize hu : { s with locks := { s.locks with census := .complete n s.locks.seconds } } = u at hdeclared
  have hcleared : (u.setSource .censusRequired fun x => { x with pending := false }).Meets k := hdeclared
  unfold State.completeCensus; dsimp only
  rw [hu]
  exact hcleared.reblockAll.askRound

/-! ## Allowance and melt -/

theorem putAllowance_up (h : s.Meets k) (hk : k ≠ .marked) {v : Nat} (hv : s.feeder.allowance ≤ v) :
    (s.putAllowance v).Meets k := by
  cases k with
  | fitted => exact Or.imp id (fun hfit => Nat.le_trans hfit hv) h
  | marked => exact absurd rfl hk
  | named => exact h

/-- A lowered allowance sheds heaters until they fit, and a raised one covers what fitted before (R118, R122). -/
theorem shedTo (h : s.Meets k) (hk : k ≠ .marked) {v : Nat} : (s.shedTo v).Meets k := by
  unfold State.shedTo; split
  · cases k with
    | fitted => exact shedHeaters_fitted _
    | marked => exact absurd rfl hk
    | named => exact shedHeaters (s := s.putAllowance v) h
  · next hv => exact h.putAllowance_up hk (Nat.le_of_not_lt hv)

/-- The judgement of SET ALLOWANCE marks a feeder that is overdrawn (R123). -/
theorem judgeOverCommit {n : Nat} (h : k ≠ .marked → s.Meets k) : (s.judgeOverCommit n).Meets k := by
  unfold State.judgeOverCommit; dsimp only; split
  · cases k with
    | fitted => exact h nofun
    | marked => exact fun _ => Option.some_ne_none _
    | named => exact h nofun
  · next hle =>
    cases k with
    | fitted => exact (h nofun).judgeRestored
    | marked => exact judgeRestored (k := .marked) fun hlt => absurd hlt hle
    | named => exact (h nofun).judgeRestored

theorem noteCut (h : s.Meets k) {b : Bool} {n : Nat} : (s.noteCut b n).Meets k := ite h.raise h

theorem takeAllowance (h : s.Meets k) {v : Nat} : (s.takeAllowance v).Meets k :=
  (judgeOverCommit fun hk => h.shedTo hk).noteCut.askRound.askScan

theorem addEnergy (h : s.Meets k) {n : Nat} : (s.addEnergy n z).Meets k := by
  unfold State.addEnergy; dsimp only
  split
  · next hz =>
    generalize hst : (if s.blocks z.dish then ZoneState.blocked else ZoneState.waiting) = st
    have hout : st ≠ .powered := by rw [← hst]; split <;> nofun
    have hjoined := h.setUnpowered (z := z)
      (f := fun x => { x with state := st, remaining := min energyLimit ((s.zone z).remaining + n) }) (by rw [hz]; nofun) hout
    exact hjoined
  all_goals exact h.setZone Iff.rfl

theorem setIce (h : s.Meets k) : (s.setIce d).Meets k :=
  ite h (excludeMember (s := { s with melt := { s.melt with ice := s.melt.ice.set d true } }) h)

theorem takeOffer (h : s.Meets k) {o : ShedOffer} : (s.takeOffer d o).Meets k := by cases o <;> exact h

theorem meltZones (h : s.Meets k) {kinds : List ZoneKind} {n : Nat} {ice : Bool} : (s.meltZones kinds n ice d).Meets k := by
  have henergy := h.foldl (f := fun s x => s.addEnergy n ⟨d, x⟩) (fun _ _ hs => hs.addEnergy) kinds
  exact ite henergy.setIce henergy

theorem meltWalk {kinds : List ZoneKind} {n : Nat} {ice shed : Bool} (ds : List DishId) (h : s.Meets k) :
    (Machine.meltWalk kinds n ice shed ds s).1.Meets k := by
  induction ds generalizing s with
  | nil => exact h
  | cons d ds ih => exact ih h.meltZones.takeOffer

theorem cancelDish (h : s.Meets k) {kinds : List ZoneKind} : (s.cancelDish kinds d).Meets k :=
  (h.foldl (f := fun (s : State) x => s.cancelZone ⟨d, x⟩) (fun _ _ hs => hs.cancelZone) kinds).iceAfterCancel.skipShed

theorem meterZone (h : s.Meets k) : (s.meterZone z).Meets k := by
  unfold State.meterZone; dsimp only
  exact ite (ite (h.chargeZone.unpower (st := .idle) nofun) h.chargeZone) h

theorem toTail (h : s.Meets k) : (s.toTail z).Meets k := ite h h

theorem slotExpired (h : s.Meets k) : (s.slotExpired z).Meets k :=
  ite (h.unpower (st := .waiting) nofun).toTail.settle (h.setZone Iff.rfl)

end State.Meets

end Sys2Proof.Machine
end

section
/-! Each step of the opcode table keeps the feeder's laws (R115, R118, R123). -/

namespace Sys2Proof.Machine

namespace State.Meets

variable {s t : State} {k : FeederClause} {p : Port}

/-! ## Ports and responses -/

theorem answer (h : s.Meets k) {src : Sender} {r : Request} {st : Status} {bs : List Byte} : (s.answer src r st bs).Meets k :=
  h.of_supply (by simp [State.supply, State.answer, State.respond])

theorem respond (h : s.Meets k) {src : Sender} {c : Byte} {st : Status} {bs : List Byte} : (s.respond src c st bs).Meets k :=
  h.of_supply (by simp [State.supply, State.respond])

theorem refuse (h : s.Meets k) {src : Sender} {r : Request} {st : Status} : (s.refuse src r st).Meets k := h.answer

theorem setViolation (h : s.Meets k) {v : Violation} : (s.setViolation p v).Meets k := by
  rw [setViolation_ports]; exact h

theorem endTransaction (h : s.Meets k) : (s.endTransaction p).Meets k := by
  rw [endTransaction_ports]; exact h

theorem abandon (h : s.Meets k) : (s.abandon p).Meets k := by cases p <;> exact h

theorem refuseWrite (h : s.Meets k) {src : Sender} : (s.refuseWrite src).Meets k := h.answer.drawFresh

theorem judgeWrite (h : s.Meets k) {src : Sender} {any : Bool} {oks : List Bool} {c : Bool} (ht : t.Meets k) :
    (s.judgeWrite src any oks c t).Meets k := by
  unfold State.judgeWrite; split
  · exact h.refuseWrite
  · split
    · exact h.answer
    · exact ite ht h.refuseWrite

theorem onSlot (h : s.Meets k) {src : Sender} {r : Request} {n : Nat} {take : SlotId → State} (ht : ∀ g, (take g).Meets k) :
    (s.onSlot src r n take).Meets k := by
  unfold State.onSlot; split
  · exact ht _
  · exact h.refuse

theorem onStream (h : s.Meets k) {src : Sender} {r : Request} {g : SlotId} (ht : t.Meets k) :
    (s.onStream src r g t).Meets k := ite ht h.refuse

/-! ## Attention -/

theorem setSource (h : s.Meets k) {x : Source} {f : SourceState → SourceState} : (s.setSource x f).Meets k := h

theorem keepCensusRaised (h : s.Meets k) : s.keepCensusRaised.Meets k := ite h h.raise

theorem takeAttention (h : s.Meets k) {src : Sender} : (s.takeAttention src).Meets k := by
  unfold State.takeAttention; dsimp only; split
  · exact h.answer
  · exact h.setSource.keepCensusRaised.answer

theorem maskSources (h : s.Meets k) {mask : Byte} (xs : List Source) (n : Nat) : (State.maskSources mask xs n s).Meets k := by
  induction xs generalizing n s with
  | nil => exact h
  | cons x xs ih => exact ih h.setSource _

theorem resetPort (h : s.Meets k) : ((s.emptyHolders p).portResetBlocks p).Meets k := by
  cases p with
  | scheduler => exact h
  | safety => exact h
  | maintenance => exact keepCensusRaised (s := s.emptyHolders .maintenance) h

/-! ## Staging and configuration -/

theorem putStaging (h : s.Meets k) {x : Option Staging} : { s with staging := x }.Meets k := h

theorem putSettings (h : s.Meets k) {x : Settings} : { s with settings := x }.Meets k := h

theorem putStations (h : s.Meets k) {v : Vector StationSettings 4} : (s.putStations v).Meets k := h

/-! ## Requests that settle -/

theorem writeDish (h : s.Meets k) {src : Sender} {d : DishId} {c : DishSettings} : (s.writeDish src d c).Meets k := by
  have hput : (s.putCfg d c).Meets k := h.putSettings
  unfold State.writeDish; dsimp only
  exact ite h.answer hput.answerPresent.settle.answer

theorem placeLock (h : s.Meets k) {src : Sender} {n : StationId} {d : DishId} {sc : Scope} {tag : Nat} :
    (s.placeLock src n d sc tag).Meets k := by
  unfold State.placeLock
  refine ite h.refuse (ite h.answer ?_)
  split
  · exact h.answer
  · exact h.putLock.answerPlacing.settle.answer

theorem removeLock (h : s.Meets k) {src : Sender} {i : Fin 96} {e : LockEntry} : (s.removeLock src i e).Meets k :=
  h.putLock.answerRemoval.settle.answer

/-- An event keeps what its meaning keeps. -/
theorem event {take : State} (h : s.Meets k) (he : Machine.event s take = .next t) (ht : take.Meets k) : t.Meets k := by
  rcases event_cases he with ⟨-, rfl⟩ | ⟨-, rfl⟩
  · exact h
  · exact ht

/-- A request keeps what its meaning keeps. -/
theorem serve {α : Type} {src : Sender} {r : Request} {body : Body α} {take : α → State} (h : s.Meets k)
    (he : Machine.serve src r body s take = .next t) (ht : ∀ f, (take f).Meets k) : t.Meets k := by
  rcases serve_cases he with ⟨-, rfl⟩ | ⟨-, rfl⟩ | ⟨-, -, rfl⟩ | ⟨f, -, -, -, rfl⟩
  · exact h
  · exact h.setViolation.refuse
  · exact h.refuse
  · exact ht f

end State.Meets

/-! ## The steps, one by one -/

/-- The state right after power-on reset meets the laws: no reservation, no heater. -/
theorem reset_meets (k : FeederClause) : State.reset.Meets k := by
  have hd : State.reset.feeder.d = 0 := by simp [State.reset, Feeder.reset, Feeder.d, amountOf]
  cases k with
  | fitted => exact .inl rfl
  | marked => exact fun (hlt : 1200 < State.reset.feeder.d) => by omega
  | named =>
    refine ⟨fun ⟨d, zk⟩ => iff_of_false ?_ List.not_mem_nil, List.nodup_nil⟩
    cases zk <;> simp [State.supply, State.reset, Melt.reset, DishZones.get, Zone.reset]

/-- Every step of the opcode table keeps each of the feeder's laws. -/
theorem exec_meets {i : Instr} {s t : State} {k : FeederClause} (h : exec i s = .next t) (m : s.Meets k) : t.Meets k := by
  cases i with
  | powerOnReset => cases h; exact reset_meets k
  | frameStart =>
    have hnext : s.nextFrame.Meets k := m
    exact m.event h (hnext.foldl (fun _ _ hs => hs.consume) _).settle
  | commandSend d =>
    refine m.event h (.ite ?_ m)
    unfold State.sendTo State.advance; dsimp only; split <;> exact m
  | validReport d r =>
    have hclosed : s.closeWindow.Meets k := m
    exact m.event h (.ite hclosed.takeReport.settle m)
  | miss d =>
    have hcounted : (s.closeWindow.countMiss d).Meets k := m
    exact m.event h (.ite hcounted.judgeLoss m)
  | lossOfDish d => exact m.event h m.judgeLoss
  | loadAckLimit g | arrivalGrace g => exact m.event h (.ite m.excludeAll.settle m)
  | orderExpiry tag => exact m.event h (.ite m.removeOrder.raise.settle m)
  | stowMoveTimeout d => exact m.event h (.ite m.faultDish.markDish.settle m)
  | shedMoveTimeout d => exact m.event h (.ite m.faultDish.endShed.settle m)
  | admissionRound => exact m.event h m.admissionRound.settle
  | poweringScan => exact m.event h m.poweringScan
  | mastStalenessExpiry n =>
    refine m.event h ?_
    split
    · exact m
    · next x _ =>
      have hpassed : (s.passTo x).Meets k := m
      exact .ite hpassed.goStale.settle m
  | holdOffExpiry =>
    refine m.event h ?_
    split
    · exact m
    · next x _ =>
      have hpassed : (s.passTo x).Meets k := m
      exact .ite hpassed.enterClear.settle m
  | meltSlotExpiry z =>
    refine m.event h ?_
    split
    · exact m
    · next x _ =>
      have hpassed : (s.passTo x).Meets k := m
      exact .ite hpassed.slotExpired m
  | meterTimerExpiry =>
    have hrestarted : (s.passTo s.melt.meterTimer).restartMeter.Meets k := m
    exact m.event h (hrestarted.foldl (fun _ _ hs => hs.meterZone) _).settle
  | secondsCountTick => exact m.event h m
  | linkTimeout l => exact m.event h m.abandon
  | maintenanceLinkTimeout n => cases h; exact .ite m.abandon m
  | fetchResponse src => cases h; exact .ite m.endTransaction m
  | unknownRequest src c => cases h; exact .ite m.respond m
  | badFrame src first =>
    cases h
    refine .ite ?_ m
    split
    · exact .ite m.endTransaction m.respond
    · exact m.respond.drawFresh
  | resetPinAsserted => cases h; exact m
  | openOrder src body =>
    refine m.serve h fun f => ?_
    split
    · exact m.refuse
    · exact .ite m.putStaging.answer m.refuse
  | addMembers src body =>
    refine m.serve h fun f => ?_
    split
    · exact m.refuse
    · split
      · exact m.refuse
      · exact .ite m.refuse (.ite m.refuse m.putStaging.answer)
  | commitOrder src body =>
    have hended : s.endResetCommit.Meets k := m
    refine m.serve h fun f => ?_
    dsimp only
    split
    · exact hended.refuse
    · exact .ite hended.refuse (.ite hended.refuse (.ite hended.refuse hended.commit.settle.answer))
  | cancelOrder src body => exact m.serve h fun f => .ite m.removeOrder.settle.answer (.ite m.refuse m.refuse)
  | holdGroup src body =>
    refine m.serve h fun f => m.onSlot fun g => ?_
    split
    iterate 2 exact m.hold.settle.answer
    iterate 2 exact m.hold.setStream.settle.answer
    · exact m.setGroupState.answer
    all_goals exact m.refuse
  | resumeGroup src body =>
    refine m.serve h fun f => m.onSlot fun g => ?_
    split
    · exact .ite m.refuse m.setGroupState.askRound.settle.answer
    all_goals exact m.refuse
  | releaseGroup src body =>
    refine m.serve h fun f => m.onSlot fun g => ?_
    split
    iterate 2 exact m.releaseBraked.settle.answer
    iterate 2 exact m.endGroup.settle.answer
    all_goals exact m.refuse
  | abortGroup src body => exact m.serve h fun f => m.onSlot fun g => .ite m.refuse m.endGroup.settle.answer
  | pushTrack src body =>
    exact m.serve h fun f => m.onSlot fun g => .ite m.refuse (m.onStream m.pushEntries.answer)
  | flushTrack src body => exact m.serve h fun f => m.onSlot fun g => m.onStream m.flush.answer
  | clearTrackFault src body =>
    exact m.serve h fun f => m.onSlot fun g => m.onStream (.ite m.refuse m.clearFault.answer)
  | readGroup src body => exact m.serve h fun f => m.onSlot fun g => m.answer
  | readQueue src body | readWeather src body | readFeeder src body => exact m.serve h fun f => m.answer
  | windSample src body =>
    refine m.serve h fun f => ?_
    split
    · exact m.refuse
    · exact m.takeSample.settle.answer
  | stowArray src body => exact m.serve h fun f => m.plainTrigger.settle.answer
  | releaseStow src body =>
    refine m.serve h fun f => ?_
    split
    · exact m.enterClear.settle.answer
    all_goals exact m.refuse
  | resetWeatherSnapshot src body =>
    refine m.serve h fun f => State.Meets.answer ?_
    split <;> exact m
  | setAllowance src body => exact m.serve h fun f => .ite m.answer m.takeAllowance.settle.answer
  | setMeltGuard src body =>
    refine m.serve h fun f => .ite m.answer (State.Meets.settle ?_).answer
    cases k <;> exact m
  | meltOrder src body =>
    refine m.serve h fun f => ?_
    split
    · exact m.refuse
    · exact .ite m.refuse (m.meltWalk _).askScan.settle.answer
  | cancelMelt src body =>
    refine m.serve h fun f => ?_
    split
    · exact m.refuse
    · exact .ite m.refuse (m.onDishes fun _ _ hs => hs.cancelDish).askScan.settle.answer
  | readMelt src body | readLocks src body =>
    refine m.serve h fun f => .ite m.answer ?_
    split
    · exact m.answer
    · exact m.refuse
  | writeConfigDish src body =>
    refine m.serve h fun f => ?_
    split
    · exact m.judgeWrite m.writeDish
    · exact m.refuseWrite
  | writeConfigMast src body => exact m.serve h fun f => m.judgeWrite m.takeMasts.settle.answer
  | writeConfigWind src body =>
    refine m.serve h fun f => m.judgeWrite ?_
    have hput : (s.putWind (windAfter f s.settings.wind)).Meets k := m
    exact hput.answerWind.settle.answer
  | writeConfigTrack src body | writeConfigMelt src body => exact m.serve h fun f => m.judgeWrite m.putSettings.answer
  | writeConfigStation src body => exact m.serve h fun f => m.judgeWrite m.putStations.answer
  | readConfig src body =>
    refine m.serve h fun f => ?_
    split
    · exact m.refuse
    · exact m.answer
  | driveReset src body => exact m.serve h fun f => m.driveReset.settle.answer
  | placeLock src body =>
    refine m.serve h fun f => ?_
    split
    · exact m
    · split
      · split
        · exact m.refuse
        · exact .ite m.placeLock m.refuse
      · exact m.refuse
  | releaseLock src body =>
    refine m.serve h fun f => ?_
    split
    · refine .ite ?_ m.refuse
      split
      · exact m.refuse
      · split
        · exact m.refuse
        · exact m.removeLock
    · exact m.refuse
  | censusComplete src body =>
    refine m.serve h fun f => ?_
    split
    · exact m.completeCensus.settle.answer
    · exact m.refuse
    · exact m
  | readDish src body =>
    refine m.serve h fun f => ?_
    split
    · exact m.answer
    · exact m.refuse
  | takeAttention src body => exact m.serve h fun f => m.takeAttention
  | endAttention src body =>
    refine m.serve h fun f => ?_
    split
    · exact m.refuse
    · exact m.setSource.answer
  | setAttentionMask src body => exact m.serve h fun f => .ite m.refuse (m.maskSources _ _).answer
  | readViolation src body => exact m.serve h fun f => m.setViolation.answer
  | portReset src body =>
    exact m.serve h fun f => (m.foldl (fun _ _ hs => hs.setSource) _).resetPort.answer

/-- Settles O58: each clause of FeederLawful is kept by itself, by the step at the front of the queue and by the 1 ms that passes. -/
theorem stepKeepsFeederLawful : Obligations.StepKeepsFeederLawful := by
  intro s t h hs
  refine feederLawful_iff.2 fun k => ?_
  have m : s.Meets k := feederLawful_iff.1 hs k
  unfold step at h; split at h
  · cases h
    unfold State.idle; split <;> exact m
  · next i rest _ => exact exec_meets (s := { s with pending := rest }) h m

end Sys2Proof.Machine
end

section
/-! SET ALLOWANCE and SET MELT GUARD: what they leave of the feeder, and how little the rounds that they ask for do where nobody is
admitted (R118, R122 to R124). -/

namespace Sys2Proof.Machine

section
variable {s t : State} {v n : Nat}

/-! ## The feeder shed, judged and settled -/

theorem unpower_feeder (s : State) (z : ZoneId) (st : ZoneState) :
    (s.unpower z st).feeder = { s.feeder with powerOrder := (s.unpower z st).feeder.powerOrder } := by
  unfold State.unpower; dsimp only
  split
  · unfold State.completeZone; dsimp only
    split <;> rfl
  · rfl

/-- A shed changes the power order alone of the feeder (R118). -/
theorem shedWalk_feeder (xs : List PoweredZone) (s : State) :
    (shedWalk xs s).feeder = { s.feeder with powerOrder := (shedWalk xs s).feeder.powerOrder } := by
  induction xs generalizing s with
  | nil => rfl
  | cons x xs ih =>
    unfold shedWalk; split
    · rfl
    · rw [ih, unpower_feeder]

theorem shedTo_feeder (s : State) (v : Nat) :
    (s.shedTo v).feeder = { s.feeder with allowance := v, powerOrder := (s.shedTo v).feeder.powerOrder } := by
  unfold State.shedTo; split
  · exact shedWalk_feeder _ (s.putAllowance v)
  · rfl

/-- The mark after SET ALLOWANCE stands exactly where D exceeds A, and keeps its cause (R123). -/
theorem judgeOverCommit_feeder (s : State) (n : Nat) : (s.judgeOverCommit n).feeder = { s.feeder with
    overCommit := if s.feeder.allowance < s.feeder.d then some (s.feeder.overCommit.getD .allowance) else none } := by
  unfold State.judgeOverCommit; dsimp only
  split
  · rfl
  · next hle =>
    cases hc : s.feeder.overCommit with
    | none => rw [judgeRestored_keeps (.inl hc), ← hc]
    | some c => rw [judgeRestored_clears hc (Nat.le_of_not_lt hle)]; rfl

theorem noteCut_feeder (s : State) (b : Bool) (n : Nat) : (s.noteCut b n).feeder = s.feeder := by
  unfold State.noteCut; split <;> rfl

theorem takeAllowance_feeder (s : State) (v : Nat) : (s.takeAllowance v).feeder = { s.feeder with
    allowance := v, powerOrder := (s.shedTo v).feeder.powerOrder
    overCommit := if v < s.feeder.d then some (s.feeder.overCommit.getD .allowance) else none } := by
  have hf := shedTo_feeder s v
  have hd : (s.shedTo v).feeder.d = s.feeder.d := by rw [hf]; rfl
  have ha : (s.shedTo v).feeder.allowance = v := by rw [hf]
  have hc : (s.shedTo v).feeder.overCommit = s.feeder.overCommit := by rw [hf]
  change ((State.judgeOverCommit _ _).noteCut _ _).feeder = _
  rw [noteCut_feeder, judgeOverCommit_feeder, hd, ha, hc, hf]

/-- Where nobody is admitted and the over-commit mark agrees with D and A, the rounds and scans of a step change the power order alone
of the feeder. -/
theorem settleFuel_feeder (n : Nat) (hn : NobodyAdmitted s)
    (hmark : s.feeder.overCommit = none ∨ ¬ s.feeder.d ≤ s.feeder.allowance) :
    (settleFuel n s).feeder = { s.feeder with powerOrder := (settleFuel n s).feeder.powerOrder } := by
  induction n generalizing s with
  | zero => rfl
  | succ n ih =>
    unfold settleFuel
    split
    · rw [judgeRestored_keeps (s := { s with judgeDue := false }) hmark]
      exact ih hn hmark
    · split
      · rw [admissionRound_of_nobody (s := { s with roundDue := false }) hn]
        exact ih hn hmark
      · split
        · have hscan := repowered_scanWalk s.melt.rotation { s with scanDue := false }
          have hrest : { s with scanDue := false }.poweringScan.feeder
              = { s.feeder with powerOrder := { s with scanDue := false }.poweringScan.feeder.powerOrder } :=
            congrArg State.feeder hscan.rest
          have hscanned : NobodyAdmitted { s with scanDue := false }.poweringScan :=
            NobodyAdmitted.of_heat (s := { s with scanDue := false }) hn (touches_scanWalk _ _) (within_poweringScan _)
          rw [ih hscanned (by rw [hrest]; exact hmark), hrest]
        · rfl

/-! ## SET ALLOWANCE (R122) -/

/-- What SET ALLOWANCE does once the allowance is set stays within the shared operations. -/
theorem within_takeAllowance (s : State) (v : Nat) : Within (s.putAllowance v) (s.takeAllowance v) := by
  have hshed : Within (s.putAllowance v) (s.shedTo v) := within_ite (within_shedHeaters _) (.refl _)
  exact hshed.trans <| (within_judgeOverCommit _ _).trans <| (within_noteCut _ _ _).trans <|
    (within_askRound _).trans (within_askScan _)

theorem touches_judgeOverCommit (ps : List Place) (s : State) (n : Nat) : Touches ps s (s.judgeOverCommit n) := by
  unfold State.judgeOverCommit; dsimp only; split
  · refine Touches.raise ?_ _ _
    exact .of_same rfl rfl rfl rfl rfl rfl rfl rfl rfl rfl rfl rfl rfl
  · exact touches_judgeRestored _ _

theorem touches_putAllowance (ps : List Place) (s : State) (v : Nat) : Touches ps s (s.putAllowance v) :=
  .of_same rfl rfl rfl rfl rfl rfl rfl rfl rfl rfl rfl rfl rfl

theorem touches_takeAllowance (s : State) (v : Nat) : Touches [.heat] (s.putAllowance v) (s.takeAllowance v) := by
  have hshed : Touches [.heat] (s.putAllowance v) (s.shedTo v) := touches_ite (touches_shedHeaters _) (.refl _ _)
  have hcut : ∀ u b m, Touches [.heat] u (State.noteCut u b m) := fun u b m =>
    touches_ite ((Touches.refl _ u).raise _ _) (.refl _ u)
  exact ((hshed.trans (touches_judgeOverCommit _ _ _)).trans (hcut _ _ _)).askRound.askScan

/-- A lowered allowance leaves D and H within it or no heater powered (R118). -/
theorem takeAllowance_fitted (hv : v < s.feeder.allowance) : (s.takeAllowance v).Meets .fitted := by
  have hshed : (s.shedTo v).Meets .fitted := by
    unfold State.shedTo; rw [if_pos hv]; exact shedHeaters_fitted _
  exact (State.Meets.judgeOverCommit fun _ => hshed).noteCut.askRound.askScan

/-- A reservation total above the allowance set is marked (R123). -/
theorem takeAllowance_marked (s : State) (v : Nat) : (s.takeAllowance v).Meets .marked :=
  (State.Meets.judgeOverCommit (k := .marked) fun hk => absurd rfl hk).noteCut.askRound.askScan

/-- With no contender and no stow in ACTIVE, SET ALLOWANCE leaves the reservations, and the mark as it has judged it. -/
theorem settled_takeAllowance_feeder (hc : s.NoContender) (ha : s.stow.state ≠ .active) (v : Nat) :
    (s.takeAllowance v).settle.feeder = { (s.takeAllowance v).feeder with
      powerOrder := (s.takeAllowance v).settle.feeder.powerOrder } := by
  have hn : NobodyAdmitted (s.takeAllowance v) :=
    NobodyAdmitted.of_heat (s := s.putAllowance v) ⟨ha, .inl hc⟩ (touches_takeAllowance s v) (within_takeAllowance s v)
  refine settleFuel_feeder _ hn ?_
  rw [takeAllowance_feeder]
  change (if v < s.feeder.d then _ else _) = none ∨ ¬ s.feeder.d ≤ v
  split
  · next hlt => exact .inr (Nat.not_le_of_lt hlt)
  · exact .inl rfl

theorem exec_setAllowance (hh : s.hears .safety = true) (v : Nat) : exec (.setAllowance .safety (.fields ⟨v⟩)) s
    = .next (if v = s.feeder.allowance then s.answer .safety .setAllowance .ok (s.allowanceField 0)
      else (s.takeAllowance v).settle.answer .safety .setAllowance .ok
        ((s.takeAllowance v).settle.allowanceField (s.shedCount v))) := serve_taken hh rfl _ _

/-! ## SET MELT GUARD (R124) -/

/-- The guard set. -/
def State.putGuard (s : State) (v : Nat) : State := { s with feeder := { s.feeder with guard := v } }

theorem exec_setMeltGuard (hh : s.hears .safety = true) (v : Nat) : exec (.setMeltGuard .safety (.fields ⟨v⟩)) s
    = .next (if v = s.feeder.guard then s.answer .safety .setMeltGuard .ok (u16 v)
      else (s.putGuard v).askRound.settle.answer .safety .setMeltGuard .ok (u16 v)) := serve_taken hh rfl _ _

end

/-- Settles O45: the answer is composed after the rounds, which keep the feeder's laws and, without contenders, the feeder. -/
theorem allowanceAndGuardSet : Obligations.AllowanceAndGuardSet := by
  unfold Obligations.AllowanceAndGuardSet
  intro v s hh
  refine ⟨fun hv => ?_, fun hv => ?_, fun hv => ?_, fun hv => ?_⟩
  · refine ⟨s.overCommitField, (exec_setAllowance hh v).trans ?_⟩
    rw [if_pos hv, hv]; rfl
  · have hexec := (exec_setAllowance hh v).trans (congrArg _ (if_neg hv))
    have hwithin : Within (s.putAllowance v) (s.takeAllowance v).settle := (within_takeAllowance s v).trans (within_settle _)
    have hallowance : (s.takeAllowance v).settle.feeder.allowance = v := congrArg Fixed.allowance hwithin.fixed
    have hspares : SparesBut [] [] s (s.takeAllowance v).settle :=
      (((touches_putAllowance _ s v).trans (touches_takeAllowance s v)).sparesBut (by simp) (by simp) (by simp) (by simp)).settle
    have hfeeder := fun hc ha => (settled_takeAllowance_feeder (s := s) hc ha v).trans (by rw [takeAllowance_feeder])
    have hfitted := fun hlt => (takeAllowance_fitted (s := s) (v := v) hlt).settle
    have hmarked := (takeAllowance_marked s v).settle
    generalize (s.takeAllowance v).settle = u at hexec hwithin hallowance hspares hfeeder hfitted hmarked
    have hu : (u.answer .safety .setAllowance .ok (u.allowanceField (s.shedCount v))).feeder = u.feeder := putHolder_feeder _ _ _
    have hholder : (u.answer .safety .setAllowance .ok (u.allowanceField (s.shedCount v))).holder .safety
        = some ⟨0x25, .ok, u.allowanceField (s.shedCount v)⟩ := putHolder_holder u .safety _
    refine ⟨_, u8 (s.shedCount v) ++ u.overCommitField, hexec, ?_, ?_, hspares.answer _ _ _ _, fun hlt => ?_, fun hlt => ?_,
      fun hc ha => ?_⟩
    · rw [hholder, hu, State.allowanceField, hallowance]
      simp only [List.append_assoc]
    · rw [hholder]; exact hwithin.putHolder _ _
    · rw [hu, ← hallowance]; exact hfitted hlt
    · rw [hu]; rw [hu, ← hallowance] at hlt
      exact hmarked hlt
    · rw [hu, hfeeder hc ha]; exact ⟨rfl, rfl⟩
  · refine (exec_setMeltGuard hh v).trans ?_
    rw [if_pos hv]; rfl
  · have hwithin : Within (s.putGuard v) (s.putGuard v).askRound.settle := (within_askRound _).trans (within_settle _)
    have hput : Touches [] s (s.putGuard v).askRound :=
      Touches.askRound (.of_same rfl rfl rfl rfl rfl rfl rfl rfl rfl rfl rfl rfl rfl)
    have hspares : SparesBut [] [] s (s.putGuard v).askRound.settle :=
      (hput.sparesBut (by simp) (by simp) (by simp) (by simp)).settle
    have hholder : ((s.putGuard v).askRound.settle.answer .safety .setMeltGuard .ok (u16 v)).holder .safety
        = some ⟨0x26, .ok, u16 v⟩ := putHolder_holder _ .safety (some ⟨0x26, .ok, u16 v⟩)
    refine ⟨_, (exec_setMeltGuard hh v).trans (congrArg _ (if_neg hv)), hholder, ?_, hspares.answer _ _ _ _, fun hq hc ha => ?_⟩
    · rw [hholder]; exact hwithin.putHolder _ _
    · rw [settle_askRound_of_nobody (s := s.putGuard v) hq ⟨ha, .inl hc⟩]
      rfl

end Sys2Proof.Machine
end

section
/-! The powering scan: which zones of the Melt Rotation List it powers, and where it stops (R117, R133). -/

namespace Sys2Proof.Machine

/-- The zone is WAITING. -/
def State.waits (s : State) (z : ZoneId) : Bool := decide ((s.zone z).state = .waiting)

/-- The configured power of a zone. -/
def State.heaterPower (s : State) (z : ZoneId) : Nat := s.settings.melt.power z.kind

/-- A zone record powered by the scan, with its slot timer and charge time (R133). -/
def State.poweredZone (s : State) (z : ZoneId) : Zone :=
  { s.zone z with
    state := .powered, power := some (s.heaterPower z), timer := some (s.clock + s.settings.melt.slot * 1000)
    lastCharge := some s.clock }

/-- Between the two states a scan has walked the list and powered the new zones: each was a WAITING zone of the list that fitted, and the
first zone that waits still does not fit. -/
structure Scanned (zs : List ZoneId) (new : List PoweredZone) (s t : State) : Prop where
  order : t.feeder.powerOrder = s.feeder.powerOrder ++ new
  front : zs.Nodup → ∃ rest, zs.filter s.waits = new.map (·.zone) ++ rest ∧ ∀ z behind, rest = z :: behind →
    s.feeder.allowance < s.feeder.d + (s.feeder.h + (new.map (·.power)).sum) + s.heaterPower z
  powered : ∀ x ∈ new, x.zone ∈ zs ∧ (s.zone x.zone).state = .waiting ∧ x.power = s.heaterPower x.zone
    ∧ t.zone x.zone = s.poweredZone x.zone
  other : ∀ z, z ∉ new.map (·.zone) → t.zone z = s.zone z
  fitted : new ≠ [] → t.feeder.d + t.feeder.h ≤ t.feeder.allowance
  stopped : ∀ z, zs.find? t.waits = some z → t.feeder.allowance < t.feeder.d + t.feeder.h + t.heaterPower z
  rest : t = { s with
    feeder := { s.feeder with powerOrder := t.feeder.powerOrder }, melt := { s.melt with zones := t.melt.zones } }

section
variable {s t : State} {z : ZoneId} {zs : List ZoneId} {new : List PoweredZone}

theorem scanned_nil (s : State) : Scanned [] [] s s where
  order := (List.append_nil _).symm
  front _ := ⟨[], rfl, nofun⟩
  powered := nofun
  other _ _ := rfl
  fitted h := absurd rfl h
  stopped := nofun
  rest := rfl

/-- A WAITING zone that does not fit ends the walk, whatever stands behind it (R133). -/
theorem scanned_stop (hz : (s.zone z).state = .waiting) (hfit : ¬ s.feeder.heaterFits (s.heaterPower z) = true)
    (zs : List ZoneId) : Scanned (z :: zs) [] s s := by
  have hw : s.waits z = true := decide_eq_true hz
  have hlt : s.feeder.allowance < s.feeder.d + s.feeder.h + s.heaterPower z := by
    rw [Feeder.heaterFits, decide_eq_true_eq] at hfit; exact Nat.lt_of_not_le hfit
  refine ⟨(List.append_nil _).symm, fun _ => ⟨_, (List.nil_append _).symm, fun w behind h => ?_⟩, nofun, fun _ _ => rfl,
    fun h => absurd rfl h, fun w h => ?_, rfl⟩
  · rw [List.filter_cons_of_pos (p := s.waits) hw] at h
    obtain rfl : z = w := (List.cons.inj h).1
    exact hlt
  · rw [List.find?_cons_of_pos hw] at h
    obtain rfl : z = w := Option.some.inj h
    exact hlt

/-- A zone that does not wait is passed over. -/
theorem Scanned.skip (h : Scanned zs new s t) (hz : (s.zone z).state ≠ .waiting) : Scanned (z :: zs) new s t where
  order := h.order
  front hn := by
    rw [List.filter_cons_of_neg (by simpa [State.waits] using hz)]
    exact h.front (List.nodup_cons.1 hn).2
  powered x hx := by
    obtain ⟨hmem, hrest⟩ := h.powered x hx
    exact ⟨List.mem_cons_of_mem _ hmem, hrest⟩
  other := h.other
  fitted := h.fitted
  stopped w hw := by
    have hstill : t.zone z = s.zone z := h.other z fun hm => by
      obtain ⟨x, hx, rfl⟩ := List.mem_map.1 hm
      exact hz (h.powered x hx).2.1
    rw [List.find?_cons_of_neg (by simpa [State.waits, hstill] using hz)] at hw
    exact h.stopped w hw
  rest := h.rest

theorem powerZone_zone (s : State) (z w : ZoneId) :
    (s.powerZone z (s.heaterPower z)).zone w = if w = z then s.poweredZone z else s.zone w := by
  unfold State.powerZone
  rw [setZone_zone]; split
  · next e => subst e; rfl
  · rfl

theorem powerZone_h (s : State) (z : ZoneId) (p : Nat) : (s.powerZone z p).feeder.h = s.feeder.h + p := by
  simp [State.powerZone, State.setZone, Feeder.h]

/-- A WAITING zone that fits is powered, and the walk goes on behind it (R133). -/
theorem Scanned.power (hz : (s.zone z).state = .waiting) (hfit : s.feeder.heaterFits (s.heaterPower z) = true)
    (h : Scanned zs new (s.powerZone z (s.heaterPower z)) t) : Scanned (z :: zs) (⟨z, s.heaterPower z⟩ :: new) s t := by
  have hself : (s.powerZone z (s.heaterPower z)).zone z = s.poweredZone z := by rw [powerZone_zone, if_pos rfl]
  have hne : ∀ x ∈ new, x.zone ≠ z := fun x hx e => by
    have hwait := (h.powered x hx).2.1
    rw [e, hself] at hwait; cases hwait
  have hzone : t.zone z = s.poweredZone z := by
    rw [h.other z fun hm => ?_, hself]
    obtain ⟨x, hx, e⟩ := List.mem_map.1 hm
    exact hne x hx e
  refine ⟨?_, fun hn => ?_, fun x hx => ?_, fun w hw => ?_, fun _ => ?_, fun w hw => ?_, ?_⟩
  · rw [h.order]
    exact List.append_assoc _ [_] _
  · obtain ⟨hout, hn⟩ := List.nodup_cons.1 hn
    obtain ⟨rest, hfront, hstop⟩ := h.front hn
    have hsame : zs.filter (s.powerZone z (s.heaterPower z)).waits = zs.filter s.waits := List.filter_congr fun w hw => by
      have hwz : w ≠ z := fun e => hout (e ▸ hw)
      unfold State.waits
      rw [powerZone_zone, if_neg hwz]
    refine ⟨rest, ?_, fun w behind hr => ?_⟩
    · rw [List.filter_cons_of_pos (p := s.waits) (decide_eq_true hz), ← hsame, hfront]; rfl
    · have hlt := hstop w behind hr
      rw [powerZone_h] at hlt
      rw [List.map_cons, List.sum_cons, ← Nat.add_assoc s.feeder.h]
      exact hlt
  · rcases List.mem_cons.1 hx with rfl | hx
    · exact ⟨List.mem_cons_self, hz, rfl, hzone⟩
    · obtain ⟨hmem, hwait, hp, ht⟩ := h.powered x hx
      have hsame : (s.powerZone z (s.heaterPower z)).zone x.zone = s.zone x.zone := by rw [powerZone_zone, if_neg (hne x hx)]
      rw [hsame] at hwait
      refine ⟨List.mem_cons_of_mem _ hmem, hwait, hp, ht.trans ?_⟩
      unfold State.poweredZone
      rw [hsame]; rfl
  · rw [List.map_cons, List.mem_cons, not_or] at hw
    rw [h.other w hw.2, powerZone_zone, if_neg hw.1]
  · cases new with
    | nil =>
      have hd : t.feeder.d = s.feeder.d := by rw [h.rest]; rfl
      have ha : t.feeder.allowance = s.feeder.allowance := by rw [h.rest]; rfl
      have hh : t.feeder.h = s.feeder.h + s.heaterPower z := by
        rw [← powerZone_h, Feeder.h, h.order, List.append_nil]; rfl
      rw [hd, ha, hh, ← Nat.add_assoc]
      exact of_decide_eq_true hfit
    | cons x new => exact h.fitted (List.cons_ne_nil _ _)
  · rw [List.find?_cons_of_neg (by rw [State.waits, hzone]; exact Bool.false_ne_true)] at hw
    exact h.stopped w hw
  · rw [h.rest]; rfl

theorem scanned_scanWalk (zs : List ZoneId) (s : State) : ∃ new, Scanned zs new s (scanWalk zs s) := by
  induction zs generalizing s with
  | nil => exact ⟨[], scanned_nil s⟩
  | cons z zs ih =>
    unfold scanWalk
    split
    · next hz =>
      dsimp only; split
      · next hfit =>
        obtain ⟨new, h⟩ := ih (s.powerZone z (s.heaterPower z))
        exact ⟨_, h.power hz hfit⟩
      · next hfit => exact ⟨[], scanned_stop hz hfit zs⟩
    all_goals
      next hz =>
      obtain ⟨new, h⟩ := ih s
      exact ⟨new, h.skip (by rw [hz]; nofun)⟩

end

/-- Settles O23: the walk of the whole Melt Rotation List. -/
theorem scanPowersInRotation : Obligations.ScanPowersInRotation := by
  unfold Obligations.ScanPowersInRotation
  intro s hr
  obtain ⟨new, h⟩ := scanned_scanWalk s.melt.rotation s
  have hrotation : s.poweringScan.melt.rotation = s.melt.rotation := congrArg (·.melt.rotation) h.rest
  refine ⟨s.poweringScan, new, event_taken hr, h.order, h.front, fun x hx => ?_, h.other, h.fitted, fun z hz => ?_, h.rest⟩
  · obtain ⟨hmem, hwait, hp, ht⟩ := h.powered x hx
    exact ⟨hmem, hwait, hp, by rw [hp]; exact ht⟩
  · rw [hrotation] at hz
    exact h.stopped z hz

end Sys2Proof.Machine
end

section
/-! The Melt Scheduler's timers: zones charged, unpowered and completed, the slot expiry, the meter expiry, and the tick of the seconds
count (R134 to R137, R144). -/

namespace Sys2Proof.Machine

/-! ## Walks over a list -/

/-- A walk that does something at one element of its list: what holds of that element is left alone until the walk comes to it, and what
the element's step brings about stays. -/
theorem foldl_reaches {α : Type} {f : State → α → State} {P Q : State → Prop} {x : α} (other : ∀ s y, y ≠ x → P s → P (f s y))
    (here : ∀ s, P s → Q (f s x)) (keep : ∀ s y, Q s → Q (f s y)) {xs : List α} (hx : x ∈ xs) {s : State} (h : P s) :
    Q (xs.foldl f s) := by
  have stay : ∀ (ys : List α) (u : State), Q u → Q (ys.foldl f u) := fun ys => by
    induction ys with
    | nil => exact fun _ hu => hu
    | cons y ys ih => exact fun u hu => ih _ (keep u y hu)
  induction xs generalizing s with
  | nil => cases hx
  | cons y xs ih =>
    by_cases hy : y = x
    · subst hy; exact stay xs _ (here s h)
    · exact ih ((List.mem_cons.1 hx).resolve_left (Ne.symm hy)) (other s y hy h)

/-! ## A zone charged (R136) -/

section
variable {s : State} {z : ZoneId} {x : Zone} {p c now : Nat}

/-- A charge of a powered zone (R136). -/
theorem chargeAt_powered (hp : x.power = some p) (hc : x.lastCharge = some c) : Zone.chargeAt now x = { x with
    remaining := x.remaining - (p * (now - c) + x.carry) / 10, carry := (p * (now - c) + x.carry) % 10
    lastCharge := some now } := by
  obtain ⟨_, _, _, _, _, _⟩ := x
  cases hp; cases hc; rfl

theorem chargeZone_zone (s : State) (z w : ZoneId) :
    (s.chargeZone z).zone w = if w = z then Zone.chargeAt s.clock (s.zone w) else s.zone w := setZone_zone _ _ _ _

/-- A charge at the present time finds the zone spent. -/
def State.spentNow (s : State) (z : ZoneId) : Prop := (Zone.chargeAt s.clock (s.zone z)).remaining = 0

theorem spentNow_iff (hp : (s.zone z).power = some p) (hc : (s.zone z).lastCharge = some c) :
    s.spentNow z ↔ (s.zone z).remaining ≤ (p * (s.clock - c) + (s.zone z).carry) / 10 := by
  unfold State.spentNow
  rw [chargeAt_powered hp hc]
  exact Nat.sub_eq_zero_iff_le

/-- A zone charged at the present time and found spent is spent. -/
theorem spentNow_chargeZone (h : s.spentNow z) : (s.chargeZone z).spentNow z :=
  Nat.le_zero.1 ((chargeAt_le _ _).trans (by rw [chargeZone_zone, if_pos rfl]; exact h.le))

/-! ## A zone completed (R137) -/

theorem completeZone_zone (s : State) (z w : ZoneId) :
    (s.completeZone z).zone w = if w = z then Zone.reset else s.zone w := by
  rw [← retireZone_zone]
  unfold State.completeZone; dsimp only
  split <;> rfl

theorem completeZone_rotation (s : State) (z : ZoneId) :
    (s.completeZone z).melt.rotation = s.melt.rotation.filter fun x => decide (x ≠ z) := by
  unfold State.completeZone; dsimp only
  split <;> rfl

/-- The last zone with energy of an iced dish, completed, clears the flag and raises MELT_DONE (R137). -/
theorem completeZone_done (hi : s.melt.ice[z.dish] = true)
    (h : ∀ w : ZoneId, w.dish = z.dish → w ≠ z → (s.zone w).remaining = 0) :
    (s.completeZone z).melt.ice[z.dish] = false ∧ ((s.completeZone z).source .meltDone).pending = true := by
  have hice : (s.retireZone z).melt.ice[z.dish] = true := hi
  have hnone : (s.retireZone z).holdsEnergy z.dish = false := by
    unfold State.holdsEnergy
    rw [List.any_eq_false]
    intro w hw
    rw [retireZone_zone]
    split
    · simp [Zone.reset]
    · next hne => simp [h w (mem_zonesOf.1 hw) hne]
  unfold State.completeZone; dsimp only
  rw [hice, hnone, Bool.not_false, Bool.and_self, if_pos rfl]
  refine ⟨(set_get _ _ _ _).trans (if_pos rfl), ?_⟩
  rw [raise_source_self]
  exact (raised_pending _ _).1

/-! ## A zone unpowered (R134) -/

theorem cutPower_zone (s : State) (z w : ZoneId) (st : ZoneState) : (s.cutPower z st).zone w =
    if w = z then { s.zone w with state := st, power := none, timer := none, lastCharge := none } else s.zone w :=
  setZone_zone _ _ _ _

/-- What the first steps of an unpowering leave of a zone's energy. -/
theorem cut_energy (s : State) (z : ZoneId) (st : ZoneState) :
    (((s.chargeZone z).cutPower z st).zone z).remaining = (Zone.chargeAt s.clock (s.zone z)).remaining := by
  rw [cutPower_zone, if_pos rfl, chargeZone_zone, if_pos rfl]

theorem unpower_of_energy (h : ¬ s.spentNow z) (st : ZoneState) : s.unpower z st = (s.chargeZone z).cutPower z st := by
  unfold State.unpower; dsimp only
  rw [cut_energy]; exact if_neg h

theorem unpower_of_spent (h : s.spentNow z) (st : ZoneState) :
    s.unpower z st = ((s.chargeZone z).cutPower z st).completeZone z := by
  unfold State.unpower; dsimp only
  rw [cut_energy]; exact if_pos h

/-- The last zone with energy of an iced dish, unpowered spent, clears the flag and raises MELT_DONE (R134, R137). -/
theorem unpower_done (h : s.spentNow z) (hi : s.melt.ice[z.dish] = true)
    (hz : ∀ w : ZoneId, w.dish = z.dish → w ≠ z → (s.zone w).remaining = 0) (st : ZoneState) :
    (s.unpower z st).melt.ice[z.dish] = false ∧ ((s.unpower z st).source .meltDone).pending = true := by
  rw [unpower_of_spent h]
  refine completeZone_done (s := (s.chargeZone z).cutPower z st) hi fun w hw hne => ?_
  rw [cutPower_zone, if_neg hne, chargeZone_zone, if_neg hne]
  exact hz w hw hne

/-! ## A zone that has left the melt (R127, R128) -/

/-- A zone as at power-on, in neither the power order nor the Melt Rotation List. -/
def State.Retired (s : State) (z : ZoneId) : Prop := Rested z Zone.reset s ∧ z ∉ s.melt.rotation

theorem State.Retired.zone_eq (h : s.Retired z) : s.zone z =
    { state := .idle, remaining := 0, carry := 0, power := none, timer := none, lastCharge := none } := h.1.1

theorem State.Retired.notOrdered (h : s.Retired z) : z ∉ s.feeder.powerOrder.map (·.zone) := h.1.2.2

theorem State.Retired.settle (h : s.Retired z) : s.settle.Retired z :=
  ⟨(roundKeeps_rested z _).settle h.1,
    fun hm => h.2 ((roundKeeps_rotation s.melt.rotation).settle (s := s) (List.Subset.refl _) hm)⟩

/-- A zone that its charge found spent is out of the melt once it is unpowered (R134, R137). -/
theorem retired_unpower (h : s.spentNow z) (st : ZoneState) : (s.unpower z st).Retired z := by
  have hzone : (s.unpower z st).zone z = Zone.reset := by
    rw [unpower_of_spent h, completeZone_zone, if_pos rfl]
  refine ⟨⟨hzone, by rw [hzone]; rfl, fun hm => ((mem_unpower_order s z z st).1 hm).2 rfl⟩, fun hm => ?_⟩
  rw [unpower_of_spent h, completeZone_rotation] at hm
  exact of_decide_eq_true (List.mem_filter.1 hm).2 rfl

/-! ## The slot expiry (R135) -/

theorem anotherWaits_iff : s.anotherWaits z = true ↔ ∃ w ∈ s.melt.rotation, w ≠ z ∧ (s.zone w).state = .waiting := by
  simp [State.anotherWaits]

theorem toTail_of_mem (h : z ∈ s.melt.rotation) : s.toTail z = { s with melt := { s.melt with
    rotation := (s.melt.rotation.filter fun x => decide (x ≠ z)) ++ [z] } }.askScan := by
  unfold State.toTail
  rw [if_pos (List.contains_iff_mem.2 h)]

/-- Of the state the way to the tail changes the list alone, and asks for the scan. -/
theorem toTail_rest (s : State) (z : ZoneId) : s.toTail z = { s with
    melt := { s.melt with rotation := (s.toTail z).melt.rotation }, scanDue := (s.toTail z).scanDue } := by
  unfold State.toTail; split <;> rfl

theorem toTail_of_notMem (h : z ∉ s.melt.rotation) : s.toTail z = s := by
  unfold State.toTail
  rw [if_neg (by rwa [List.contains_iff_mem])]

theorem exec_meltSlotExpiry {n : Nat} (hr : s.resetHeld = false) (hz : (s.zone z).state = .powered)
    (ht : (s.zone z).timer = some n) : exec (.meltSlotExpiry z) s = .next ((s.passTo n).slotExpired z) := by
  refine (event_taken hr).trans ?_
  rw [ht]; dsimp only
  rw [if_pos hz]

end

/-! ## Rounds in which nobody is admitted -/

/-- Between the two states the over-commit mark may have been judged and WAITING zones powered; nobody has been admitted, and no zone
has gained or lost energy. -/
structure Reheated (s t : State) : Prop where
  energy : ∀ z, (t.zone z).remaining = (s.zone z).remaining ∧ (t.zone z).carry = (s.zone z).carry
  rest : t = { s with
    feeder := t.feeder, melt := { s.melt with zones := t.melt.zones }, sources := t.sources
    judgeDue := t.judgeDue, roundDue := t.roundDue, scanDue := t.scanDue }

section
variable {s t u : State}

theorem Reheated.refl (s : State) : Reheated s s := ⟨fun _ => ⟨rfl, rfl⟩, rfl⟩

theorem Reheated.trans (h : Reheated s t) (k : Reheated t u) : Reheated s u where
  energy z := ⟨(k.energy z).1.trans (h.energy z).1, (k.energy z).2.trans (h.energy z).2⟩
  rest := by rw [k.rest, h.rest]

theorem Reheated.nobody (h : Reheated s t) (hn : NobodyAdmitted s) : NobodyAdmitted t := by
  rw [h.rest]; exact hn

theorem reheated_asks (s : State) (j r c : Bool) : Reheated s { s with judgeDue := j, roundDue := r, scanDue := c } :=
  ⟨fun _ => ⟨rfl, rfl⟩, rfl⟩

theorem reheated_judgeRestored (s : State) : Reheated s s.judgeRestored := by
  unfold State.judgeRestored; split
  · exact .refl s
  · split
    · exact ⟨fun _ => ⟨rfl, rfl⟩, rfl⟩
    · exact .refl s

theorem reheated_powerZone (s : State) (z : ZoneId) (p : Nat) : Reheated s (s.powerZone z p) := by
  refine ⟨fun w => ?_, rfl⟩
  unfold State.powerZone
  rw [setZone_zone]
  split <;> exact ⟨rfl, rfl⟩

theorem reheated_scanWalk (zs : List ZoneId) (s : State) : Reheated s (scanWalk zs s) := by
  induction zs generalizing s with
  | nil => exact .refl s
  | cons z zs ih =>
    unfold scanWalk; split
    · dsimp only; split
      · exact (reheated_powerZone s z _).trans (ih _)
      · exact .refl s
    all_goals exact ih s

theorem reheated_settleFuel (n : Nat) (hn : NobodyAdmitted s) : Reheated s (settleFuel n s) := by
  induction n generalizing s with
  | zero => exact reheated_asks s false false false
  | succ n ih =>
    have go : ∀ {u : State}, Reheated s u → Reheated s (settleFuel n u) := fun h => h.trans (ih (h.nobody hn))
    unfold settleFuel; split
    · exact go ((reheated_asks s false s.roundDue s.scanDue).trans (reheated_judgeRestored _))
    · split
      · rw [admissionRound_of_nobody (s := { s with roundDue := false }) hn]
        exact go (reheated_asks s s.judgeDue false s.scanDue)
      · split
        · exact go ((reheated_asks s s.judgeDue s.roundDue false).trans (reheated_scanWalk _ _))
        · exact .refl s

/-- Where nobody is admitted, the rounds and scans of a step power WAITING zones and judge the over-commit mark, and do no more. -/
theorem reheated_settle (hn : NobodyAdmitted s) : Reheated s s.settle := reheated_settleFuel _ hn

end

/-- The slot expiry of a zone with energy left: charged, cut from power and at the tail of the list (R134, R135). -/
def State.yielded (s : State) (z : ZoneId) : State := ((s.chargeZone z).cutPower z .waiting).toTail z

section
variable {s : State} {z w : ZoneId} {p c : Nat}

theorem yielded_rotation (h : z ∈ s.melt.rotation) :
    (s.yielded z).melt.rotation = s.melt.rotation.filter (fun w => decide (w ≠ z)) ++ [z] := by
  unfold State.yielded
  rw [toTail_of_mem (s := (s.chargeZone z).cutPower z .waiting) h]; rfl

theorem yielded_zone (s : State) (z w : ZoneId) : (s.yielded z).zone w = ((s.chargeZone z).cutPower z .waiting).zone w := by
  unfold State.yielded; rw [toTail_rest]; rfl

theorem yielded_fixed (s : State) (z : ZoneId) : (s.yielded z).fixed = s.fixed :=
  ((within_chargeZone s z).trans <| (within_cutPower _ z .waiting).trans (within_toTail _ z)).fixed

theorem yielded_rest (s : State) (z : ZoneId) : (s.yielded z).dishes = s.dishes ∧ (s.yielded z).groups = s.groups
    ∧ (s.yielded z).stow = s.stow ∧ (s.yielded z).orders = s.orders ∧ (s.yielded z).melt.shedList = s.melt.shedList := by
  unfold State.yielded; rw [toTail_rest]; exact ⟨rfl, rfl, rfl, rfl, rfl⟩

theorem yielded_nobody (hn : NobodyAdmitted s) (z : ZoneId) : NobodyAdmitted (s.yielded z) := by
  obtain ⟨-, hgroups, hstow, horders, hlist⟩ := yielded_rest s z
  refine hn.of_same (by rw [hstow]; exact hn.1) (by rw [horders]) (by rw [hlist]; exact List.Subset.refl _) (fun g h => ?_)
    (congrArg (fun x : Fixed => x.locks.census) (yielded_fixed s z))
  unfold State.group at h ⊢
  rwa [hgroups] at h

theorem slotExpired_restarts (h : ¬ s.anotherWaits z = true) :
    s.slotExpired z = s.setZone z fun x => { x with timer := some (s.clock + s.settings.melt.slot * 1000) } := by
  unfold State.slotExpired
  rw [if_neg h]

theorem slotExpired_yields (h : s.anotherWaits z = true) (he : ¬ s.spentNow z) : s.slotExpired z = (s.yielded z).settle := by
  unfold State.slotExpired
  rw [if_pos h, unpower_of_energy he]; rfl

theorem slotExpired_completes (h : s.anotherWaits z = true) (he : s.spentNow z) :
    s.slotExpired z = (s.unpower z .waiting).settle := by
  unfold State.slotExpired
  rw [if_pos h, toTail_of_notMem (retired_unpower he _).2]

/-- A charged zone of the slot expiry keeps its carry. -/
theorem yielded_charged (hp : (s.zone z).power = some p) (hc : (s.zone z).lastCharge = some c) :
    ((s.yielded z).zone z).remaining = (s.zone z).remaining - (p * (s.clock - c) + (s.zone z).carry) / 10
      ∧ ((s.yielded z).zone z).carry = (p * (s.clock - c) + (s.zone z).carry) % 10 := by
  rw [yielded_zone, cutPower_zone, if_pos rfl, chargeZone_zone, if_pos rfl, chargeAt_powered hp hc]
  exact ⟨rfl, rfl⟩

theorem yielded_other (h : w ≠ z) : (s.yielded z).zone w = s.zone w := by
  rw [yielded_zone, cutPower_zone, if_neg h, chargeZone_zone, if_neg h]

end

/-- Settles O28: the expiry restarts the timer, or unpowers the zone, which then stands at the tail or has left the melt. -/
theorem meltSlotExpires : Obligations.MeltSlotExpires := by
  unfold Obligations.MeltSlotExpires
  intro z x p c s hr hz hx hp hc now given
  have hexec := exec_meltSlotExpiry hr hz hx
  have hspent : (s.passTo x).spentNow z ↔ (s.zone z).remaining ≤ given := spentNow_iff (s := s.passTo x) hp hc
  have hwaits : (s.passTo x).anotherWaits z = true ↔ ∃ w ∈ s.melt.rotation, w ≠ z ∧ (s.zone w).state = .waiting :=
    anotherWaits_iff
  refine ⟨fun hnone => ?_, fun hother hmem hlt hn ha => ?_, fun hother hle => ?_⟩
  · rw [slotExpired_restarts fun h => by obtain ⟨w, hw, hne, hwait⟩ := hwaits.1 h; exact hnone w hw hne hwait] at hexec
    refine ⟨_, hexec, (setZone_zone_self _ _ _), fun w hw => ?_, rfl⟩
    rw [setZone_zone, if_neg hw]; rfl
  · rw [slotExpired_yields (hwaits.2 hother) fun h => absurd (hspent.1 h) (Nat.not_le_of_lt hlt)] at hexec
    have hnobody : NobodyAdmitted (s.passTo x) := ⟨ha, .inl hn⟩
    have hheat := reheated_settle (yielded_nobody hnobody z)
    obtain ⟨hdishes, hgroups, hstow, -⟩ := yielded_rest (s.passTo x) z
    obtain ⟨hremaining, hcarry⟩ := yielded_charged (s := s.passTo x) hp hc
    have hrest := fun {α : Type} (f : State → α) => congrArg f hheat.rest
    refine ⟨_, hexec, (hrest (·.melt.rotation)).trans (yielded_rotation (s := s.passTo x) hmem),
      (hheat.energy z).1.trans hremaining, (hheat.energy z).2.trans hcarry, fun w hw => ?_,
      (within_settle _).fixed.trans (yielded_fixed (s.passTo x) z), (hrest (·.dishes)).trans hdishes, (hrest (·.groups)).trans hgroups,
      (hrest (·.stow)).trans hstow⟩
    have hsame := yielded_other (s := s.passTo x) hw
    exact ⟨(hheat.energy w).1.trans (congrArg Zone.remaining hsame), (hheat.energy w).2.trans (congrArg Zone.carry hsame)⟩
  · have hzspent := hspent.2 hle
    rw [slotExpired_completes (hwaits.2 hother) hzspent] at hexec
    have hretired := (retired_unpower hzspent .waiting).settle
    have hwithin := within_settle ((s.passTo x).unpower z .waiting)
    refine ⟨_, hexec, hretired.zone_eq, hretired.2, hretired.notOrdered, fun hi hzero => ?_,
      hwithin.fixed.trans (within_unpower _ _ _).fixed⟩
    obtain ⟨hice, hpending⟩ := unpower_done hzspent hi hzero .waiting
    exact ⟨Bool.eq_false_iff.2 fun h => absurd (hwithin.ice _ h) (by rw [hice]; nofun), hwithin.pending _ hpending⟩

/-! ## The meter expiry (R136, R137) -/

section
variable {s t : State} {z w : ZoneId} {zs : List ZoneId}

theorem meterZone_of_unpowered (h : (s.zone z).state ≠ .powered) : s.meterZone z = s := by
  unfold State.meterZone; exact if_neg h

theorem meterZone_of_energy (h : (s.zone z).state = .powered) (he : ¬ s.spentNow z) : s.meterZone z = s.chargeZone z := by
  unfold State.meterZone; dsimp only
  rw [if_pos h, chargeZone_zone, if_pos rfl]
  exact if_neg he

theorem meterZone_of_spent (h : (s.zone z).state = .powered) (he : s.spentNow z) :
    s.meterZone z = (s.chargeZone z).unpower z .idle := by
  unfold State.meterZone; dsimp only
  rw [if_pos h, chargeZone_zone, if_pos rfl]
  exact if_pos he

/-- What a meter expiry does to a zone concerns no other. -/
theorem meterZone_zone_ne (h : w ≠ z) : (s.meterZone z).zone w = s.zone w := by
  have hcharge : (s.chargeZone z).zone w = s.zone w := by rw [chargeZone_zone, if_neg h]
  by_cases hp : (s.zone z).state = .powered
  · by_cases he : s.spentNow z
    · rw [meterZone_of_spent hp he, unpower_zone_ne _ _ _ _ h, hcharge]
    · rw [meterZone_of_energy hp he, hcharge]
  · rw [meterZone_of_unpowered hp]

theorem touches_meterZone (s : State) (z : ZoneId) : Touches heatBlock s (s.meterZone z) := by
  unfold State.meterZone; dsimp only
  have hcharge : Touches heatBlock s (s.chargeZone z) := touches_setZone s z _
  exact touches_ite (touches_ite (hcharge.trans (touches_unpower _ _ _)) hcharge) (.refl _ s)

theorem meterZone_powerOrder (s : State) (z : ZoneId) : (s.meterZone z).feeder.powerOrder ⊆ s.feeder.powerOrder := by
  by_cases hp : (s.zone z).state = .powered
  · by_cases he : s.spentNow z
    · rw [meterZone_of_spent hp he, unpower_powerOrder]; exact fun x hx => (List.mem_filter.1 hx).1
    · rw [meterZone_of_energy hp he]; exact List.Subset.refl _
  · rw [meterZone_of_unpowered hp]; exact List.Subset.refl _

/-- A zone that has left the melt stays out of it as zones are metered. -/
theorem State.Retired.meterZone (h : s.Retired z) (w : ZoneId) : (s.meterZone w).Retired z := by
  obtain ⟨⟨hzone, hidle, hout⟩, hlist⟩ := id h
  by_cases he : z = w
  · subst he
    rw [meterZone_of_unpowered (by rw [hidle]; nofun)]; exact h
  · have hsame := meterZone_zone_ne (s := s) he
    exact ⟨⟨hsame.trans hzone, by rw [hsame]; exact hidle, fun hm => hout (List.map_subset _ (meterZone_powerOrder s w) hm)⟩,
      fun hm => hlist ((touches_meterZone s w).rotation hm)⟩

/-- A zone found spent by the meter leaves the melt (R137). -/
theorem retired_meterAll (zs : List ZoneId) (hz : z ∈ zs) (hp : (s.zone z).state = .powered) (he : s.spentNow z) :
    (zs.foldl State.meterZone s).Retired z := by
  refine foldl_reaches (P := fun u => (u.zone z).state = .powered ∧ u.spentNow z) (Q := fun u => u.Retired z)
    (fun u w hw ⟨hpu, heu⟩ => ?_) (fun u ⟨hpu, heu⟩ => ?_) (fun u w hu => hu.meterZone w) hz ⟨hp, he⟩
  · have hsame := meterZone_zone_ne (s := u) (Ne.symm hw)
    unfold State.spentNow
    rw [hsame, (within_meterZone u w).clock_eq]
    exact ⟨hpu, heu⟩
  · rw [meterZone_of_spent hpu heu]
    exact retired_unpower (spentNow_chargeZone heu) .idle

/-- Between the two states the POWERED zones of a list have been charged, none of them spent. -/
structure Metered (zs : List ZoneId) (s t : State) : Prop where
  zone : ∀ z, t.zone z =
    if z ∈ zs ∧ (s.zone z).state = .powered then Zone.chargeAt s.clock (s.zone z) else s.zone z
  rest : t = { s with melt := { s.melt with zones := t.melt.zones } }

theorem Metered.quiet (h : Metered zs s t) (hq : s.Quiet) : t.Quiet := by rw [h.rest]; exact hq

theorem metered_chargeZone (hp : (s.zone z).state = .powered) : Metered [z] s (s.chargeZone z) := by
  refine ⟨fun w => ?_, rfl⟩
  rw [chargeZone_zone]
  by_cases hw : w = z
  · subst hw; simp [hp]
  · simp [hw]

theorem metered_meterZone (he : (s.zone z).state = .powered → ¬ s.spentNow z) : Metered [z] s (s.meterZone z) := by
  by_cases hp : (s.zone z).state = .powered
  · rw [meterZone_of_energy hp (he hp)]; exact metered_chargeZone hp
  · rw [meterZone_of_unpowered hp]
    refine ⟨fun w => (if_neg fun h => hp ?_).symm, rfl⟩
    obtain rfl := List.mem_singleton.1 h.1
    exact h.2

theorem metered_meterAll (zs : List ZoneId) (hn : zs.Nodup) (s : State)
    (he : ∀ z ∈ zs, (s.zone z).state = .powered → ¬ s.spentNow z) : Metered zs s (zs.foldl State.meterZone s) := by
  induction zs generalizing s with
  | nil => exact ⟨fun z => by simp, rfl⟩
  | cons z zs ih =>
    obtain ⟨hz, hn⟩ := List.nodup_cons.1 hn
    have hfirst := metered_meterZone (he z List.mem_cons_self)
    have hclock : (s.meterZone z).clock = s.clock := (within_meterZone s z).clock_eq
    have hsame : ∀ w ∈ zs, (s.meterZone z).zone w = s.zone w := fun w hw => meterZone_zone_ne fun e => hz (e ▸ hw)
    have hrest := ih hn (s.meterZone z) fun w hw hp => by
      rw [hsame w hw] at hp
      unfold State.spentNow
      rw [hsame w hw, hclock]
      exact he w (List.mem_cons_of_mem _ hw) hp
    refine ⟨fun w => ?_, by rw [List.foldl_cons, hrest.rest, hfirst.rest]⟩
    rw [List.foldl_cons, hrest.zone]
    by_cases hw : w ∈ zs
    · rw [hsame w hw, hclock]; simp [hw]
    · rw [if_neg fun h => hw h.1, hfirst.zone]; simp [hw]

theorem allZones_nodup : allZones.Nodup := by
  refine List.nodup_flatMap.2 ⟨fun d _ => by simp [zonesOf], ?_⟩
  refine (List.nodup_finRange 48).imp fun {d e} hde => ?_
  rw [Function.onFun, List.disjoint_left]
  exact fun z hd he => hde ((mem_zonesOf.1 hd).symm.trans (mem_zonesOf.1 he))

theorem mem_allZones (z : ZoneId) : z ∈ allZones := List.mem_flatMap.2 ⟨z.dish, mem_allDishes _, mem_zonesOf.2 rfl⟩

/-- The meter timer expired: the clock has come to it, and it runs on (R136). -/
def State.meterExpired (s : State) : State := (s.passTo s.melt.meterTimer).restartMeter

theorem exec_meterTimerExpiry (hr : s.resetHeld = false) : exec .meterTimerExpiry s
    = .next (allZones.foldl State.meterZone s.meterExpired).settle := event_taken hr

end

/-- Settles O29: the walk over all zones charges each POWERED one once, and a zone found spent leaves the melt for good. -/
theorem meterAndSecondsRun : Obligations.MeterAndSecondsRun := by
  unfold Obligations.MeterAndSecondsRun
  intro s hr now given
  have hexec := exec_meterTimerExpiry hr
  have hspent : ∀ z p c, (s.zone z).power = some p → (s.zone z).lastCharge = some c →
      (s.meterExpired.spentNow z ↔ (s.zone z).remaining ≤ given z p c) := fun z p c hp hc =>
    spentNow_iff (s := s.meterExpired) hp hc
  refine ⟨fun hq hall => ?_, fun z p c hz hp hc hle => ?_, ?_⟩
  · have hmeter := metered_meterAll allZones allZones_nodup s.meterExpired fun z _ hz => by
      obtain ⟨p, c, hp, hc, hlt⟩ := hall z hz
      exact fun h => absurd ((hspent z p c hp hc).1 h) (Nat.not_le_of_lt hlt)
    rw [settle_of_quiet _ (hmeter.quiet hq)] at hexec
    refine ⟨_, hexec, fun z p c hz hp hc => ?_, fun z hz => ?_, hmeter.rest⟩
    · rw [hmeter.zone, if_pos ⟨mem_allZones z, hz⟩]
      exact chargeAt_powered hp hc
    · rw [hmeter.zone, if_neg fun h => hz h.2]; rfl
  · have hretired := (retired_meterAll (s := s.meterExpired) allZones (mem_allZones z) hz ((hspent z p c hp hc).2 hle)).settle
    have hwithin := (within_foldl _ within_meterZone allZones s.meterExpired).trans (within_settle _)
    exact ⟨_, hexec, hretired.zone_eq, hretired.2, hretired.notOrdered, hwithin.fixed⟩
  · refine (event_taken hr).trans (congrArg (fun n => Host.Outcome.next { s with
      clock := max s.clock s.locks.secondTimer
      locks := { s.locks with seconds := n, secondTimer := s.locks.secondTimer + 1000 } }) ?_)
    apply BitVec.eq_of_toNat_eq
    rw [BitVec.toNat_add, BitVec.toNat_ofNat, Nat.mod_mod]; rfl

end Sys2Proof.Machine
end

section
/-! CANCEL MELT: the dishes and zones that it names, and what the walk over them leaves of zones, ice flags and Shed List (R131, R138). -/

namespace Sys2Proof.Machine

/-! ## Dishes and zones named -/

section
variable {s t : State} {ds : List DishId} {kinds : List ZoneKind} {d e : DishId} {z : ZoneId} {n : Nat}

/-- The mask names a zone kind by the bit at its place (R129, R178). -/
theorem mem_namedKinds {mask : Byte} {k : ZoneKind} : k ∈ namedKinds mask ↔ mask.getLsbD (zoneKindPlace k) = true := by
  simp only [namedKinds, List.mem_append]
  cases k <;> simp [zoneKindPlace]

theorem namedDishes_all (s : State) : s.namedDishes 255 = some s.presentDishes := rfl

theorem namedDishes_one (hp : (s.cfg d).present = true) : s.namedDishes d.val = some [d] := by
  unfold State.namedDishes
  rw [if_neg (by omega), dif_pos d.isLt, if_pos hp]

/-- A melt request names the present dishes, for 255, or the one present dish of its index (R129, R131). -/
theorem namedDishes_some (h : n = 255 ∨ ∃ d, (s.cfg d).present = true ∧ (n = 255 ∨ n = d.val)) :
    ∃ ds, s.namedDishes n = some ds ∧ ∀ d, d ∈ ds ↔ (s.cfg d).present = true ∧ (n = 255 ∨ n = d.val) := by
  by_cases hall : n = 255
  · subst hall
    exact ⟨_, namedDishes_all s, fun d => by simp [State.presentDishes, mem_allDishes]⟩
  · obtain ⟨d, hp, hd⟩ := h.resolve_left hall
    obtain rfl := hd.resolve_left hall
    refine ⟨_, namedDishes_one hp, fun e => ?_⟩
    rw [List.mem_singleton]
    constructor
    · rintro rfl; exact ⟨hp, .inr rfl⟩
    · rintro ⟨-, he⟩; exact (Fin.ext (he.resolve_left hall)).symm

theorem namedDishes_none (h : ¬ (n = 255 ∨ ∃ d, (s.cfg d).present = true ∧ (n = 255 ∨ n = d.val))) :
    s.namedDishes n = none := by
  obtain ⟨hall, hone⟩ := not_or.1 h
  unfold State.namedDishes
  rw [if_neg hall]
  split
  · next hlt => exact if_neg fun hp => hone ⟨⟨n, hlt⟩, hp, .inr rfl⟩
  · rfl

/-! ## One dish cancelled (R131) -/

/-- The zones of a dish that a cancellation names. -/
def zonesAt (d : DishId) (kinds : List ZoneKind) : List ZoneId := kinds.map fun k => ⟨d, k⟩

theorem mem_zonesAt : z ∈ zonesAt d kinds ↔ z.dish = d ∧ z.kind ∈ kinds := by
  obtain ⟨e, k⟩ := z
  simp only [zonesAt, List.mem_map, ZoneId.mk.injEq]
  exact ⟨fun ⟨_, hk, hd, he⟩ => ⟨hd.symm, he ▸ hk⟩, fun ⟨hd, hk⟩ => ⟨k, hk, hd.symm, rfl⟩⟩

/-- The zones of a dish cancelled, and its ice flag judged: a cancellation up to the Shed List (R131). -/
def State.heatCancelled (s : State) (kinds : List ZoneKind) (d : DishId) : State :=
  ((zonesAt d kinds).foldl State.cancelZone s).iceAfterCancel d

theorem cancelDish_eq (s : State) (kinds : List ZoneKind) (d : DishId) :
    s.cancelDish kinds d = (s.heatCancelled kinds d).skipShed d := by
  unfold State.cancelDish State.heatCancelled zonesAt
  rw [List.foldl_map]

/-- A dish that leaves the Shed List changes that list and its last shed result. -/
theorem skipShed_rest (s : State) (d : DishId) : (s.skipShed d).melt = { s.melt with
    shedList := (s.skipShed d).melt.shedList, shedResult := (s.skipShed d).melt.shedResult }
    ∧ (s.skipShed d).feeder = s.feeder := by
  unfold State.skipShed; split <;> exact ⟨rfl, rfl⟩

theorem heatCancelled_zone (s : State) (kinds : List ZoneKind) (d : DishId) (w : ZoneId) : (s.heatCancelled kinds d).zone w =
    if (w.dish = d ∧ w.kind ∈ kinds) ∧ (s.zone w).state ≠ .idle then Zone.reset else s.zone w := by
  refine (iceAfterCancel_zone _ d w).trans (((cancelZones_spec (zonesAt d kinds) s).1 w).trans ?_)
  simp only [mem_zonesAt]

theorem touches_heatCancelled (s : State) (kinds : List ZoneKind) (d : DishId) : Touches heatBlock s (s.heatCancelled kinds d) :=
  (touches_foldl _ _ (fun z _ s => touches_cancelZone s z) s).trans (touches_iceAfterCancel _ _ d)

theorem cancelDish_melt (s : State) (kinds : List ZoneKind) (d : DishId) : (s.cancelDish kinds d).melt =
    { (s.heatCancelled kinds d).melt with
      shedList := (s.cancelDish kinds d).melt.shedList, shedResult := (s.cancelDish kinds d).melt.shedResult }
    ∧ (s.cancelDish kinds d).feeder = (s.heatCancelled kinds d).feeder := by
  rw [cancelDish_eq]; exact skipShed_rest _ d

theorem cancelDish_zone (s : State) (kinds : List ZoneKind) (d : DishId) (w : ZoneId) : (s.cancelDish kinds d).zone w =
    if (w.dish = d ∧ w.kind ∈ kinds) ∧ (s.zone w).state ≠ .idle then Zone.reset else s.zone w := by
  rw [← heatCancelled_zone]
  unfold State.zone
  rw [(cancelDish_melt s kinds d).1]

theorem cancelDish_lists (s : State) (kinds : List ZoneKind) (d : DishId) :
    (s.cancelDish kinds d).melt.rotation = ((zonesAt d kinds).foldl State.cancelZone s).melt.rotation
      ∧ (s.cancelDish kinds d).feeder.powerOrder = ((zonesAt d kinds).foldl State.cancelZone s).feeder.powerOrder := by
  obtain ⟨hmelt, hfeeder⟩ := cancelDish_melt s kinds d
  rw [hmelt, hfeeder]
  exact iceAfterCancel_lists _ d

theorem cancelDish_powerOrder (s : State) (kinds : List ZoneKind) (d : DishId) :
    (s.cancelDish kinds d).feeder.powerOrder ⊆ s.feeder.powerOrder := by
  rw [(cancelDish_lists s kinds d).2]
  exact (cancelZones_spec (zonesAt d kinds) s).2.1

theorem touches_cancelDish (s : State) (kinds : List ZoneKind) (d : DishId) :
    Touches [.heat, .block, .sheds] s (s.cancelDish kinds d) := by
  rw [cancelDish_eq]
  exact ((touches_heatCancelled s kinds d).mono (by simp)).after (touches_skipShed _ d) (by simp)

theorem cancelDish_shedMoves (s : State) (kinds : List ZoneKind) (d : DishId) :
    (s.cancelDish kinds d).melt.shedMoves = s.melt.shedMoves := by
  rw [(cancelDish_melt s kinds d).1]
  exact ((touches_heatCancelled s kinds d).sheds (by simp)).1

/-- A zone named that is not IDLE leaves the melt (R131). -/
theorem retired_cancelDish (hd : z.dish = d) (hk : z.kind ∈ kinds) (hi : (s.zone z).state ≠ .idle)
    (hl : z ∈ s.feeder.powerOrder.map (·.zone) → (s.zone z).state = .powered) : (s.cancelDish kinds d).Retired z := by
  have hzone := (cancelDish_zone s kinds d z).trans (if_pos ⟨⟨hd, hk⟩, hi⟩)
  obtain ⟨hrotation, horder⟩ := cancelDish_lists s kinds d
  obtain ⟨-, -, hspec⟩ := cancelZones_spec (zonesAt d kinds) s
  obtain ⟨hlist, hout⟩ := hspec z (mem_zonesAt.2 ⟨hd, hk⟩) hi hl
  exact ⟨⟨hzone, by rw [hzone]; rfl, by rw [horder]; exact hout⟩, by rw [hrotation]; exact hlist⟩

theorem State.Retired.cancelDish (h : s.Retired z) (kinds : List ZoneKind) (d : DishId) : (s.cancelDish kinds d).Retired z := by
  obtain ⟨⟨hzone, hidle, hout⟩, hlist⟩ := h
  have hsame := (cancelDish_zone s kinds d z).trans (if_neg fun hc => hc.2 hidle)
  exact ⟨⟨hsame.trans hzone, by rw [hsame]; exact hidle, fun hm => hout (List.map_subset _ (cancelDish_powerOrder s kinds d) hm)⟩,
    fun hm => hlist ((touches_cancelDish s kinds d).rotation hm)⟩

/-- The zones of a dish hold no energy, apart from those that are to be cancelled. -/
def State.Drained (s : State) (kinds : List ZoneKind) (d : DishId) : Prop :=
  ∀ k, (s.zone ⟨d, k⟩).remaining = 0 ∨ k ∈ kinds ∧ (s.zone ⟨d, k⟩).state ≠ .idle

/-- An ice flag with no energy left under it is cleared (R131). -/
theorem cancelDish_ice (h : s.Drained kinds d) : (s.cancelDish kinds d).melt.ice[d] = false := by
  rw [(cancelDish_melt s kinds d).1]
  refine iceAfterCancel_ice _ d fun z hz => ?_
  obtain ⟨e, k⟩ := z
  obtain rfl : e = d := hz
  rw [(cancelZones_spec (zonesAt e kinds) s).1]
  split
  · rfl
  · next hc => exact (h k).resolve_right fun hk => hc ⟨mem_zonesAt.2 ⟨rfl, hk.1⟩, hk.2⟩

/-! ## The Shed List (R138) -/

theorem shedListed_touch {ps : List Place} (h : Touches ps s t) (hs : .sheds ∉ ps) : t.shedListed d = s.shedListed d := by
  unfold State.shedListed
  rw [(h.sheds hs).2.2]

theorem skipShed_listed_ne (h : d ≠ e) : (s.skipShed e).shedListed d = s.shedListed d := by
  unfold State.shedListed
  rw [skipShed_shedList, List.any_filter]
  refine congrArg (fun p => s.melt.shedList.any p) (funext fun x => ?_)
  by_cases hx : x.dish = d
  · simp [hx, h]
  · simp [hx]

/-- A listed dish leaves the Shed List with SKIPPED. -/
theorem skipShed_ends (h : s.shedListed d = true) : ShedEnded d .skipped (s.skipShed d) := by
  refine ⟨shedListed_false.2 fun e he => ?_, ?_⟩
  · rw [skipShed_shedList] at he
    exact of_decide_eq_true (List.mem_filter.1 he).2
  · unfold State.skipShed
    rw [if_pos h]
    exact (set_get _ _ _ _).trans (if_pos rfl)

theorem ShedEnded.skipShed {r : ShedResult} (h : ShedEnded d r s) (e : DishId) : ShedEnded d r (s.skipShed e) := by
  by_cases hd : d = e
  · subst hd
    unfold State.skipShed
    rw [if_neg (by rw [h.1]; exact Bool.false_ne_true)]; exact h
  · exact ⟨(skipShed_listed_ne hd).trans h.1, (congrArg Prod.snd (skipShed_shedOf s e hd) :).trans h.2⟩

/-- A listed dish named leaves the Shed List with SKIPPED (R138). -/
theorem cancelDish_skips (h : s.shedListed d = true) : ShedEnded d .skipped (s.cancelDish kinds d) := by
  rw [cancelDish_eq]
  exact skipShed_ends ((shedListed_touch (touches_heatCancelled s kinds d) (by simp)).trans h)

theorem ShedEnded.cancelDish {r : ShedResult} (h : ShedEnded d r s) (kinds : List ZoneKind) (e : DishId) :
    ShedEnded d r (s.cancelDish kinds e) := by
  rw [cancelDish_eq]
  exact (h.touch (touches_heatCancelled s kinds e) (by simp)).skipShed e

theorem cancelDish_listed_ne (h : d ≠ e) : (s.cancelDish kinds e).shedListed d = s.shedListed d := by
  rw [cancelDish_eq, skipShed_listed_ne h]
  exact shedListed_touch (touches_heatCancelled s kinds e) (by simp)

/-! ## The walk over the dishes named -/

/-- The dishes of a list cancelled, before the rounds and scans. -/
def State.cancelled (s : State) (kinds : List ZoneKind) (ds : List DishId) : State :=
  (s.onDishes ds fun s d => s.cancelDish kinds d).askScan

theorem within_cancelled (s : State) (kinds : List ZoneKind) (ds : List DishId) : Within s (s.cancelled kinds ds) :=
  (within_onDishes _ _ _ fun s d => within_cancelDish s kinds d).trans (within_askScan _)

theorem touches_cancelled (s : State) (kinds : List ZoneKind) (ds : List DishId) :
    Touches [.heat, .block, .sheds] s (s.cancelled kinds ds) :=
  (touches_onAll _ (fun s d => touches_cancelDish s kinds d) ds s).askScan

theorem cancelled_shedMoves (s : State) (kinds : List ZoneKind) (ds : List DishId) :
    (s.cancelled kinds ds).melt.shedMoves = s.melt.shedMoves := by
  change (s.onDishes ds fun s d => s.cancelDish kinds d).melt.shedMoves = _
  induction ds generalizing s with
  | nil => rfl
  | cons d ds ih => exact (ih _).trans (cancelDish_shedMoves s kinds d)

theorem retired_cancelled (hd : z.dish ∈ ds) (hk : z.kind ∈ kinds) (hi : (s.zone z).state ≠ .idle)
    (hl : z ∈ s.feeder.powerOrder.map (·.zone) → (s.zone z).state = .powered) : (s.cancelled kinds ds).Retired z := by
  have hwalk : (s.onDishes ds fun s d => s.cancelDish kinds d).Retired z := by
    refine foldl_reaches (P := fun u => (u.zone z).state ≠ .idle ∧ (z ∈ u.feeder.powerOrder.map (·.zone) →
      (u.zone z).state = .powered)) (Q := fun u => u.Retired z) (fun u e he ⟨hiu, hlu⟩ => ?_)
      (fun u ⟨hiu, hlu⟩ => retired_cancelDish rfl hk hiu hlu) (fun u e hu => hu.cancelDish kinds e) hd ⟨hi, hl⟩
    have hsame := (cancelDish_zone u kinds e z).trans (if_neg fun hc => he hc.1.1.symm)
    rw [hsame]
    exact ⟨hiu, fun hm => hlu (List.map_subset _ (cancelDish_powerOrder u kinds e) hm)⟩
  exact hwalk

theorem cancelled_ice (hd : d ∈ ds) (h : s.Drained kinds d) : (s.cancelled kinds ds).melt.ice[d] = false := by
  refine foldl_reaches (P := fun u => u.Drained kinds d) (Q := fun u => u.melt.ice[d] = false) (fun u e he hu k => ?_)
    (fun u hu => cancelDish_ice hu) (fun u e hu => Bool.eq_false_iff.2 fun hc => ?_) hd h
  · rw [cancelDish_zone, if_neg fun hc => he hc.1.1.symm]; exact hu k
  · have := (within_cancelDish u kinds e).ice d hc
    rw [hu] at this; cases this

theorem cancelled_skips (hd : d ∈ ds) (h : s.shedListed d = true) : ShedEnded d .skipped (s.cancelled kinds ds) := by
  have hwalk : ShedEnded d .skipped (s.onDishes ds fun s d => s.cancelDish kinds d) :=
    foldl_reaches (P := fun u => u.shedListed d = true) (Q := ShedEnded d .skipped)
      (fun u e he hu => (cancelDish_listed_ne (Ne.symm he)).trans hu) (fun u hu => cancelDish_skips hu)
      (fun u e hu => hu.cancelDish kinds e) hd h
  exact hwalk

/-- A cancellation concerns neither dishes nor groups. -/
theorem cancelled_spares (s : State) (kinds : List ZoneKind) (ds : List DishId) : SparesBut [] [] s (s.cancelled kinds ds) := by
  have ht := touches_cancelled s kinds ds
  have hstow := ht.stow (by simp)
  refine ⟨fun d _ _ => ?_, fun g _ _ => ht.group g (by simp), by rw [hstow], by rw [hstow], fun _ => hstow⟩
  obtain ⟨h1, h2, h3⟩ := ht.dish d (by simp)
  unfold State.holdOf; rw [h1, h2, h3, hstow, cancelled_shedMoves]

/-! ## CANCEL MELT -/

theorem exec_cancelMelt (hh : s.hears .safety = true) (f : CancelMeltFields) : exec (.cancelMelt .safety (.fields f)) s
    = .next (match s.namedDishes f.dish with
      | none => s.refuse .safety .cancelMelt .badField
      | some ds =>
        if namedKinds f.mask = [] then s.refuse .safety .cancelMelt .badField
        else (s.cancelled (namedKinds f.mask) ds).settle.answer .safety .cancelMelt .ok
          (cancelField s ds (namedKinds f.mask))) := (serve_taken hh rfl _ _).trans rfl

end

/-- Settles O47: the walk over the dishes named reaches each zone, flag and list entry once, and rounds leave what it has done. -/
theorem cancelMeltClears : Obligations.CancelMeltClears := by
  unfold Obligations.CancelMeltClears
  intro f s hh hf named asked valid
  obtain ⟨-, -, hordered, -⟩ := hf
  have hexec := exec_cancelMelt hh f
  have hasked : ∀ k, k ∈ namedKinds f.mask ↔ asked k := fun k => by rw [mem_namedKinds]; cases k <;> rfl
  have hkinds : namedKinds f.mask = [] ↔ ¬ ∃ k, asked k := by
    rw [List.eq_nil_iff_forall_not_mem, not_exists]
    exact forall_congr' fun k => not_congr (hasked k)
  refine ⟨fun hbad => ?_, fun ⟨hdish, hkind⟩ => ?_⟩
  · by_cases hdish : f.dish = 255 ∨ ∃ d, named d
    · obtain ⟨ds, hds, -⟩ := namedDishes_some hdish
      rw [hds] at hexec; dsimp only at hexec
      rw [if_pos (hkinds.2 fun hk => hbad ⟨hdish, hk⟩)] at hexec; exact hexec
    · rw [namedDishes_none hdish] at hexec; exact hexec
  · obtain ⟨ds, hds, hmem⟩ := namedDishes_some hdish
    rw [hds] at hexec; dsimp only at hexec
    rw [if_neg fun h => hkinds.1 h hkind] at hexec
    have hretired : ∀ z : ZoneId, named z.dish → asked z.kind → (s.zone z).state ≠ .idle →
        (s.cancelled (namedKinds f.mask) ds).settle.Retired z := fun z hz hk hi =>
      (retired_cancelled ((hmem _).2 hz) ((hasked _).2 hk) hi (hordered z).2).settle
    have hice : ∀ d, named d → s.Drained (namedKinds f.mask) d →
        (s.cancelled (namedKinds f.mask) ds).settle.melt.ice[d] = false := fun d hd h => Bool.eq_false_iff.2 fun hc => by
      have hbefore := cancelled_ice ((hmem d).2 hd) h
      rw [(within_settle _).ice d hc] at hbefore; cases hbefore
    have hshed : ∀ d, named d → s.shedListed d = true →
        ShedEnded d .skipped (s.cancelled (namedKinds f.mask) ds).settle := fun d hd h =>
      (roundKeeps_shedEnded .skipped).settle (cancelled_skips ((hmem d).2 hd) h)
    have hwithin := (within_cancelled s (namedKinds f.mask) ds).trans (within_settle _)
    have hspares := (cancelled_spares s (namedKinds f.mask) ds).settle
    generalize (s.cancelled (namedKinds f.mask) ds).settle = u at hexec hretired hice hshed hwithin hspares
    refine ⟨_, cancelField s ds (namedKinds f.mask), hexec, putHolder_holder _ .safety _, fun z hz hk hi => ?_,
      fun d hd h => hice d hd fun k => (h k).imp id fun hc => ⟨(hasked k).2 hc.1, hc.2⟩, fun d hd h => hshed d hd h,
      hwithin.putHolder _ _, hspares.answer _ _ _ _⟩
    have hz := hretired z hz hk hi
    exact ⟨hz.zone_eq, hz.2, hz.notOrdered⟩

end Sys2Proof.Machine
end

section
/-! CENSUS COMPLETE: CENSUS_REQUIRED is raised by no round and no scan, and the end of the census's block unblocks the zones that nothing
else blocks (R132, R155, R156). -/

namespace Sys2Proof.Machine

/-! ## What raises no CENSUS_REQUIRED -/

/-- Between the two states CENSUS_REQUIRED has not been raised. -/
def Unraised (s t : State) : Prop := t.source .censusRequired = s.source .censusRequired

section
variable {s t u : State}

theorem Unraised.refl (s : State) : Unraised s s := rfl

theorem Unraised.trans (h : Unraised s t) (k : Unraised t u) : Unraised s u := Eq.trans k h

theorem unraised_ite {c : Prop} [Decidable c] (ht : Unraised s t) (hu : Unraised s u) :
    Unraised s (if c then t else u) := by split <;> assumption

theorem unraised_foldl {α : Type} {f : State → α → State} (h : ∀ s x, Unraised s (f s x)) (xs : List α) (s : State) :
    Unraised s (xs.foldl f s) := by
  induction xs generalizing s with
  | nil => exact .refl s
  | cons x xs ih => exact (h s x).trans (ih _)

theorem unraised_onDishes {f : State → DishId → State} (h : ∀ s d, Unraised s (f s d)) (ds : List DishId) (s : State) :
    Unraised s (s.onDishes ds f) := unraised_foldl h ds s

/-- Another source is raised. -/
theorem Unraised.raise (h : Unraised s t) {x : Source} (w : Detail) (hx : .censusRequired ≠ x := by nofun) :
    Unraised s (t.raise x w) := (raise_source_ne hx w).trans h

theorem Unraised.askScan (h : Unraised s t) : Unraised s t.askScan := h

theorem Unraised.askRound (h : Unraised s t) : Unraised s t.askRound := h

end

section
variable (s : State) (d : DishId) (z : ZoneId) (g : SlotId)

theorem unraised_raiseConflict (k : ConflictKind) : Unraised s (s.raiseConflict d k) := by
  unfold State.raiseConflict; split
  · exact (Unraised.refl s).raise _
  · exact .refl s

theorem unraised_completeZone : Unraised s (s.completeZone z) := by
  unfold State.completeZone; dsimp only; split
  · exact Unraised.raise rfl _
  · exact .refl s

theorem unraised_unpower (st : ZoneState) : Unraised s (s.unpower z st) := by
  unfold State.unpower; dsimp only
  exact unraised_ite (unraised_completeZone ((s.chargeZone z).cutPower z st) z) (.refl s)

theorem unraised_reblockZone : Unraised s (s.reblockZone z) := by
  unfold State.reblockZone; split
  · exact .refl s
  · exact unraised_ite (unraised_unpower s z .blocked) (.refl s)
  · exact unraised_ite (.refl s) (.refl s)
  · exact unraised_ite (.refl s) (.refl s)

theorem unraised_reblockAll : Unraised s s.reblockAll := by
  unfold State.reblockAll
  exact (unraised_foldl unraised_reblockZone allZones s).askScan

theorem unraised_shedWalk (xs : List PoweredZone) : Unraised s (shedWalk xs s) := by
  induction xs generalizing s with
  | nil => exact .refl s
  | cons x xs ih =>
    unfold shedWalk
    exact unraised_ite (.refl s) ((unraised_unpower s x.zone _).trans (ih _))

theorem unraised_shedHeaters : Unraised s s.shedHeaters := unraised_shedWalk s _

theorem unraised_setStowState (x : StowState) : Unraised s (s.setStowState x) := by
  unfold State.setStowState; split
  · exact .refl s
  · exact Unraised.raise rfl _

theorem unraised_checkStowedHold : Unraised s s.checkStowedHold := by
  have hheld := (unraised_setStowState s .stowedHold).trans (unraised_reblockAll _)
  unfold State.checkStowedHold; dsimp only; split
  · refine unraised_ite (hheld.trans ?_) hheld
    generalize (s.setStowState .stowedHold).reblockAll = u
    exact unraised_setStowState { u with stow := { u.stow with holdOff := some (u.clock + u.settings.wind.holdOff * 1000) } } _
  · exact .refl s

theorem unraised_enterReservation (n : Nat) (p : Purpose) : Unraised s (s.enterReservation d n p) :=
  unraised_ite (.refl s) (.refl s)

theorem unraised_releaseReservation : Unraised s (s.releaseReservation d) := by
  unfold State.releaseReservation; split <;> exact .refl s

theorem unraised_limitReservation (n : Nat) : Unraised s (s.limitReservation d n) := by
  unfold State.limitReservation; split
  · exact .refl s
  · exact unraised_ite (.refl s) (.refl s)

theorem unraised_writeLoad (az el : AxisLoad) (n : Nat) : Unraised s (s.writeLoad d az el n) :=
  unraised_ite (.refl s) (.refl s)

theorem unraised_unqueue : Unraised s (s.unqueue d) := unraised_ite (.refl s) (.refl s)

theorem unraised_passPositioned : Unraised s (s.passPositioned g) := by
  unfold State.passPositioned; dsimp only
  refine Unraised.raise ?_ _
  have hbraked := unraised_onDishes (f := State.writeHoldBrake) (fun s _ => .refl s) (s.group g).activeDishes s
  exact hbraked.trans (unraised_onDishes unraised_releaseReservation _ _)

theorem unraised_passTracking : Unraised s (s.passTracking g) := by
  unfold State.passTracking; dsimp only
  refine Unraised.raise ?_ _
  exact unraised_onDishes (fun s d => unraised_limitReservation s d (s.trackSum d)) _ s

theorem unraised_passOnArrival : Unraised s (s.passOnArrival g) := by
  unfold State.passOnArrival; split
  · exact unraised_passPositioned s g
  · exact unraised_passTracking s g

theorem unraised_launch : Unraised s (s.launch g) := by
  unfold State.launch
  refine unraised_ite (unraised_passOnArrival s g) ?_
  refine unraised_foldl (fun u m => ?_) (s.group g).active s
  split
  · exact unraised_writeLoad u _ _ _ _
  · exact .refl u

theorem unraised_enterShed (draws : List (DishId × Nat)) : Unraised s (s.enterGroup draws).shedHeaters :=
  (unraised_foldl (fun s x => unraised_enterReservation s x.1 x.2 .group) draws s).trans (unraised_shedHeaters _)

theorem unraised_admitStow (p : MovePlan) : Unraised s (s.admitStow d p) := by
  have hleft : Unraised s ((s.unqueue d).conflictAtStow d) :=
    (unraised_unqueue s d).trans (unraised_ite (unraised_raiseConflict _ _ _) (.refl _))
  unfold State.admitStow; dsimp only
  refine unraised_ite hleft (hleft.trans ?_)
  exact ((unraised_enterReservation _ d p.draw .stow).trans (unraised_shedHeaters _)).trans (unraised_writeLoad _ d _ _ _)

theorem unraised_admitShed (p : MovePlan) : Unraised s (s.admitShed d p) := by
  unfold State.admitShed; dsimp only
  refine unraised_ite (.refl s) ?_
  exact ((unraised_enterReservation (s.unlistShed d) d p.draw .shed).trans (unraised_shedHeaters _)).trans
    (unraised_writeLoad _ d _ _ _)

theorem unraised_noteFloor (p : MovePlan) : Unraised s (s.noteFloor d p) := by
  have hproblem := (Unraised.refl s).raise (x := .stowProblem) (.stowStarved d p.draw s.feeder.allowance)
  unfold State.noteFloor; dsimp only
  exact unraised_ite (Unraised.raise hproblem _) hproblem

theorem unraised_judgeRestored : Unraised s s.judgeRestored := by
  unfold State.judgeRestored; split
  · exact .refl s
  · exact unraised_ite (Unraised.raise rfl _) (.refl s)

theorem unraised_admitOrder (o : Order) (n : Nat) (draws : List (DishId × Nat)) :
    Unraised s (s.admitOrder o g n draws) := by
  unfold State.admitOrder; dsimp only
  refine Unraised.trans ?_ ((unraised_enterShed _ draws).trans (unraised_launch _ g))
  refine Unraised.trans ?_ (unraised_onDishes (fun u _ => ?_) _ _)
  · rfl
  · rfl

end

/-- No round and no scan raises CENSUS_REQUIRED. -/
theorem roundKeeps_unraised (s₀ : State) : RoundKeeps (Unraised s₀) where
  asks _ _ _ _ h := h
  restored s h := h.trans (unraised_judgeRestored s)
  power _ _ _ h _ := h
  inPlace _ s d _ _ h _ := h.trans (unraised_unqueue s d)
  stow _ s d p _ _ h _ := h.trans (unraised_admitStow s d p)
  floor s d p h := h.trans (unraised_noteFloor s d p)
  held s h _ _ := h.trans (unraised_checkStowedHold s)
  resumeSlew s g n draws h _ _ := h.trans ((unraised_enterShed s draws).trans (unraised_launch _ g))
  resumeTrack s g draws h _ _ := h.trans (unraised_enterShed s draws)
  order _ s o g n draws _ _ h _ _ _ _ := h.trans (unraised_admitOrder s g o n draws)
  refused s w h := Unraised.raise h w
  unlisted _ _ _ _ _ _ h := h
  shed _ s e p _ _ h _ _ := h.trans (unraised_admitShed s e.dish p)

theorem unraised_settle (s : State) : Unraised s s.settle := (roundKeeps_unraised s).settle (.refl s)

/-! ## Zones unblocked (R132) -/

section
variable {s : State} {z w : ZoneId}

/-- The judgement of a zone by its block conditions concerns no other. -/
theorem reblockZone_zone_ne (h : z ≠ w) : (s.reblockZone w).zone z = s.zone z := by
  have hset : ∀ f, (s.setZone w f).askScan.zone z = s.zone z := fun f => (setZone_zone s w z f).trans (if_neg h)
  unfold State.reblockZone; split
  · rfl
  · split
    · exact unpower_zone_ne s w z .blocked h
    · rfl
  · split
    · exact hset _
    · rfl
  · split
    · rfl
    · exact hset _

/-- A zone whose dish no block condition holds, and that is not BLOCKED. -/
def State.Freed (s : State) (z : ZoneId) : Prop := s.blocks z.dish = false ∧ (s.zone z).state ≠ .blocked

theorem freed_reblockZone (h : s.blocks z.dish = false) : (s.reblockZone z).Freed z := by
  refine ⟨(reblockZone_blocks z z.dish).trans h, ?_⟩
  rw [reblockZone_zone_of_free h]
  split
  · nofun
  · next hne => exact fun hb => hne ⟨rfl, hb⟩

theorem State.Freed.reblockZone (h : s.Freed z) (w : ZoneId) : (s.reblockZone w).Freed z := by
  by_cases hw : z = w
  · subst hw; exact freed_reblockZone h.1
  · exact ⟨(reblockZone_blocks w z.dish).trans h.1, by rw [reblockZone_zone_ne hw]; exact h.2⟩

/-- With all zones judged, none stays BLOCKED that no block condition holds (R132). -/
theorem reblockAll_unblocks (h : s.blocks z.dish = false) : (s.reblockAll.zone z).state ≠ .blocked := by
  have hall : (allZones.foldl State.reblockZone s).Freed z :=
    foldl_reaches (P := fun u => u.blocks z.dish = false) (Q := fun u => u.Freed z)
      (fun u w _ hu => (reblockZone_blocks w z.dish).trans hu) (fun u hu => freed_reblockZone hu)
      (fun u w hu => hu.reblockZone w) (mem_allZones z) h
  unfold State.reblockAll
  generalize allZones.foldl State.reblockZone s = u at hall ⊢
  exact hall.2

end

/-! ## CENSUS COMPLETE (R156) -/

/-- The census recorded as complete by a station, and CENSUS_REQUIRED pending no more. -/
def State.censusDeclared (s : State) (n : StationId) : State :=
  { s with locks := { s.locks with census := .complete n s.locks.seconds } }.setSource .censusRequired
    fun x => { x with pending := false }

section
variable {s : State} {n : StationId}

theorem exec_censusComplete (hh : s.hears (.station n) = true) :
    exec (.censusComplete (.station n) (.fields {})) s = .next (match s.locks.census with
      | .incomplete => (s.completeCensus n).settle.answer (.station n) .censusComplete .ok
          (u8 s.entryCount)
      | .complete _ _ => s.refuse (.station n) .censusComplete .wrongState) := by
  refine (serve_taken hh rfl _ _).trans ?_
  cases s.locks.census <;> rfl

theorem completeCensus_eq (s : State) (n : StationId) : s.completeCensus n = (s.censusDeclared n).reblockAll.askRound := rfl

theorem touches_censusDeclared (ps : List Place) (s : State) (n : StationId) : Touches ps s (s.censusDeclared n) :=
  .of_same rfl rfl rfl rfl rfl rfl rfl rfl rfl rfl rfl rfl rfl

theorem within_completeCensus (s : State) (n : StationId) : Within (s.censusDeclared n) (s.completeCensus n).settle := by
  rw [completeCensus_eq]
  exact (within_reblockAll _).trans <| (within_askRound _).trans (within_settle _)

/-- A completed census concerns neither dishes nor groups before the rounds. -/
theorem completeCensus_spares (s : State) (n : StationId) : SparesBut [] [] s (s.completeCensus n).settle := by
  have ht : Touches heatBlock s (s.completeCensus n) := by
    rw [completeCensus_eq]
    exact ((touches_censusDeclared _ s n).trans (touches_reblockAll _)).askRound
  exact (ht.sparesBut (by simp) (by simp) (by simp) (by simp)).settle

/-- CENSUS_REQUIRED is pending no more once the census is complete (R156). -/
theorem completeCensus_unpends (s : State) (n : StationId) :
    ((s.completeCensus n).settle.source .censusRequired).pending = false := by
  have hasked : Unraised (s.censusDeclared n) (s.completeCensus n) := (unraised_reblockAll (s.censusDeclared n)).askRound
  have hsettled : Unraised (s.censusDeclared n) (s.completeCensus n).settle := hasked.trans (unraised_settle _)
  have hcleared : ((s.censusDeclared n).source .censusRequired).pending = false :=
    congrArg SourceState.pending (setSource_source_self { s with locks := { s.locks with census := .complete n s.locks.seconds } }
      .censusRequired fun x => { x with pending := false })
  rw [hsettled]; exact hcleared

/-- The zones that nothing but the census blocked are blocked no more (R132). -/
theorem completeCensus_unblocks (ha : s.stow.state ≠ .active) {z : ZoneId} (hl : s.heatLocked z.dish = false)
    (hm : (s.dish z.dish).motion ≠ .offline) : ((s.completeCensus n).settle.zone z).state ≠ .blocked := by
  have hfree : (s.censusDeclared n).blocks z.dish = false := by
    change (s.heatLocked z.dish || !true || decide (s.stow.state = .active) || decide ((s.dish z.dish).motion = .offline)) = false
    simp [hl, ha, hm]
  have hjudged : Unblocked z (s.censusDeclared n).reblockAll := ⟨by rw [reblockAll_stow]; exact ha, reblockAll_unblocks hfree⟩
  have hasked : Unblocked z (s.completeCensus n) := hjudged.touch (Touches.refl [] _).askRound (by simp) (by simp)
  exact ((roundKeeps_unblocked z).settle hasked).2

end

/-- Settles O53: what the declaration records is followed by zones unblocked and rounds, which raise other sources alone. -/
theorem censusCompleted : Obligations.CensusCompleted := by
  unfold Obligations.CensusCompleted
  intro n s hh
  have hexec := exec_censusComplete hh
  refine ⟨fun hc => ?_, fun m x hc => ?_⟩
  · intro locks
    rw [hc] at hexec; dsimp only at hexec
    have hwithin := within_completeCensus s n
    have hspares := completeCensus_spares s n
    have hpending := completeCensus_unpends s n
    have hzones := fun ha z => completeCensus_unblocks (s := s) (n := n) (z := z) ha
    generalize (s.completeCensus n).settle = u at hexec hwithin hspares hpending hzones
    have hholder : (u.answer (.station n) .censusComplete .ok (u8 s.entryCount)).holder (.station n)
        = some ⟨0x33, .ok, u8 s.entryCount⟩ := putHolder_holder u (.station n) _
    refine ⟨_, hexec, hholder, (putHolder_locks _ _ _).trans hwithin.locks_eq, hpending, ?_, hspares.answer _ _ _ _,
      fun ha z hl hm => hzones ha z hl hm⟩
    rw [hholder]; exact hwithin.putHolder _ _
  · rw [hc] at hexec; exact hexec

end Sys2Proof.Machine
end

section
/-! PLACE LOCK: its refusals, the entry's state, and the answers of the blocks to a first move lock and to a heat lock (R132, R145 to
R147). -/

namespace Sys2Proof.Machine

/-! ## HOLD BRAKE of a move-locked dish (R23) -/

/-- Between the two states a move-locked dish has not lost HOLD BRAKE from its slot. -/
def StaysBraked (d : DishId) (s t : State) : Prop :=
  Within s t ∧ (s.moveLocked d = true → s.slot d = .holdBrake → t.slot d = .holdBrake)

section
variable {s t u : State} {d : DishId}

theorem StaysBraked.of_slot (hw : Within s t) (hs : t.slot d = s.slot d) : StaysBraked d s t := ⟨hw, fun _ hb => hs.trans hb⟩

theorem StaysBraked.of_touches {ps : List Place} (hw : Within s t) (ht : Touches ps s t) (hd : .dish d ∉ ps := by simp) :
    StaysBraked d s t := by
  obtain ⟨-, hslot, -⟩ := ht.dish d hd
  exact .of_slot hw hslot

/-- A change at one dish, judged where it is this dish. -/
theorem StaysBraked.of_dish {e : DishId} (hw : Within s t) (ht : Touches [.dish e] s t)
    (hs : s.moveLocked e = true → s.slot e = .holdBrake → t.slot e = .holdBrake) : StaysBraked d s t := by
  by_cases he : d = e
  · subst he; exact ⟨hw, hs⟩
  · exact .of_touches hw ht (by simpa using he)

theorem StaysBraked.refl (s : State) : StaysBraked d s s := ⟨.refl s, fun _ h => h⟩

theorem StaysBraked.trans (h : StaysBraked d s t) (k : StaysBraked d t u) : StaysBraked d s u :=
  ⟨h.1.trans k.1, fun hl hb => k.2 (by rw [h.1.moveLocked_eq]; exact hl) (h.2 hl hb)⟩

theorem staysBraked_ite {c : Prop} [Decidable c] (ht : StaysBraked d s t) (hu : StaysBraked d s u) :
    StaysBraked d s (if c then t else u) := by split <;> assumption

theorem staysBraked_foldl {α : Type} {f : State → α → State} (h : ∀ s x, StaysBraked d s (f s x)) (xs : List α) (s : State) :
    StaysBraked d s (xs.foldl f s) := by
  induction xs generalizing s with
  | nil => exact .refl s
  | cons x xs ih => exact (h s x).trans (ih _)

theorem staysBraked_onDishes {f : State → DishId → State} (h : ∀ s e, StaysBraked d s (f s e)) (ds : List DishId) (s : State) :
    StaysBraked d s (s.onDishes ds f) := staysBraked_foldl h ds s

end

section
variable (s : State) (d e : DishId) (g : SlotId)

theorem staysBraked_setMotion (m : Motion) : StaysBraked d s (s.setMotion e m) := .of_slot (within_setMotion s e m) rfl

theorem staysBraked_setGroup (f : Group → Group) : StaysBraked d s (s.setGroup g f) := .of_slot (within_setGroup s g f) rfl

theorem staysBraked_raise (x : Source) (w : Detail) : StaysBraked d s (s.raise x w) := .of_slot (within_raise s x w) rfl

theorem staysBraked_writeHoldBrake : StaysBraked d s (s.writeHoldBrake e) :=
  .of_dish (within_writeHoldBrake s e) (touches_writeHoldBrake s e) fun _ _ => putSlot_slot_self s e .holdBrake

/-- LOAD is barred from the slot of a move-locked dish (R23). -/
theorem staysBraked_writeLoad (az el : AxisLoad) (n : Nat) : StaysBraked d s (s.writeLoad e az el n) :=
  .of_dish (within_writeLoad s e az el n) (touches_writeLoad s e az el n) fun hl hb => by
    unfold State.writeLoad State.writeBarred; rw [if_pos hl]; exact hb

theorem enterReservation_slot (n : Nat) (p : Purpose) : (s.enterReservation e n p).slot d = s.slot d := by
  unfold State.enterReservation; split <;> rfl

theorem releaseReservation_slot : (s.releaseReservation e).slot d = s.slot d := by
  unfold State.releaseReservation; split <;> rfl

theorem limitReservation_slot (n : Nat) : (s.limitReservation e n).slot d = s.slot d := by
  unfold State.limitReservation; split
  · rfl
  · split <;> rfl

theorem staysBraked_enterReservation (n : Nat) (p : Purpose) : StaysBraked d s (s.enterReservation e n p) :=
  .of_slot (within_enterReservation s e n p) (enterReservation_slot s d e n p)

theorem staysBraked_shedHeaters : StaysBraked d s s.shedHeaters := .of_touches (within_shedHeaters s) (touches_shedHeaters s)

theorem staysBraked_stowInPlace : StaysBraked d s (s.stowInPlace e) :=
  (staysBraked_setMotion s d e .stowed).trans (staysBraked_writeHoldBrake _ d e)

theorem staysBraked_passPositioned : StaysBraked d s (s.passPositioned g) := by
  unfold State.passPositioned; dsimp only
  refine StaysBraked.trans ?_ ((staysBraked_setGroup _ d g _).trans (staysBraked_raise _ d _ _))
  refine (staysBraked_onDishes (fun s e => staysBraked_writeHoldBrake s d e) _ s).trans (staysBraked_onDishes (fun s e => ?_) _ _)
  exact .of_slot (within_releaseReservation s e) (releaseReservation_slot s d e)

theorem staysBraked_passTracking : StaysBraked d s (s.passTracking g) := by
  unfold State.passTracking; dsimp only
  refine StaysBraked.trans ?_ ((staysBraked_setGroup _ d g _).trans (staysBraked_raise _ d _ _))
  refine StaysBraked.trans ?_ (.of_slot (within_setStream _ g _ fun x => le_refl x.buffer.length) rfl)
  exact staysBraked_onDishes (fun s e => .of_slot (within_limitReservation s e _) (limitReservation_slot s d e _)) _ s

theorem staysBraked_passOnArrival : StaysBraked d s (s.passOnArrival g) := by
  unfold State.passOnArrival; split
  · exact staysBraked_passPositioned s d g
  · exact staysBraked_passTracking s d g

theorem staysBraked_launch : StaysBraked d s (s.launch g) := by
  unfold State.launch
  refine staysBraked_ite (staysBraked_passOnArrival s d g) (StaysBraked.trans ?_ (staysBraked_setGroup _ d g _))
  refine staysBraked_foldl (fun u m => ?_) (s.group g).active s
  split
  · exact staysBraked_writeLoad u d _ _ _ _
  · exact .refl u

theorem staysBraked_enterShed (draws : List (DishId × Nat)) : StaysBraked d s (s.enterGroup draws).shedHeaters :=
  (staysBraked_foldl (fun s x => staysBraked_enterReservation s d x.1 x.2 .group) draws s).trans (staysBraked_shedHeaters _ d)

theorem staysBraked_admitStow (p : MovePlan) : StaysBraked d s (s.admitStow e p) := by
  have hleft : StaysBraked d s ((s.unqueue e).conflictAtStow e) :=
    (StaysBraked.of_touches (within_unqueue s e) (touches_unqueue s e)).trans
      (.of_touches (ps := []) (within_conflictAtStow _ e) (touches_conflictAtStow _ e []))
  unfold State.admitStow; dsimp only
  refine staysBraked_ite (hleft.trans (staysBraked_stowInPlace _ d e)) (hleft.trans ?_)
  refine ((staysBraked_enterReservation _ d e p.draw .stow).trans (staysBraked_shedHeaters _ d)).trans ?_
  refine StaysBraked.trans ?_ (.of_touches (within_setMove _ e _) (touches_setMove _ e _))
  exact (staysBraked_writeLoad _ d e _ _ _).trans (staysBraked_setMotion _ d e .stowing)

theorem staysBraked_admitShed (p : MovePlan) : StaysBraked d s (s.admitShed e p) := by
  have hleft : StaysBraked d s (s.unlistShed e) := .of_touches (within_unlistShed s e) (touches_unlistShed s e)
  unfold State.admitShed; dsimp only
  refine staysBraked_ite (hleft.trans (.of_touches (within_setShedResult _ e _) (touches_setShedResult _ e _))) (hleft.trans ?_)
  refine ((staysBraked_enterReservation _ d e p.draw .shed).trans (staysBraked_shedHeaters _ d)).trans ?_
  refine StaysBraked.trans ?_ (.of_touches (within_setShedMove _ e _) (touches_setShedMove _ e _))
  exact (staysBraked_writeLoad _ d e _ _ _).trans (staysBraked_setMotion _ d e .shedding)

theorem staysBraked_admitOrder (o : Order) (n : Nat) (draws : List (DishId × Nat)) :
    StaysBraked d s (s.admitOrder o g n draws) := by
  unfold State.admitOrder; dsimp only
  refine StaysBraked.trans ?_ ((staysBraked_enterShed _ d draws).trans (staysBraked_launch _ d g))
  refine StaysBraked.trans ?_ (staysBraked_onDishes (fun u e => ?_) _ _)
  · refine StaysBraked.trans ?_ (staysBraked_setGroup _ d g _)
    exact .of_slot ((within_tailOrders s).trans (within_setStream _ g _ fun _ => Nat.zero_le _)) rfl
  · exact .of_slot (within_setDish u e (fun x => { x with motion := .engaged, group := some g }) fun _ => rfl) rfl

end

/-- A move-locked dish with HOLD BRAKE in its slot. -/
def Braked (d : DishId) (s : State) : Prop := s.moveLocked d = true ∧ s.slot d = .holdBrake

theorem Braked.stays {d : DishId} {s t : State} (h : Braked d s) (k : StaysBraked d s t) : Braked d t :=
  ⟨by rw [k.1.moveLocked_eq]; exact h.1, k.2 h.1 h.2⟩

theorem Braked.touch {d : DishId} {s t : State} {ps : List Place} (h : Braked d s) (hw : Within s t) (ht : Touches ps s t)
    (hd : .dish d ∉ ps := by simp) : Braked d t := h.stays (.of_touches hw ht hd)

/-- No round and no scan takes HOLD BRAKE from the slot of a move-locked dish (R23). -/
theorem roundKeeps_braked (d : DishId) : RoundKeeps (Braked d) where
  asks s j r c h := h.touch (within_asks s j r c) (touches_asks [] s j r c)
  restored s h := h.touch (within_judgeRestored s) (touches_judgeRestored s [])
  power s z n h hz := h.touch (within_powerZone s z n) (touches_powerZone s z n hz)
  inPlace _ s e _ _ h _ := (h.touch (within_unqueue s e) (touches_unqueue s e)).stays (staysBraked_stowInPlace _ d e)
  stow _ s e p _ _ h _ := h.stays (staysBraked_admitStow s d e p)
  floor s e p h := h.touch (within_noteFloor s e p) (touches_noteFloor s e [] p)
  held s h _ _ := h.touch (within_checkStowedHold s) (touches_checkStowedHold s)
  resumeSlew s g n draws h _ _ := h.stays <| (staysBraked_enterShed s d draws).trans <|
    (staysBraked_setGroup _ d g _).trans (staysBraked_launch _ d g)
  resumeTrack s g draws h _ _ := h.stays ((staysBraked_enterShed s d draws).trans (staysBraked_setGroup _ d g _))
  order _ s o g n draws _ _ h _ _ _ _ := h.stays (staysBraked_admitOrder s d g o n draws)
  refused s w h := h.stays (.of_slot ((within_tailOrders s).trans (within_raise _ _ w)) rfl)
  unlisted _ s e r _ _ h := h.touch ((within_unlistShed s e.dish).trans (within_setShedResult _ e.dish r)) (touches_unlist s e.dish r)
  shed _ s e p _ _ h _ _ := h.stays (staysBraked_admitShed s d e.dish p)

/-! ## The zones of a heat-locked dish (R132) -/

theorem Within.heatLocked_eq {s t : State} (h : Within s t) (d : DishId) : t.heatLocked d = s.heatLocked d := by
  unfold State.heatLocked
  rw [h.appliedHeat_eq, h.switchLock_eq]

theorem blocks_of_heatLocked {s : State} {d : DishId} (h : s.heatLocked d = true) : s.blocks d = true := by
  simp [State.blocks, h]

/-- A zone of a heat-locked dish that is shut. -/
def HeatShut (z : ZoneId) (s : State) : Prop := s.heatLocked z.dish = true ∧ s.Shut z

section
variable {s t : State} {z : ZoneId}

theorem HeatShut.touch {ps : List Place} (h : HeatShut z s) (ht : Touches ps s t) (hw : Within s t) (hb : .block ∉ ps := by simp) :
    HeatShut z t := by
  obtain ⟨-, hshut, -⟩ := ht.block hb z
  exact ⟨by rw [hw.heatLocked_eq]; exact h.1, hshut h.2⟩

/-- A zone that is shut stays so while another is judged. -/
theorem reblockZone_shut_ne {w : ZoneId} (h : s.Shut z) (hz : z ≠ w) : (s.reblockZone w).Shut z := by
  have hset : ∀ f, ((s.setZone w f).askScan).Shut z := fun f => by
    have hzone : (s.setZone w f).zone z = s.zone z := (setZone_zone s w z f).trans (if_neg hz)
    exact ⟨hzone ▸ h.1, h.2⟩
  unfold State.reblockZone; split
  · exact h
  · split
    · exact h.unpower hz .blocked
    · exact h
  · split
    · exact hset _
    · exact h
  · split
    · exact h
    · exact hset _

theorem HeatShut.reblockZone (h : HeatShut z s) (w : ZoneId) : HeatShut z (s.reblockZone w) := by
  refine ⟨by rw [(within_reblockZone s w).heatLocked_eq]; exact h.1, ?_⟩
  by_cases hz : z = w
  · subst hz; exact reblockZone_shut h.2 (blocks_of_heatLocked h.1)
  · exact reblockZone_shut_ne h.2 hz

theorem HeatShut.reblockAll (h : HeatShut z s) : HeatShut z s.reblockAll := by
  have hall : ∀ (ws : List ZoneId) (u : State), HeatShut z u → HeatShut z (ws.foldl State.reblockZone u) := fun ws => by
    induction ws with
    | nil => exact fun _ hu => hu
    | cons w ws ih => exact fun u hu => ih _ (hu.reblockZone w)
  have hz := hall allZones s h
  unfold State.reblockAll
  generalize allZones.foldl State.reblockZone s = u at hz ⊢
  exact hz

theorem HeatShut.checkStowedHold (h : HeatShut z s) : HeatShut z s.checkStowedHold := by
  have hheld := (h.touch (touches_setStowState s .stowedHold) (within_setStowState s _)).reblockAll
  unfold State.checkStowedHold; dsimp only; split
  · split
    · exact hheld.touch (touches_enterCalmWait _) (within_enterCalmWait _)
    · exact hheld
  · exact h

/-- No round and no scan powers a zone of a heat-locked dish. -/
theorem roundKeeps_heatShut (z : ZoneId) : RoundKeeps (HeatShut z) :=
  .of_touches (fun _ _ h ht hw => h.touch ht hw) (fun _ _ _ _ _ _ h _ ht hw => h.touch ht hw)
    (fun _ h _ _ => h.checkStowedHold) (fun _ _ _ h _ ht hw => h.touch ht hw (by simp [block_notMem_places]))
    (fun _ s _ _ _ _ _ h _ _ ht hw => by
      obtain ⟨-, hshut, -⟩ := ht.block (by simp [State.idlePlaces]) z
      exact ⟨by rw [hw.heatLocked_eq]; exact h.1, hshut h.2⟩)
    (fun _ h => h)
    (fun _ s e r _ _ h => h.touch (touches_unlist s e.dish r) ((within_unlistShed s e.dish).trans (within_setShedResult _ _ r)))
    (fun _ _ _ _ _ _ h _ _ => h.touch (touches_admitShed _ _ _) (within_admitShed _ _ _))

/-- The zones of a heat-locked dish are shut once they have been judged (R132). -/
theorem answerBlock_heatShut (h : s.OrderPowered) (hl : s.heatLocked z.dish = true) (b : Bool) : HeatShut z (s.answerBlock z.dish b) := by
  have hdish : HeatShut z (s.reblockDish z.dish) :=
    foldl_reaches (P := fun u => u.OrderPowered ∧ u.heatLocked z.dish = true) (Q := HeatShut z)
      (fun u w _ ⟨hu, hlu⟩ => ⟨hu.reblockZone w, by rw [(within_reblockZone u w).heatLocked_eq]; exact hlu⟩)
      (fun u ⟨hu, hlu⟩ => ⟨by rw [(within_reblockZone u z).heatLocked_eq]; exact hlu, reblockZone_shuts hu (blocks_of_heatLocked hlu)⟩)
      (fun u w hu => hu.reblockZone w) (mem_zonesOf.2 rfl) ⟨h, hl⟩
  unfold State.answerBlock; dsimp only
  generalize s.reblockDish z.dish = u at hdish ⊢
  split <;> exact hdish

end

/-- In a lawful feeder the power order names POWERED zones alone (R115). -/
theorem State.Meets.orderPowered {s : State} (h : s.Meets .named) : s.OrderPowered := fun z => (h.1 z).2

/-! ## The entry placed (R145, R146) -/

section
variable {s : State} {d : DishId} {p : Fin 96}

theorem putLock_entry (s : State) (p : Fin 96) (e : LockEntry) : (s.putLock p (some e)).locks.entries[p] = some e :=
  (set_get _ _ _ _).trans (if_pos rfl)

theorem putLock_heatLocked (e : LockEntry) (hs : e.scope ≠ .move) : (s.putLock p (some e)).heatLocked e.dish = true := by
  have hcount : 1 ≤ (s.putLock p (some e)).appliedHeat e.dish := countLocks_pos.2 ⟨p, e, putLock_entry s p e, by simp [hs]⟩
  unfold State.heatLocked; simp [hcount]

theorem putLock_moveLocked (e : LockEntry) (hs : e.scope ≠ .heat) (ha : e.state = .applied) :
    (s.putLock p (some e)).moveLocked e.dish = true := by
  have hcount : 1 ≤ (s.putLock p (some e)).appliedMove e.dish := countLocks_pos.2 ⟨p, e, putLock_entry s p e, by simp [hs, ha]⟩
  unfold State.moveLocked; simp [hcount]

theorem takesLock_iff {m : Motion} : m.takesLock = true ↔ m = .idle ∨ m = .stowed ∨ m = .fault := by
  cases m <;> simp [Motion.takesLock]

theorem brakedStill_iff {x : Dish} : x.brakedStill = true ↔ x.brakesSet = true ∧ x.moving = false := by simp [Dish.brakedStill]

/-- A new entry is APPLIED where it is a HEAT entry, or where the dish is braked and still in a state that takes it (R146). -/
theorem newLockState_eq (s : State) (d : DishId) (scope : Scope) : s.newLockState d scope =
    if scope = .heat ∨ ((s.dish d).motion = .idle ∨ (s.dish d).motion = .stowed ∨ (s.dish d).motion = .fault)
      ∧ (s.dish d).brakesSet = true ∧ (s.dish d).moving = false then .applied else .pending := by
  cases scope <;> simp [State.newLockState, takesLock_iff, brakedStill_iff]

end

/-! ## The answers to a first move lock (R147) -/

section
variable {u : State} {d : DishId}

theorem skipShed_unlists (u : State) (d : DishId) : (u.skipShed d).shedListed d = false := by
  refine shedListed_false.2 fun e he => ?_
  rw [skipShed_shedList] at he
  exact of_decide_eq_true (List.mem_filter.1 he).2

theorem skipShed_dish (u : State) (d : DishId) : (u.skipShed d).dish d = u.dish d := ((touches_skipShed u d).dish d (by simp)).1

/-- An ENGAGED member is excluded and stopped. -/
theorem answerMoveLock_engaged (hm : (u.dish d).motion = .engaged) (hg : (u.dish d).group ≠ none) :
    (u.answerMoveLock d).core d = ({ u.dish d with group := none, motion := .stopping }, .stop, none) := by
  obtain ⟨g, hg⟩ := Option.ne_none_iff_exists'.1 hg
  have hdish := skipShed_dish u d
  have heq : u.answerMoveLock d = (u.skipShed d).excludeMember d .lockRequest := by
    unfold State.answerMoveLock; dsimp only; rw [hdish, hm]
  rw [heq, excludeMember_core_stops (g := g) (by rw [hdish]; exact hg) (by rw [hdish, hm]; nofun) (by rw [hdish, hm]; nofun), hdish]

/-- A dish whose shed move has been aborted: stopped, and neither with a shed move record nor in the Shed List. -/
structure ShedAborted (d : DishId) (s : State) : Prop where
  stop : s.AtStop d
  shed : s.shedOf d = (none, .aborted)
  unlisted : s.shedListed d = false

theorem ShedAborted.touch {s t : State} {ps : List Place} (h : ShedAborted d s) (ht : Touches ps s t)
    (hd : .dish d ∉ ps := by simp) (hs : .sheds ∉ ps := by simp) : ShedAborted d t := by
  obtain ⟨hdish, hslot, hreserved⟩ := ht.dish d hd
  obtain ⟨hmotion, hstop, hnone⟩ := h.stop
  exact ⟨⟨by rw [hdish]; exact hmotion, hslot.trans hstop, hreserved.trans hnone⟩, (touches_shedOf ht hs d).trans h.shed,
    (shedListed_touch ht hs).trans h.unlisted⟩

/-- Rounds and scans leave an aborted shed move as it is. -/
theorem ShedAborted.settle {s : State} (h : ShedAborted d s) : s.settle.AtStop d ∧ s.settle.shedOf d = (none, .aborted) := by
  obtain ⟨hmotion, hstop, hnone⟩ := h.stop
  have hcall : (s.dish d).motion.atCall = false := by rw [hmotion]; rfl
  obtain ⟨hmove, hresult⟩ := Prod.ext_iff.1 h.shed
  obtain ⟨-, hkept⟩ := (roundKeeps_shedEnded (d := d) .aborted).settle ⟨h.unlisted, hresult⟩
  have hspared := congrArg Hold.shedMove ((spares_settle s).dish d hcall)
  refine ⟨atStop_of_core (settle_core hcall) hmotion ?_, Prod.ext (hspared.trans hmove) hkept⟩
  exact Prod.ext hstop hnone

/-- A SHEDDING dish is stopped, and stands in the Shed List no more. -/
theorem answerMoveLock_shedding (hm : (u.dish d).motion = .shedding) : ShedAborted d (u.answerMoveLock d) := by
  have hdish := skipShed_dish u d
  have hlisted := skipShed_unlists u d
  have heq : u.answerMoveLock d = (u.skipShed d).stopShed d .aborted := by
    unfold State.answerMoveLock; dsimp only; rw [hdish, hm]
  rw [heq]
  generalize u.skipShed d = v at hdish hlisted ⊢
  have hmv : (v.dish d).motion = .shedding := by rw [hdish]; exact hm
  have hcore : (v.stopShed d .aborted).core d = stopped (v.core d) := (stopShed_core v d .aborted).trans (if_pos hmv)
  exact ⟨atStop_of_core hcore rfl rfl, (stopShed_shedOf v d .aborted d).trans (if_pos ⟨rfl, hmv⟩),
    shedListed_of_subset hlisted (touches_stopShed v d .aborted).listed⟩

/-- An IDLE dish of no group, move-locked by the entry, is held. -/
theorem answerMoveLock_idle (hm : (u.dish d).motion = .idle) (hg : (u.dish d).group = none) (hl : u.moveLocked d = true) :
    Braked d (u.answerMoveLock d) := by
  have hdish := skipShed_dish u d
  have hlv : (u.skipShed d).moveLocked d = true := by rw [(within_skipShed u d).moveLocked_eq]; exact hl
  have heq : u.answerMoveLock d = (((u.skipShed d).writeHoldBrake d).stowOnLocked d).excludeMember d .lockRequest := by
    unfold State.answerMoveLock; dsimp only; rw [hdish, hm]; dsimp only; rw [if_pos hlv]
  rw [heq]
  generalize u.skipShed d = v at hdish hlv ⊢
  have hheld : Braked d (v.writeHoldBrake d) :=
    ⟨by rw [(within_writeHoldBrake v d).moveLocked_eq]; exact hlv, putSlot_slot_self v d .holdBrake⟩
  have hgw : (v.writeHoldBrake d).dish d = u.dish d := hdish
  generalize v.writeHoldBrake d = w at hheld hgw ⊢
  have hstow := touches_stowOnLocked w d
  have hgx : ((w.stowOnLocked d).dish d).group = none := by rw [(hstow.dish d (by simp)).1, hgw]; exact hg
  rw [excludeMember_none hgx]
  exact hheld.touch (within_stowOnLocked w d) hstow

end

/-! ## The entry placed and answered -/

/-- The entry that PLACE LOCK makes (R145, R146). -/
def State.newLock (s : State) (n : StationId) (d : DishId) (scope : Scope) (tag : Nat) : LockEntry :=
  ⟨d, scope, tag, n, s.newLockState d scope, s.locks.seconds⟩

/-- The state with the new entry at a position, before any block has answered. -/
def State.lockPut (s : State) (n : StationId) (d : DishId) (scope : Scope) (tag : Nat) (p : Fin 96) : State :=
  s.putLock p (some (s.newLock n d scope tag))

section
variable {s : State} {n : StationId} {d : DishId} {scope : Scope} {tag : Nat} {p : Fin 96}

theorem place_eq : s.place n d scope tag p = (s.lockPut n d scope tag p).answerPlacing s d scope := rfl

theorem within_placeSettled : Within (s.lockPut n d scope tag p) (s.place n d scope tag p).settle :=
  (within_answerPlacing _ s d scope).trans (within_settle _)

/-- Behind the answer to a first move lock comes that of the heaters alone. -/
theorem place_of_first (hs : scope ≠ .heat) (h0 : s.appliedMove d = 0) :
    Touches heatBlock ((s.lockPut n d scope tag p).answerMoveLock d) (s.place n d scope tag p)
      ∧ Within ((s.lockPut n d scope tag p).answerMoveLock d) (s.place n d scope tag p) := by
  rw [place_eq]
  generalize s.lockPut n d scope tag p = u
  unfold State.answerPlacing; dsimp only
  rw [if_neg (show ¬ (scope = .heat ∨ 1 ≤ s.appliedMove d) by rw [h0]; simpa using hs)]
  exact ⟨touches_ite (.refl _ _) (touches_answerBlock _ d _), within_ite (.refl _) (within_answerBlock _ d _)⟩

theorem place_idle (hs : scope ≠ .heat) (h0 : s.appliedMove d = 0) (ha : s.newLockState d scope = .applied)
    (hm : (s.dish d).motion = .idle) (hg : (s.dish d).group = none) : (s.place n d scope tag p).settle.slot d = .holdBrake := by
  have hlock : (s.lockPut n d scope tag p).moveLocked d = true := putLock_moveLocked (s.newLock n d scope tag) hs ha
  have hheld := answerMoveLock_idle (u := s.lockPut n d scope tag p) hm hg hlock
  obtain ⟨htouches, hwithin⟩ := place_of_first (n := n) (tag := tag) (p := p) hs h0
  exact ((roundKeeps_braked d).settle (hheld.touch hwithin htouches)).2

theorem place_engaged (hs : scope ≠ .heat) (h0 : s.appliedMove d = 0) (hm : (s.dish d).motion = .engaged)
    (hg : (s.dish d).group ≠ none) : (s.place n d scope tag p).settle.core d =
      ({ s.dish d with group := none, motion := .stopping }, .stop, none) := by
  have hcore : (s.place n d scope tag p).core d = ({ s.dish d with group := none, motion := .stopping }, .stop, none) :=
    ((place_of_first hs h0).1.core_eq (by simp)).trans
      (answerMoveLock_engaged (u := s.lockPut n d scope tag p) hm hg)
  exact (settle_core (by rw [(core_eq hcore).1]; rfl)).trans hcore

theorem place_shedding (hs : scope ≠ .heat) (h0 : s.appliedMove d = 0) (hm : (s.dish d).motion = .shedding) :
    (s.place n d scope tag p).settle.AtStop d ∧ (s.place n d scope tag p).settle.shedOf d = (none, .aborted) := by
  have hended := answerMoveLock_shedding (u := s.lockPut n d scope tag p) hm
  obtain ⟨htouches, -⟩ := place_of_first (n := n) (tag := tag) (p := p) hs h0
  exact (hended.touch htouches).settle

theorem place_shuts (hs : scope ≠ .move) (hf : s.FeederLawful) {z : ZoneId} (hz : z.dish = d) :
    ((s.place n d scope tag p).settle.zone z).state = .idle ∨ ((s.place n d scope tag p).settle.zone z).state = .blocked := by
  have hput : (s.lockPut n d scope tag p).Meets .named := feederLawful_iff.1 hf .named
  have hlock : (s.lockPut n d scope tag p).heatLocked d = true := putLock_heatLocked (s.newLock n d scope tag) hs
  have hplaced : HeatShut z (s.place n d scope tag p) := by
    rw [place_eq]
    generalize s.lockPut n d scope tag p = u at hput hlock ⊢
    unfold State.answerPlacing; dsimp only
    rw [if_neg hs, ← hz]
    rw [← hz] at hlock
    refine answerBlock_heatShut (State.Meets.orderPowered (.ite hput hput.answerMoveLock)) ?_ _
    rw [(within_ite (.refl u) (within_answerMoveLock u z.dish)).heatLocked_eq]; exact hlock
  exact ((roundKeeps_heatShut z).settle hplaced).2.1

end

/-! ## PLACE LOCK (R145) -/

theorem scopeOf_place (x : Scope) : scopeOf x.place = some x := by cases x <;> rfl

theorem scopeOf_spec {k : Nat} {x : Scope} (h : scopeOf k = some x) : k ≤ 2 := by
  by_contra hk
  match k, hk with
  | 0, hk | 1, hk | 2, hk => exact hk (by decide)
  | k + 3, _ => cases h

theorem exec_placeLock {n : StationId} {s : State} (hh : s.hears (.station n) = true) (f : PlaceLockFields) :
    exec (.placeLock (.station n) (.fields f)) s = .next (
      if h : f.dish < 48 then
        match scopeOf f.scope with
        | none => s.refuse (.station n) .placeLock .badField
        | some scope =>
          if (s.cfg ⟨f.dish, h⟩).present ∧ 1 ≤ f.tag ∧ f.tag ≤ 999999 then
            s.placeLock (.station n) n ⟨f.dish, h⟩ scope f.tag
          else s.refuse (.station n) .placeLock .badField
      else s.refuse (.station n) .placeLock .badField) := serve_taken hh rfl _ _

section
variable {s : State} {n : StationId} {d : DishId} {scope : Scope} {tag : Nat} {p : Fin 96}

theorem named_iff : (∃ (p : Fin 96) (e : LockEntry), s.locks.entries[p] = some e ∧ e.dish = d ∧ e.tag = tag)
    ↔ 1 ≤ s.countLocks (LockEntry.named d tag) := by
  rw [countLocks_pos]; simp [LockEntry.named]

theorem findPosition_full (h : ∀ q : Fin 96, s.locks.entries[q] ≠ none) : s.findPosition Option.isNone = none :=
  findPosition_eq_none.2 fun q => Bool.eq_false_iff.2 fun hq => h q (Option.isNone_iff_eq_none.1 hq)

theorem findPosition_free (h : s.locks.entries[p] = none) (hlow : ∀ q : Fin 96, q < p → s.locks.entries[q] ≠ none) :
    s.findPosition Option.isNone = some p :=
  findPosition_eq_some.2 ⟨Option.isNone_iff_eq_none.2 h,
    fun q hq => Bool.eq_false_iff.2 fun hn => hlow q hq (Option.isNone_iff_eq_none.1 hn)⟩

/-- With a place left for the dish, the entry is put at the lowest free position. -/
theorem placeLock_of_free (src : Sender) (hs : ¬ 1 ≤ s.countLocks (LockEntry.named d tag))
    (h8 : ¬ 8 ≤ s.countLocks fun e => decide (e.dish = d)) (hfind : s.findPosition Option.isNone = some p) :
    s.placeLock src n d scope tag = (s.place n d scope tag p).settle.answer src .placeLock .ok
      ((s.place n d scope tag p).settle.placedField p d (s.newLockState d scope)) := by
  unfold State.placeLock
  rw [if_neg hs, if_neg h8, hfind]

end

/-- Settles O51: an entry that is neither refused nor a duplicate is put at the lowest free position, and the blocks answer it: a first
move lock by the dish's motion state, a heat lock by the zones shut; rounds and scans undo none of it. -/
theorem placeLockEnters : Obligations.PlaceLockEnters := by
  unfold Obligations.PlaceLockEnters
  intro n f s hh answered valid
  have hexec := exec_placeLock hh f
  refine ⟨fun hbad => ?_, fun d scope hvalid hd hscope => ?_⟩
  · by_cases hlt : f.dish < 48
    · rw [dif_pos hlt] at hexec
      cases hk : scopeOf f.scope with
      | none => rw [hk] at hexec; exact hexec
      | some scope =>
        rw [hk] at hexec; dsimp only at hexec
        rw [if_neg fun ⟨hp, htag⟩ => hbad ⟨⟨⟨f.dish, hlt⟩, rfl, hp⟩, scopeOf_spec hk, htag⟩] at hexec
        exact hexec
    · rw [dif_neg hlt] at hexec; exact hexec
  · intro same count
    obtain ⟨⟨e, he, hpresent⟩, -, htag⟩ := hvalid
    obtain rfl : e = d := Fin.ext (he.symm.trans hd)
    have hplace : exec (.placeLock (.station n) (.fields f)) s = .next (s.placeLock (.station n) n e scope f.tag) := by
      have hlt : f.dish < 48 := hd ▸ e.isLt
      have hdish : (⟨f.dish, hlt⟩ : DishId) = e := Fin.ext hd
      rw [dif_pos hlt, hscope, scopeOf_place, hdish] at hexec; dsimp only at hexec
      rw [if_pos ⟨hpresent, htag⟩] at hexec; exact hexec
    clear hexec
    have hsame : same ↔ 1 ≤ s.countLocks (LockEntry.named e f.tag) := named_iff
    refine ⟨fun h => ?_, fun h h8 => ?_, fun h h8 hfull => ?_, fun p h h8 hfree hlow => ?_⟩
    · unfold State.placeLock at hplace
      rw [if_pos (hsame.1 h)] at hplace; exact hplace
    · unfold State.placeLock at hplace
      rw [if_neg (mt hsame.2 h), if_pos h8] at hplace; exact hplace
    · unfold State.placeLock at hplace
      rw [if_neg (mt hsame.2 h), if_neg (Nat.not_le.2 h8), findPosition_full hfull] at hplace; exact hplace
    · intro m st locks
      have hst : s.newLockState e scope = st := newLockState_eq s e scope
      have hput : s.lockPut n e scope f.tag p = { s with locks := locks } := by
        unfold State.lockPut State.newLock; rw [hst]; rfl
      rw [placeLock_of_free _ (mt hsame.2 h) (Nat.not_le.2 h8) (findPosition_free hfree hlow), hst] at hplace
      have hwithin := within_placeSettled (s := s) (n := n) (d := e) (scope := scope) (tag := f.tag) (p := p)
      have hidle := place_idle (s := s) (n := n) (d := e) (scope := scope) (tag := f.tag) (p := p)
      have hengaged := place_engaged (s := s) (n := n) (d := e) (scope := scope) (tag := f.tag) (p := p)
      have hshedding := place_shedding (s := s) (n := n) (d := e) (scope := scope) (tag := f.tag) (p := p)
      have hshuts := place_shuts (s := s) (n := n) (d := e) (scope := scope) (tag := f.tag) (p := p)
      rw [hput] at hwithin
      rw [hst] at hidle
      generalize (s.place n e scope f.tag p).settle = u at hplace hwithin hidle hengaged hshedding hshuts
      have hholder : (u.answer (.station n) .placeLock .ok (u.placedField p e st)).holder (.station n)
          = some ⟨0x30, .ok, BitVec.ofNat 8 p.val :: BitVec.ofNat 8 st.place :: u.lockCountsField e⟩ :=
        putHolder_holder u (.station n) _
      refine ⟨_, _, hplace, hholder, (putHolder_locks _ _ _).trans hwithin.locks_eq, ?_, fun hs h0 ha hm hg => hidle hs h0 ha hm hg,
        fun hs h0 hm hg => ?_, fun hs h0 hm => ?_, fun hs hf z hz => hshuts hs hf hz⟩
      · rw [hholder]; exact hwithin.putHolder _ _
      · obtain ⟨hdish, hslot, hreserved⟩ := core_eq (hengaged hs h0 hm hg)
        exact ⟨congrArg Dish.group hdish, congrArg Dish.motion hdish, hslot, hreserved⟩
      · obtain ⟨⟨hmotion, hslot, -⟩, hshed⟩ := hshedding hs h0 hm
        obtain ⟨hmove, hresult⟩ := Prod.ext_iff.1 hshed
        exact ⟨hmotion, hslot, hmove, hresult⟩

end Sys2Proof.Machine
end
